-- ==== Sys2Proof/Word.lean ====
section
/-!
DEFINITION. The plain words of the model: bytes, positions, the numbers 1 to 8 of heads and hoops,
and a record of eight like things (00 "Conventions").
-/

namespace Sys2Proof

/-- A byte of the panel link (R168). -/
abbrev Byte := BitVec 8

/-- A position or displacement in units of 0.1 mm (00 "Distances"). -/
structure Pos where
  x : Int
  y : Int
  deriving DecidableEq, Repr

/-- The sum of two positions: the absolute position is the placement origin plus the relative one
(00 "Positions of a design"). -/
def Pos.add (p q : Pos) : Pos := ⟨p.x + q.x, p.y + q.y⟩

/-- The position (0, 0). -/
def Pos.zero : Pos := ⟨0, 0⟩

/-- The numbers 1 to 8: heads and hoops (00 "Numbering"). -/
inductive Id8 where
  | n1 | n2 | n3 | n4 | n5 | n6 | n7 | n8
  deriving DecidableEq, Repr

/-- A head, 1 to 8. -/
abbrev HeadId := Id8

/-- A hoop, 1 to 8. -/
abbrev HoopId := Id8

/-- The number a head or hoop is known by. -/
def Id8.num : Id8 → Nat
  | .n1 => 1 | .n2 => 2 | .n3 => 3 | .n4 => 4 | .n5 => 5 | .n6 => 6 | .n7 => 7 | .n8 => 8

/-- The head or hoop of a number; a number outside 1 to 8 has been refused before this is read. -/
def Id8.ofNum : Nat → Id8
  | 2 => .n2 | 3 => .n3 | 4 => .n4 | 5 => .n5 | 6 => .n6 | 7 => .n7 | 8 => .n8 | _ => .n1

/-- All eight, in order. -/
def Id8.all : List Id8 := [.n1, .n2, .n3, .n4, .n5, .n6, .n7, .n8]

/-- One value for each of the numbers 1 to 8. -/
structure Eight (α : Type) where
  v1 : α
  v2 : α
  v3 : α
  v4 : α
  v5 : α
  v6 : α
  v7 : α
  v8 : α
  deriving DecidableEq, Repr

/-- The value of one number. -/
def Eight.get {α : Type} (e : Eight α) : Id8 → α
  | .n1 => e.v1 | .n2 => e.v2 | .n3 => e.v3 | .n4 => e.v4
  | .n5 => e.v5 | .n6 => e.v6 | .n7 => e.v7 | .n8 => e.v8

/-- Replace the value of one number. -/
def Eight.set {α : Type} (e : Eight α) (i : Id8) (a : α) : Eight α :=
  match i with
  | .n1 => { e with v1 := a } | .n2 => { e with v2 := a }
  | .n3 => { e with v3 := a } | .n4 => { e with v4 := a }
  | .n5 => { e with v5 := a } | .n6 => { e with v6 := a }
  | .n7 => { e with v7 := a } | .n8 => { e with v8 := a }

/-- The same value for all eight. -/
def Eight.const {α : Type} (a : α) : Eight α := ⟨a, a, a, a, a, a, a, a⟩

/-- A value computed for each number. -/
def Eight.tabulate {α : Type} (f : Id8 → α) : Eight α :=
  ⟨f .n1, f .n2, f .n3, f .n4, f .n5, f .n6, f .n7, f .n8⟩

/-- Change the value of one number. -/
def Eight.update {α : Type} (e : Eight α) (i : Id8) (f : α → α) : Eight α := e.set i (f (e.get i))

/-- The two axes of the frame. -/
inductive Axis where
  | x | y
  deriving DecidableEq, Repr

end Sys2Proof
end

