-- ==== Sys2Proof/Config.lean ====
section
/-!
DEFINITION. What the part fixes once for all (its maxima and constants), and the free values: the
choices the manual leaves open, as constants without a body.
-/

namespace Sys2Proof.Config

/-- The ring of the Design Store (R1). -/
def storeCapacity : Nat := 16384

/-- The greatest design index (00 "Design indices"). -/
def maxIndex : Nat := 16777215

/-- Entries of the fault log (R157). -/
def maxLog : Nat := 32

/-- Ranges of one head's list (R133). -/
def maxRanges : Nat := 8

/-- Inbound slots, and places of the reply queue (R171, R172). -/
def linkPlaces : Nat := 4

/-- The greatest payload length (R169). -/
def maxPayload : Nat := 248

/-- Part code and revision (R165). -/
def partCode : Nat := 740

/-- The first revision of the part (R165). -/
def revision : Nat := 1

/-- FREE VALUE. The order in which FL takes conditions that reach it together, and whether it takes
each before or after the next cycle starts: the rules allow either order (R60, R122, R124, R134,
R150, R155; log 4). Arguments: the draw, and which choice of that draw. -/
opaque freeOrder : Nat → Nat → Nat

/-- FREE VALUE. How many whole units a MOVING axis has come on since the last step with an empty
queue (R33: its position is the last whole unit it has reached; log 3). Argument: the draw. -/
opaque freeUnits : Nat → Axis → Nat

end Sys2Proof.Config
end

