-- ==== Sys2Proof/Syntax.lean ====
section
/-!
DEFINITION. The commands of the block: one constructor for each row of opcode_table.json.
A row that is a command frame of the host carries the frame's TAG and payload bytes (R183, R185); a
row that is an event carries what the event brings (log 7).
-/

namespace Sys2Proof

/-- The four line rates the LINK_RATE straps select (R168). -/
inductive LineRate where
  | baud115200 | baud460800 | baud921600 | baud1843200
  deriving DecidableEq, Repr

/-- A command frame on the panel link: TYPE, TAG and payload (12.2). -/
structure Frame where
  type    : Byte
  tag     : Byte
  payload : List Byte
  deriving DecidableEq, Repr

/-- The commands and events of opcode_table.json. -/
inductive Instr where
  /-- POWER_ON (R167). -/
  | powerOn (rate : LineRate)
  /-- IDENT (R165). -/
  | ident (tag : Byte) (payload : List Byte)
  /-- CFG (R162). -/
  | cfg (tag : Byte) (payload : List Byte)
  /-- SETW (R163). -/
  | setw (tag : Byte) (payload : List Byte)
  /-- SETR (R164). -/
  | setr (tag : Byte) (payload : List Byte)
  /-- RST (R166). -/
  | rst (tag : Byte) (payload : List Byte)
  /-- STAT (R181). -/
  | stat (tag : Byte) (payload : List Byte)
  /-- HSTAT (R182). -/
  | hstat (tag : Byte) (payload : List Byte)
  /-- MASK (R179). -/
  | mask (tag : Byte) (payload : List Byte)
  /-- EVCLR (R180). -/
  | evclr (tag : Byte) (payload : List Byte)
  /-- DOPEN (R8). -/
  | dopen (tag : Byte) (payload : List Byte)
  /-- DDATA (R12). -/
  | ddata (tag : Byte) (payload : List Byte)
  /-- DUNST (R18). -/
  | dunst (tag : Byte) (payload : List Byte)
  /-- DABT (R19). -/
  | dabt (tag : Byte) (payload : List Byte)
  /-- DREAD (R20). -/
  | dread (tag : Byte) (payload : List Byte)
  /-- HOOPDEF (R29). -/
  | hoopdef (tag : Byte) (payload : List Byte)
  /-- HOOPSEL (R30). -/
  | hoopsel (tag : Byte) (payload : List Byte)
  /-- PLACE (R31). -/
  | place (tag : Byte) (payload : List Byte)
  /-- MOVE (R38). -/
  | move (tag : Byte) (payload : List Byte)
  /-- HOME (R86). -/
  | home (tag : Byte) (payload : List Byte)
  /-- RUN (R69). -/
  | run (tag : Byte) (payload : List Byte)
  /-- PAUSE (R74). -/
  | pause (tag : Byte) (payload : List Byte)
  /-- SPEED (R80). -/
  | speed (tag : Byte) (payload : List Byte)
  /-- BACK (R81). -/
  | back (tag : Byte) (payload : List Byte)
  /-- FWD (R82). -/
  | fwd (tag : Byte) (payload : List Byte)
  /-- CLOSE (R85). -/
  | close (tag : Byte) (payload : List Byte)
  /-- HEN (R96). -/
  | hen (tag : Byte) (payload : List Byte)
  /-- HDIS (R95). -/
  | hdis (tag : Byte) (payload : List Byte)
  /-- HJOIN (R94). -/
  | hjoin (tag : Byte) (payload : List Byte)
  /-- HLEAVE (R94). -/
  | hleave (tag : Byte) (payload : List Byte)
  /-- HCLR (R98). -/
  | hclr (tag : Byte) (payload : List Byte)
  /-- HRST (R97). -/
  | hrst (tag : Byte) (payload : List Byte)
  /-- HHOME (R104). -/
  | hhome (tag : Byte) (payload : List Byte)
  /-- BOB (R113). -/
  | bob (tag : Byte) (payload : List Byte)
  /-- PSET (R106). -/
  | pset (tag : Byte) (payload : List Byte)
  /-- PCLR (R106). -/
  | pclr (tag : Byte) (payload : List Byte)
  /-- PREAD (R105). -/
  | pread (tag : Byte) (payload : List Byte)
  /-- MCLR (R128). -/
  | mclr (tag : Byte) (payload : List Byte)
  /-- REJOIN (R138). -/
  | rejoin (tag : Byte) (payload : List Byte)
  /-- RREAD (R139). -/
  | rread (tag : Byte) (payload : List Byte)
  /-- RDROP (R140). -/
  | rdrop (tag : Byte) (payload : List Byte)
  /-- PATCH (R141). -/
  | patch (tag : Byte) (payload : List Byte)
  /-- FREAD (R158). -/
  | fread (tag : Byte) (payload : List Byte)
  /-- FDROP (R159). -/
  | fdrop (tag : Byte) (payload : List Byte)
  /-- CREAD (R160). -/
  | cread (tag : Byte) (payload : List Byte)
  /-- CREL (R160). -/
  | crel (tag : Byte) (payload : List Byte)
  /-- UNKNOWN_TYPE (R172). -/
  | unknownType (type tag : Byte) (payload : List Byte)
  /-- LRX_BYTE (R169). -/
  | lrxByte (byte : Byte) (framingError : Bool)
  /-- GAP_TIMEOUT (R170). -/
  | gapTimeout
  /-- LINK_BREAK (R174). -/
  | linkBreak
  /-- SEND_START (R173). -/
  | sendStart
  /-- TRANSMIT_COMPLETE (R173). -/
  | transmitComplete
  /-- ESTOP_INPUT_CHANGE (R154). -/
  | estopInputChange (asserted : Bool)
  /-- ESTOP_RECOGNISED (R154). -/
  | estopRecognised
  /-- ESTOP_RELEASE_RECOGNISED (R154). -/
  | estopReleaseRecognised
  /-- ENCODER_COUNT (R47). -/
  | encoderCount
  /-- ANGLE_COUNT_OVERFLOW (R47). -/
  | angleCountOverflow
  /-- FIND_COUNTS_EXHAUSTED (R48). -/
  | findCountsExhausted
  /-- STALL_TIMER_EXPIRY (R63). -/
  | stallTimerExpiry
  /-- INDEX_PULSE (R52). -/
  | indexPulse (durationNs : Nat)
  /-- THREAD_FEED_PULSE (R121). -/
  | threadFeedPulse (head : HeadId)
  /-- STOP_RESOLUTION (R76). -/
  | stopResolution
  /-- SELECTOR_PULSE (R100). -/
  | selectorPulse (head : HeadId)
  /-- SELECTOR_INDEX (R101). -/
  | selectorIndex (head : HeadId) (asserted : Bool)
  /-- SELECTOR_TIMEOUT (R102). -/
  | selectorTimeout (head : HeadId)
  /-- HOME_SWITCH (R41). -/
  | homeSwitch (axis : Axis) (asserted : Bool)
  /-- HOMING_DISTANCE_EXHAUSTED (R41). -/
  | homingDistanceExhausted (axis : Axis)
  /-- DRIVE_FAULT_ASSERT (R42). -/
  | driveFaultAssert (axis : Axis)
  /-- DRIVE_FAULT_RELEASE (R42). -/
  | driveFaultRelease (axis : Axis)
  /-- FRAME_MOVE_COMPLETE (R33). -/
  | frameMoveComplete
  /-- FRAME_MOVE_STOPPED (R33). -/
  | frameMoveStopped
  /-- PATCH_STOP_RESOLUTION (R143). -/
  | patchStopResolution
  /-- LRX_RETURNED_HIGH (R174). -/
  | lrxReturnedHigh
  /-- AXIS_LAST_STEP_ISSUED (R33). -/
  | axisLastStepIssued (axis : Axis)
  deriving DecidableEq, Repr

end Sys2Proof
end

