-- ==== Sys2Proof/Machine/State.lean ====
section
/-!
DEFINITION. The state of the part, block by block (00 "The part in outline"), as plain data; the
reasons a step can stop; and the state right after power-on (R167). Values the model names where the
spec gives none are in log 1 and log 2.
-/

namespace Sys2Proof.Machine

/-! ## Panel Link (10) -/

/-- The receiver (R169), with what it holds of a frame in progress. -/
inductive Receiver where
  /-- Hunting a start byte. -/
  | hunt
  /-- The header bytes taken so far: none, LEN, or LEN and TYPE. -/
  | header (got : List Byte)
  /-- LEN, TYPE and TAG are taken; the payload bytes so far. -/
  | payload (len type tag : Byte) (got : List Byte)
  /-- The payload is complete; the low CRC byte once it is taken. -/
  | crc (len type tag : Byte) (got : List Byte) (low : Option Byte)
  deriving DecidableEq, Repr

/-- The receive errors (R170) and OVERRUN (R171). -/
inductive LinkError where
  | gap | framing | length | crc | overrun
  deriving DecidableEq, Repr

/-- The five sticky link error flags (R170). -/
structure LinkFlags where
  gap : Bool
  framing : Bool
  length : Bool
  crc : Bool
  overrun : Bool
  deriving DecidableEq, Repr

/-- The report kinds in priority order (R176). -/
inductive ReportKind where
  | fault | state | opdone | head | color | load
  deriving DecidableEq, Repr

/-- What an outbound frame is: a reply, the reply of RST, a LINK_ERROR frame or a report. -/
inductive Purpose where
  | reply
  | rstReply
  | linkError
  | report (kind : ReportKind)
  deriving DecidableEq, Repr

/-- A frame on its way to LTX. -/
structure Outbound where
  frame : Frame
  purpose : Purpose
  deriving DecidableEq, Repr

/-- The Panel Link (R168 to R175). -/
structure Pl where
  /-- The line rate, from the straps (R168). -/
  rate : LineRate
  /-- The receiver (R169). -/
  rx : Receiver
  /-- LRX has stayed low since a recognised break (R174). -/
  lineLow : Bool
  /-- Held frames, oldest first (R171). -/
  slots : List Frame
  /-- The reply queue, oldest first (R172). -/
  replies : List Outbound
  /-- The frame being sent, or idle (R173). -/
  tx : Option Outbound
  /-- The link error flags (R170). -/
  errs : LinkFlags
  /-- RST is taken and its reset has not yet taken effect (R166). -/
  rstTaken : Bool
  /-- The part makes itself ready after power-on: READY is low (R167, R175). -/
  makingReady : Bool
  deriving DecidableEq, Repr

/-! ## Configuration (09) -/

/-- The machine configuration of one axis (R161). -/
structure AxisConfig where
  stepsPerUnit : Nat
  maxRate : Nat
  travelMin : Int
  travelMax : Int
  homeOffset : Int
  deriving DecidableEq, Repr

/-- The machine configuration (R161). -/
structure MachineConfig where
  headCount : Nat
  needleCount : Nat
  x : AxisConfig
  y : AxisConfig
  entryAngle : Nat
  trimAngle : Nat
  deriving DecidableEq, Repr

/-- The loose action setting (R163). -/
inductive LooseAction where
  | warn | stop
  deriving DecidableEq, Repr

/-- The isolation policy setting (R163). -/
inductive Policy where
  | stopAll | isolate
  deriving DecidableEq, Repr

/-- The settings record (R163). -/
structure Settings where
  hostSpeed : Nat
  mediumCap : Nat
  longCap : Nat
  jumpCap : Nat
  startSpeed : Nat
  settleCode : Nat
  breakFloor : Nat
  breakCount : Nat
  looseShort : Nat
  looseMedium : Nat
  looseLong : Nat
  looseCount : Nat
  looseAction : LooseAction
  warnThreshold : Nat
  bobbinLow : Nat
  retention : Nat
  pinLimit : Nat
  resumeMark : Nat
  loadMark : Nat
  policy : Policy
  isolationLimit : Nat
  selectorTimeout : Nat
  stallTime : Nat
  deriving DecidableEq, Repr

/-- The Configuration block: the lock, the machine configuration and the settings. -/
structure Cf where
  lock : Bool
  config : MachineConfig
  settings : Settings
  deriving DecidableEq, Repr

/-! ## Design Store (01) -/

/-- The six record kinds (00 "Terms"). -/
inductive RecordKind where
  | stitch | jump | trim | color | mark | endDesign
  deriving DecidableEq, Repr

/-- A stored record (R2); its index is its place in the store. `slot` is 0 where the kind has none. -/
structure StoredRecord where
  kind : RecordKind
  dx : Int
  dy : Int
  slot : Nat
  relAfter : Pos
  slotAfter : Option Nat
  deriving DecidableEq, Repr

/-- The design channel (R5). -/
inductive Channel where
  | closed | opened | stalled | finished
  deriving DecidableEq, Repr

/-- A rectangle: a hoop's field (R27), or the extents box (R21). -/
structure Rect where
  xMin : Int
  xMax : Int
  yMin : Int
  yMax : Int
  deriving DecidableEq, Repr

/-- The Design Store (R1 to R26). The ring holds the records T to L - 1; `records` lists them in
index order, so L is T plus its length and ring slot i modulo 16,384 is computed. -/
structure Ds where
  /-- T. -/
  tail : Nat
  /-- S. -/
  sew : Nat
  records : List StoredRecord
  tailPos : Pos
  tailSlot : Option Nat
  loadPos : Pos
  loadSlot : Option Nat
  box : Option Rect
  declared : Nat
  channel : Channel
  deriving DecidableEq, Repr

/-! ## Frame Controller (02) -/

/-- The axis states (R32). -/
inductive AxisState where
  | unhomed | homing | ready | moving | fault
  deriving DecidableEq, Repr

/-- An axis record (R32), with the units moved since a homing began (R40). -/
structure AxisRec where
  state : AxisState
  pos : Option Int
  target : Option Int
  homingUnits : Nat
  deriving DecidableEq, Repr

/-- The block that asked for a move, and why (R34 to R38). -/
inductive MoveOwner where
  /-- The cycle move of a record (R34). -/
  | cycle (index : Nat)
  /-- Travel to the position before S (R36). -/
  | returnTravel
  /-- A step of BACK or FWD (R36). -/
  | step
  /-- Travel to a range start (R36). -/
  | patchTravel
  /-- MOVE (R38). -/
  | manual
  deriving DecidableEq, Repr

/-- The move in flight (R33). -/
structure Move where
  owner : MoveOwner
  stopAsked : Bool
  deriving DecidableEq, Repr

/-- A cycle move that waits behind another (R34). -/
structure CycleMove where
  index : Nat
  target : Pos
  deriving DecidableEq, Repr

/-- The Frame Controller (R27 to R44). -/
structure Fc where
  hoops : Eight (Option Rect)
  active : Option HoopId
  origin : Pos
  x : AxisRec
  y : AxisRec
  offPosition : Bool
  move : Option Move
  waiting : List CycleMove
  deriving DecidableEq, Repr

/-! ## Shaft Controller (03) -/

/-- The shaft states (R45). -/
inductive ShaftState where
  | off | finding | stopped | turning | stopping
  deriving DecidableEq, Repr

/-- The plan mode (R45). -/
inductive PlanMode where
  | run
  | patch (b : Nat)
  deriving DecidableEq, Repr

/-- The cycle in progress, and which of its angle events have been given (R45, R47). -/
structure Cycle where
  index : Nat
  kind : RecordKind
  entryGiven : Bool
  trimGiven : Bool
  deriving DecidableEq, Repr

/-- The Shaft Controller (R45 to R65). -/
structure Sc where
  state : ShaftState
  /-- Absent in OFF. -/
  angle : Option Nat
  plan : Option PlanMode
  cycle : Option Cycle
  demanded : Nat
  previous : Nat
  measured : Nat
  cycleCount : BitVec 32
  /-- The stall time it runs for, or stopped. -/
  stallTimer : Option Nat
  deriving DecidableEq, Repr

/-! ## Run Controller (04) -/

/-- The fourteen run states (04, 12.5). -/
inductive RunState where
  | unconfigured | idle | travel | changing | running | stopping | held | paused
  | reposition | moving | homing | patch | ended | halted
  deriving DecidableEq, Repr

/-- The pause causes (R66). -/
inductive PauseCause where
  | host | mark | fault | pinLimit | noPlan | halt
  deriving DecidableEq, Repr

/-- The state an operation was started from (R66, R91). -/
inductive BaseState where
  | idle
  | paused (cause : Option PauseCause)
  | ended
  | halted
  deriving DecidableEq, Repr

/-- The scope of HOMING (R66). -/
inductive HomingScope where
  | all
  | head (h : HeadId)
  deriving DecidableEq, Repr

/-- The resume kind (R66). -/
inductive ResumeKind where
  | start | resume
  deriving DecidableEq, Repr

/-- A set of the stop causes HOST and FAULT (R66). -/
structure StopCauses where
  host : Bool
  fault : Bool
  deriving DecidableEq, Repr

/-- The stop points standing at an index (R56, R57). -/
structure StopPoints where
  color : Bool
  mark : Bool
  endRec : Bool
  endOfPending : Bool
  pin : Bool
  rangeEnd : Bool
  deriving DecidableEq, Repr

/-- A stop handed to RC and not yet resolved (R61). -/
structure Stop where
  lastSewn : Option Nat
  index : Nat
  raised : Bool
  points : StopPoints
  deriving DecidableEq, Repr

/-- The operation kinds (R90). -/
inductive OpKind where
  | home | hhome | move | back | fwd | patch
  deriving DecidableEq, Repr

/-- The operation results (R90). -/
inductive OpResult where
  | ok | stopped | failed | halted
  deriving DecidableEq, Repr

/-- The parts a HOME or HHOME names as failed (R90). -/
structure OpFailures where
  shaft : Bool
  x : Bool
  y : Bool
  heads : Eight Bool
  deriving DecidableEq, Repr

/-- The operation record (R90). -/
structure OpRecord where
  kind : Option OpKind
  tag : Byte
  result : Option OpResult
  failures : OpFailures
  counter : BitVec 16
  deriving DecidableEq, Repr

/-- The outcome of one axis of a HOME (R40). -/
inductive AxisOutcome where
  | homed | homeFail | driveFault | halted
  deriving DecidableEq, Repr

/-- How far a HOME has come (R87). -/
structure HomeWork where
  /-- The second stage has begun. -/
  second : Bool
  /-- Selectors whose outcome is still to come. -/
  await : Eight Bool
  xOutcome : Option AxisOutcome
  yOutcome : Option AxisOutcome
  /-- Selectors that ended with SELECTOR_TIMEOUT. -/
  failed : Eight Bool
  deriving DecidableEq, Repr

/-- How far a BACK or FWD has come (R83, R84). -/
structure RepoWork where
  forward : Bool
  stepsLeft : Nat
  pauseAsked : Bool
  deriving DecidableEq, Repr

/-- The patch run (R141): the range is held by its start and end. -/
structure PatchWork where
  head : HeadId
  a : Nat
  b : Nat
  p : Nat
  slot : Option Nat
  causes : StopCauses
  /-- The break-start index of a THREAD_BREAK of the patch head (R146). -/
  breakStart : Option Nat
  deriving DecidableEq, Repr

/-- The long operation in flight (R91). -/
inductive Work where
  | move
  | home (w : HomeWork)
  | hhome (h : HeadId)
  | repo (w : RepoWork)
  | patch (w : PatchWork)
  deriving DecidableEq, Repr

/-- The long operation in flight with its tag and base state (R90, R91). -/
structure LongOp where
  tag : Byte
  base : BaseState
  work : Work
  deriving DecidableEq, Repr

/-- The kind of a colour change (R107): record-driven with the COLOR's index, or a reconciliation. -/
inductive ChangeKind where
  | recordDriven (index : Nat)
  | reconciliation (index : Nat)
  deriving DecidableEq, Repr

/-- The colour change in flight (R107 to R109). -/
structure Change where
  slot : Nat
  kind : ChangeKind
  moved : Eight Bool
  stopAll : Bool
  paused : Bool
  deriving DecidableEq, Repr

/-- The Run Controller (R66 to R91). The base state and HOMING scope of R66 are kept in `op`. -/
structure Rc where
  runState : RunState
  runExists : Bool
  pauseCause : Option PauseCause
  resume : Option ResumeKind
  slotInEffect : Option Nat
  causes : StopCauses
  opRecord : OpRecord
  stop : Option Stop
  op : Option LongOp
  change : Option Change
  deriving DecidableEq, Repr

/-! ## Head Units (05) -/

/-- The head states (R93). -/
inductive HeadState where
  | off | standby | sewing | isolated
  deriving DecidableEq, Repr

/-- The selector record (R99). -/
inductive Selector where
  | unknown
  | atNeedle (n : Nat)
  /-- Target, the needle it began from, and the pulses still to come. -/
  | moving (target start left : Nat)
  | homing
  | jammed
  deriving DecidableEq, Repr

/-- A Head Unit (R92, R111). -/
structure Head where
  state : HeadState
  kept : Option HeadState
  faultFlag : Bool
  selector : Selector
  /-- The selector timeout it runs for, or stopped. -/
  selTimer : Option Nat
  bobbin : Option Nat
  lowLatch : Bool
  rest : Bool
  trimmer : Bool
  footDown : Bool
  engaged : Bool
  /-- The head takes part in the cycle in progress (R93). -/
  takesPart : Bool
  deriving DecidableEq, Repr

/-- An entry of the thread plan (R105): a slot and a needle for each configured head. -/
structure PlanEntry where
  slot : Nat
  needles : List Nat
  deriving DecidableEq, Repr

/-! ## Thread Monitor (06) -/

/-- The monitor states (R116). -/
inductive MonitorState where
  | off | settling | armed
  deriving DecidableEq, Repr

/-- The length classes of a STITCH (00 "Stitch length and class"). -/
inductive LengthClass where
  | short | medium | long
  deriving DecidableEq, Repr

/-- An open counting window (R121). -/
structure Window where
  pulses : Nat
  cls : LengthClass
  deriving DecidableEq, Repr

/-- A monitor channel (R115). -/
structure Monitor where
  state : MonitorState
  k : Nat
  bigK : Nat
  owed : Bool
  low : Nat
  high : Nat
  breakStart : Option Nat
  soft : Nat
  warnLatch : Bool
  window : Option Window
  deriving DecidableEq, Repr

/-! ## Range Table (07) -/

/-- A missed range (R133); an open one has no end. -/
structure Range where
  a : Nat
  b : Option Nat
  deriving DecidableEq, Repr

/-! ## Fault Log (08) -/

/-- The fault kinds (R149). -/
inductive FaultKind where
  | threadBreak | tensionLoose | bobbinEmpty | selectorTimeout | noPlan | moveLate | pinLimit
  | homeFail | shaftStall | axisDrive | estop
  deriving DecidableEq, Repr

/-- The actions (R149). -/
inductive Action where
  | stopAll | isolate | none | halt | failed
  deriving DecidableEq, Repr

/-- The part an entry names (R156). -/
inductive Part where
  | x | y | shaft
  deriving DecidableEq, Repr

/-- A fault entry (R156). -/
structure Entry where
  seq : BitVec 32
  kind : FaultKind
  action : Action
  runState : RunState
  cycleCount : BitVec 32
  part : Option Part
  head : Option HeadId
  needle : Option Nat
  slot : Option Nat
  index : Option Nat
  breakStart : Option Nat
  frameX : Option Int
  frameY : Option Int
  deriving DecidableEq, Repr

/-- A condition a block hands to FL (R149), with what the block says of it (R156). -/
inductive Condition where
  | threadBreak (h : HeadId) (needle slot : Option Nat) (index breakStart : Nat)
  | tensionLoose (h : HeadId) (needle slot : Option Nat) (index : Nat)
  | bobbinEmpty (h : HeadId) (needle slot : Option Nat) (index : Nat)
  /-- During a colour change: target needle, target slot, the change's kind and index. -/
  | selectorChange (h : HeadId) (needle slot : Nat) (kind : ChangeKind)
  /-- During HOME or HHOME. -/
  | selectorHoming (h : HeadId)
  | noPlan (slot index : Nat)
  /-- With the frame position at the deadline: the last whole unit of each axis (R35). -/
  | moveLate (slot : Option Nat) (index : Nat) (x y : Option Int)
  | pinLimit
  | homeFail (part : Part)
  | shaftStall (index : Option Nat)
  | axisDrive (axis : Axis)
  | estop
  deriving DecidableEq, Repr

/-- The Fault Log and the E-STOP recognition (R149 to R160). -/
structure Fl where
  /-- Oldest first. -/
  log : List Entry
  nextSeq : BitVec 32
  overflow : Bool
  /-- The captured entry: the capture is locked while it holds one. -/
  capture : Option Entry
  /-- The recognition state is ASSERTED (R154). -/
  estop : Bool
  /-- The 2 ms filter is timing an assertion. -/
  assertTiming : Bool
  /-- The 50 ms filter is timing a release. -/
  releaseTiming : Bool
  /-- Conditions handed over at the last index pulse and not yet taken (R155; log 4). -/
  waiting : List Condition
  deriving DecidableEq, Repr

/-! ## Report Unit (11) -/

/-- The event flags of one head and the marks of a HEAD report in sending (R178): bit 0 ISOLATED,
bit 1 FAULTED, bit 2 TENSION_WARN, bit 3 BOBBIN_LOW (12.5). -/
structure HeadFlags where
  flags : BitVec 4
  marks : BitVec 4
  deriving DecidableEq, Repr

/-- The Report Unit (R176 to R180). Bits of `pend` and `kindMask` as 12.5 gives them; the HEAD bit of
`pend` is never set, since HEAD is judged from the flags (R178). -/
structure Ru where
  pend : BitVec 6
  /-- The kinds a MASK has masked since the sending of the last report began (R173, R176, R179). -/
  maskedSince : BitVec 6
  kindMask : BitVec 6
  headMask : BitVec 8
  eventMask : BitVec 4
  heads : Eight HeadFlags
  deriving DecidableEq, Repr

/-! ## Input levels (00 "Physical lines") -/

/-- The levels of the inputs whose level matters later than the event that changed it (R40, R42,
R101, R154). -/
structure Pins where
  estop : Bool
  driveFaultX : Bool
  driveFaultY : Bool
  homeSwitchX : Bool
  homeSwitchY : Bool
  selIndex : Eight Bool
  deriving DecidableEq, Repr

/-! ## The whole -/

/-- Every block but the Panel Link. -/
structure Blocks where
  cf : Cf
  ds : Ds
  fc : Fc
  sc : Sc
  rc : Rc
  hu : Eight Head
  tp : List PlanEntry
  tm : Eight Monitor
  rt : Eight (List Range)
  fl : Fl
  ru : Ru
  pins : Pins
  /-- The model's own: the number of draws from the free values so far (log 3, log 4). -/
  draws : Nat
  deriving DecidableEq, Repr

/-- The state of the part, and the queue of the commands that are waiting for it. -/
structure State where
  pl : Pl
  blk : Blocks
  pending : List Instr
  deriving DecidableEq, Repr

/-- The reasons a step can stop with a fault: none. The part answers a command it does not take with
a result code and logs a fault of its machine; no row of the table stops it. -/
inductive Fault : Type
  deriving DecidableEq, Repr

/-- The reasons a step can be refused by the model. -/
inductive Refusal where
  /-- Raised by an arm of exec for a row that has no meaning yet (there is none left). Safe: the
  model says nothing of such a row. -/
  | notModelled (mnemonic : String)
  deriving DecidableEq, Repr

/-! ## Reset values -/

/-- No link error flag (R175). -/
def LinkFlags.clear : LinkFlags := ⟨false, false, false, false, false⟩

/-- The default settings (R163); the isolation limit follows the head count. -/
def Settings.default (headCount : Nat) : Settings :=
  { hostSpeed := 600, mediumCap := 900, longCap := 600, jumpCap := 600, startSpeed := 300,
    settleCode := 3, breakFloor := 2, breakCount := 4, looseShort := 12, looseMedium := 20,
    looseLong := 32, looseCount := 6, looseAction := .warn, warnThreshold := 20, bobbinLow := 500,
    retention := 1024, pinLimit := 8192, resumeMark := 64, loadMark := 4096, policy := .stopAll,
    isolationLimit := if headCount = 1 then 0 else 1, selectorTimeout := 800, stallTime := 300 }

/-- No configuration (R167; log 1 for the zeros). -/
def MachineConfig.none : MachineConfig := ⟨0, 0, ⟨0, 0, 0, 0, 0⟩, ⟨0, 0, 0, 0, 0⟩, 0, 0⟩

/-- The empty store (R6). -/
def Ds.empty : Ds := ⟨0, 0, [], Pos.zero, none, Pos.zero, none, none, 0, .closed⟩

/-- An axis that has not been homed (R44). -/
def AxisRec.unhomed : AxisRec := ⟨.unhomed, none, none, 0⟩

/-- FC after power-on (R44). -/
def Fc.reset : Fc :=
  ⟨Eight.const none, none, Pos.zero, AxisRec.unhomed, AxisRec.unhomed, false, none, []⟩

/-- SC after power-on and controller reset (R65). -/
def Sc.reset : Sc := ⟨.off, none, none, none, 0, 0, 0, 0#32, none⟩

/-- No stop cause. -/
def StopCauses.none : StopCauses := ⟨false, false⟩

/-- No failure. -/
def OpFailures.none : OpFailures := ⟨false, false, false, Eight.const false⟩

/-- RC after a reset, with the run state the reset gives (R66). -/
def Rc.reset (rs : RunState) : Rc :=
  ⟨rs, false, none, none, none, StopCauses.none, ⟨none, 0#8, none, OpFailures.none, 0#16⟩,
    none, none, none⟩

/-- The record of a head that is not configured (log 1): it reads as gated and takes no part. -/
def Head.absent : Head :=
  ⟨.off, none, false, .unknown, none, none, false, false, false, false, false, false⟩

/-- A configured head after CFG and after controller reset (R92). -/
def Head.fresh : Head := { Head.absent with state := .sewing }

/-- A monitor channel after CFG and after controller reset (R115). -/
def Monitor.fresh : Monitor := ⟨.off, 0, 0, false, 0, 0, none, 0, false, none⟩

/-- FL after power-on (R157). -/
def Fl.reset : Fl := ⟨[], 1#32, false, none, false, false, false, []⟩

/-- RU after power-on and controller reset: STATE alone is pending, nothing is masked (R176, R179). -/
def Ru.reset : Ru := ⟨0b000010#6, 0#6, 0#6, 0#8, 0#4, Eight.const ⟨0#4, 0#4⟩⟩

/-- No input asserted (log 2). -/
def Pins.released : Pins := ⟨false, false, false, false, false, Eight.const false⟩

/-- PL after power-on, once READY is high (R175). -/
def Pl.reset (rate : LineRate) : Pl :=
  ⟨rate, .hunt, false, [], [], none, LinkFlags.clear, false, false⟩

/-- The blocks after power-on (R167). -/
def Blocks.reset : Blocks :=
  { cf := ⟨false, MachineConfig.none, Settings.default 0⟩
    ds := Ds.empty
    fc := Fc.reset
    sc := Sc.reset
    rc := Rc.reset .unconfigured
    hu := Eight.const Head.absent
    tp := []
    tm := Eight.const Monitor.fresh
    rt := Eight.const []
    fl := Fl.reset
    ru := Ru.reset
    pins := Pins.released
    draws := 0 }

/-- The part right after power-on, with READY high and no command waiting (R167). -/
def State.reset : State := ⟨Pl.reset .baud115200, Blocks.reset, []⟩

end Sys2Proof.Machine
end

