-- ==== Sys2Proof/Machine/Operands.lean ====
section
/-!
DEFINITION. Fields of payloads (R183, R185): reading an operand, writing a reply field, and the codes
of 12.4 and 12.5.
-/

namespace Sys2Proof.Machine

/-! ## Reading -/

/-- The byte at a place of a payload, as a number. -/
def u8 (p : List Byte) (i : Nat) : Nat := (p.getD i 0#8).toNat

/-- An unsigned field of two bytes, lowest byte first (R183). -/
def u16 (p : List Byte) (i : Nat) : Nat := u8 p i + 256 * u8 p (i + 1)

/-- An unsigned field of three bytes. -/
def u24 (p : List Byte) (i : Nat) : Nat := u16 p i + 65536 * u8 p (i + 2)

/-- An unsigned field of four bytes. -/
def u32 (p : List Byte) (i : Nat) : Nat := u16 p i + 65536 * u16 p (i + 2)

/-- The two's-complement reading of a field of `w` values (R183). -/
def signed (w n : Nat) : Int := if n < w / 2 then (n : Int) else (n : Int) - (w : Int)

/-- A signed byte. -/
def s8 (p : List Byte) (i : Nat) : Int := signed 256 (u8 p i)

/-- A signed field of two bytes. -/
def s16 (p : List Byte) (i : Nat) : Int := signed 65536 (u16 p i)

/-- A frame position: X then Y (R185). -/
def pos16 (p : List Byte) (i : Nat) : Pos := ⟨s16 p i, s16 p (i + 2)⟩

/-- The head or hoop a byte names. -/
def id8At (p : List Byte) (i : Nat) : Id8 := Id8.ofNum (u8 p i)

/-! ## Writing -/

/-- One byte. -/
def enc8 (n : Nat) : List Byte := [BitVec.ofNat 8 n]

/-- Two bytes, lowest first. -/
def enc16 (n : Nat) : List Byte := [BitVec.ofNat 8 n, BitVec.ofNat 8 (n / 256)]

/-- Three bytes, lowest first. -/
def enc24 (n : Nat) : List Byte := enc16 n ++ enc8 (n / 65536)

/-- Four bytes, lowest first. -/
def enc32 (n : Nat) : List Byte := enc16 n ++ enc16 (n / 65536)

/-- A signed field's two's complement in `w` values. -/
def twos (w : Nat) (z : Int) : Nat := (z % (w : Int)).toNat

/-- A signed byte. -/
def encS8 (z : Int) : List Byte := enc8 (twos 256 z)

/-- A signed field of two bytes. -/
def encS16 (z : Int) : List Byte := enc16 (twos 65536 z)

/-- A signed field of four bytes. -/
def encS32 (z : Int) : List Byte := enc32 (twos 4294967296 z)

/-- A flag: 0 clear, 1 set (R185). -/
def encFlag (b : Bool) : List Byte := [if b then 1#8 else 0#8]

/-- A frame position: X then Y. -/
def encPos16 (p : Pos) : List Byte := encS16 p.x ++ encS16 p.y

/-- A field that may be absent and has 0 among its values: a presence byte, then the field, zero when
absent (R185). -/
def encOpt (width : Nat) (enc : Nat → List Byte) : Option Nat → List Byte
  | none => 0#8 :: List.replicate width 0#8
  | some n => 1#8 :: enc n

/-- A field of one byte that reads 0 when absent (R185). -/
def encOrZero : Option Nat → List Byte
  | none => enc8 0
  | some n => enc8 n

/-! ## Result codes (12.4) -/

/-- The result codes. -/
inductive Code where
  | ok | unknown | length | value | state | unconfigured | locked | busy | noHead | headOff | noHoop
  | notHomed | estop | closed | full | gap | format | field | count | afterEnd | stalled | notHeld
  | faultPending | noHeads | pinLimit | empty | rangesLeft | noRange
  deriving DecidableEq, Repr

/-- The values of the result codes (12.4). -/
def Code.byte : Code → Byte
  | .ok => 0x00#8 | .unknown => 0x01#8 | .length => 0x02#8 | .value => 0x03#8 | .state => 0x04#8
  | .unconfigured => 0x05#8 | .locked => 0x06#8 | .busy => 0x07#8 | .noHead => 0x08#8
  | .headOff => 0x09#8 | .noHoop => 0x0A#8 | .notHomed => 0x0B#8 | .estop => 0x0C#8
  | .closed => 0x0D#8 | .full => 0x0E#8 | .gap => 0x0F#8 | .format => 0x10#8 | .field => 0x11#8
  | .count => 0x12#8 | .afterEnd => 0x13#8 | .stalled => 0x14#8 | .notHeld => 0x15#8
  | .faultPending => 0x16#8 | .noHeads => 0x17#8 | .pinLimit => 0x18#8 | .empty => 0x19#8
  | .rangesLeft => 0x1A#8 | .noRange => 0x1B#8

/-- The refusal of the first condition that fails, in order (every command's rule tests its
conditions so). -/
def firstRefusal : List (Bool × Code) → Option Code
  | [] => none
  | (holds, code) :: rest => if holds then firstRefusal rest else some code

/-! ## Codes of states and kinds (12.5) -/

/-- Run state. -/
def RunState.code : RunState → Nat
  | .unconfigured => 0 | .idle => 1 | .travel => 2 | .changing => 3 | .running => 4 | .stopping => 5
  | .held => 6 | .paused => 7 | .reposition => 8 | .moving => 9 | .homing => 10 | .patch => 11
  | .ended => 12 | .halted => 13

/-- Pause cause, 0 when absent. -/
def pauseCode : Option PauseCause → Nat
  | none => 0 | some .host => 1 | some .mark => 2 | some .fault => 3 | some .pinLimit => 4
  | some .noPlan => 5 | some .halt => 6

/-- Channel. -/
def Channel.code : Channel → Nat
  | .closed => 0 | .opened => 1 | .stalled => 2 | .finished => 3

/-- Axis state. -/
def AxisState.code : AxisState → Nat
  | .unhomed => 0 | .homing => 1 | .ready => 2 | .moving => 3 | .fault => 4

/-- Shaft state. -/
def ShaftState.code : ShaftState → Nat
  | .off => 0 | .finding => 1 | .stopped => 2 | .turning => 3 | .stopping => 4

/-- Head state. -/
def HeadState.code : HeadState → Nat
  | .off => 0 | .standby => 1 | .sewing => 2 | .isolated => 3

/-- Fault kind. -/
def FaultKind.code : FaultKind → Nat
  | .threadBreak => 1 | .tensionLoose => 2 | .bobbinEmpty => 3 | .selectorTimeout => 4 | .noPlan => 5
  | .moveLate => 6 | .pinLimit => 7 | .homeFail => 8 | .shaftStall => 9 | .axisDrive => 10
  | .estop => 11

/-- Action. -/
def Action.code : Action → Nat
  | .stopAll => 1 | .isolate => 2 | .none => 3 | .halt => 4 | .failed => 5

/-- Part. -/
def Part.code : Part → Nat
  | .x => 1 | .y => 2 | .shaft => 3

/-- Operation kind, 0 when absent. -/
def opKindCode : Option OpKind → Nat
  | none => 0 | some .home => 1 | some .hhome => 2 | some .move => 3 | some .back => 4
  | some .fwd => 5 | some .patch => 6

/-- Operation result, 0 when absent. -/
def opResultCode : Option OpResult → Nat
  | none => 0 | some .ok => 1 | some .stopped => 2 | some .failed => 3 | some .halted => 4

/-- A set of the heads, bit 0 head 1 to bit 7 head 8. -/
def headSet (e : Eight Bool) : Nat :=
  e.v1.toNat + 2 * e.v2.toNat + 4 * e.v3.toNat + 8 * e.v4.toNat + 16 * e.v5.toNat
    + 32 * e.v6.toNat + 64 * e.v7.toNat + 128 * e.v8.toNat

/-- An operation's failures: two bytes (12.5). -/
def OpFailures.bytes (f : OpFailures) : List Byte :=
  enc8 (f.shaft.toNat + 2 * f.x.toNat + 4 * f.y.toNat) ++ enc8 (headSet f.heads)

/-- A selector state: its code and a needle byte (R185). -/
def Selector.bytes : Selector → List Byte
  | .unknown => enc8 0 ++ enc8 0
  | .atNeedle n => enc8 1 ++ enc8 n
  | .moving target _ _ => enc8 2 ++ enc8 target
  | .homing => enc8 3 ++ enc8 0
  | .jammed => enc8 4 ++ enc8 0

/-- Monitor state. -/
def MonitorState.code : MonitorState → Nat
  | .off => 0 | .settling => 1 | .armed => 2

/-- The kind code of a record (R184). -/
def RecordKind.code : RecordKind → Nat
  | .stitch => 1 | .jump => 2 | .trim => 3 | .color => 4 | .mark => 5 | .endDesign => 6

/-- The record kind of a kind code (R184). -/
def RecordKind.ofCode : Nat → Option RecordKind
  | 1 => some .stitch | 2 => some .jump | 3 => some .trim | 4 => some .color | 5 => some .mark
  | 6 => some .endDesign | _ => none

/-- A report's TYPE (12.2). -/
def ReportKind.type : ReportKind → Byte
  | .fault => 0xE0#8 | .state => 0xE1#8 | .opdone => 0xE2#8 | .head => 0xE3#8 | .color => 0xE4#8
  | .load => 0xE5#8

/-- A LINK_ERROR's kind byte (R183). -/
def LinkError.byte : LinkError → Byte
  | .gap => 1#8 | .framing => 2#8 | .length => 3#8 | .crc => 4#8 | .overrun => 5#8

/-- The TYPE of a LINK_ERROR frame (12.2). -/
def linkErrorType : Byte := 0xEF#8

/-- The link error flags as STAT carries them: bit 0 GAP to bit 4 OVERRUN (12.7). -/
def LinkFlags.code (f : LinkFlags) : Nat :=
  f.gap.toNat + 2 * f.framing.toNat + 4 * f.length.toNat + 8 * f.crc.toNat + 16 * f.overrun.toNat

/-! ## The fault entry (12.6) -/

/-- The presence bit of an optional field. -/
def presence {α : Type} (o : Option α) (bit : Nat) : Nat := if o.isSome then 2 ^ bit else 0

/-- The 28 bytes of an entry (12.6). -/
def Entry.bytes (e : Entry) : List Byte :=
  enc32 e.seq.toNat ++ enc8 e.kind.code ++ enc8 e.action.code ++ enc8 e.runState.code
    ++ enc8 (presence e.part 0 + presence e.head 1 + presence e.needle 2 + presence e.slot 3
        + presence e.index 4 + presence e.breakStart 5 + presence e.frameX 6 + presence e.frameY 7)
    ++ enc32 e.cycleCount.toNat ++ enc8 ((e.part.map Part.code).getD 0)
    ++ enc8 ((e.head.map Id8.num).getD 0) ++ enc8 (e.needle.getD 0) ++ enc8 (e.slot.getD 0)
    ++ enc32 (e.index.getD 0) ++ enc24 (e.breakStart.getD 0) ++ enc8 0
    ++ encS16 (e.frameX.getD 0) ++ encS16 (e.frameY.getD 0)

/-! ## The wire (R169, 12.2) -/

/-- One bit of the CRC: polynomial x^16 + x^12 + x^5 + 1 (R169). -/
def crcBit (c : BitVec 16) : BitVec 16 :=
  if c.msb then (c <<< 1) ^^^ 0x1021#16 else c <<< 1

/-- `n` bits of the CRC. -/
def crcBits : Nat → BitVec 16 → BitVec 16
  | 0, c => c
  | n + 1, c => crcBits n (crcBit c)

/-- One byte of the CRC, bits taken most significant first (R169). -/
def crcByte (c : BitVec 16) (b : Byte) : BitVec 16 :=
  crcBits 8 (c ^^^ (b.setWidth 16 <<< 8))

/-- The CRC of a list of bytes: initial value of all ones, no final inversion (R169). -/
def crc16 (bytes : List Byte) : BitVec 16 := bytes.foldl crcByte 0xFFFF#16

/-- The bytes of a frame the CRC covers: LEN to the last payload byte (12.2). -/
def frameBody (f : Frame) : List Byte :=
  BitVec.ofNat 8 f.payload.length :: f.type :: f.tag :: f.payload

/-- The bytes of a frame on the line (12.2). -/
def frameWire (f : Frame) : List Byte :=
  0xA5#8 :: frameBody f ++ enc16 (crc16 (frameBody f)).toNat

end Sys2Proof.Machine
end

