-- ==== Sys2Proof/Machine/Flags.lean ====
section
/-!
DEFINITION. The flags the part keeps and reports: the pending report set and its masks (R176, R179),
the head event flags (R178), and the link error flags (R170).
-/

namespace Sys2Proof.Machine

/-! ## The pending report set -/

/-- The bit of a report kind (12.5). -/
def ReportKind.bit : ReportKind → BitVec 6
  | .fault => 0b000001#6 | .state => 0b000010#6 | .opdone => 0b000100#6 | .head => 0b001000#6
  | .color => 0b010000#6 | .load => 0b100000#6

/-- A block raises a kind: it becomes pending unless it is masked (R176). -/
def Ru.raise (r : Ru) (k : ReportKind) : Ru := { r with pend := r.pend ||| (k.bit &&& ~~~r.kindMask) }

/-- A kind leaves the pending set (R173). -/
def Ru.takeOff (r : Ru) (k : ReportKind) : Ru := { r with pend := r.pend &&& ~~~k.bit }

/-! ## Head events -/

/-- The head events (R178). -/
inductive HeadEvent where
  | isolated | faulted | tensionWarn | bobbinLow
  deriving DecidableEq, Repr

/-- The bit of a head event (12.5). -/
def HeadEvent.bit : HeadEvent → BitVec 4
  | .isolated => 0b0001#4 | .faulted => 0b0010#4 | .tensionWarn => 0b0100#4 | .bobbinLow => 0b1000#4

/-- Setting a flag: whatever the masks say; a marked flag loses its mark (R178). -/
def HeadFlags.set (f : HeadFlags) (e : HeadEvent) : HeadFlags :=
  ⟨f.flags ||| e.bit, f.marks &&& ~~~e.bit⟩

/-- Clearing named flags: each loses its mark too (R178, R180). -/
def HeadFlags.clear (f : HeadFlags) (which : BitVec 4) : HeadFlags :=
  ⟨f.flags &&& ~~~which, f.marks &&& ~~~which⟩

/-- The last byte of a HEAD report: the flags still marked are cleared, the marks removed (R178). -/
def HeadFlags.sent (f : HeadFlags) : HeadFlags := ⟨f.flags &&& ~~~f.marks, 0#4⟩

/-- Raise a head event. -/
def Ru.headEvent (r : Ru) (h : HeadId) (e : HeadEvent) : Ru :=
  { r with heads := r.heads.update h (·.set e) }

/-- A head's mark in the head mask (bit 0 head 1). -/
def Ru.headMasked (r : Ru) (h : HeadId) : Bool := r.headMask.getLsbD (h.num - 1)

/-- A head contributes to HEAD: it is not OFF (`isOff`), not masked, and has a flag that is set, not
in report, and of an unmasked kind (R178). -/
def Ru.contributes (r : Ru) (isOff : Bool) (h : HeadId) : Bool :=
  !isOff && !r.headMasked h &&
    ((r.heads.get h).flags &&& ~~~(r.heads.get h).marks &&& ~~~r.eventMask) != 0#4

/-- HEAD is pending: the kind is unmasked and a head contributes (R178). -/
def Ru.headPending (r : Ru) (off : Eight Bool) : Bool :=
  (r.kindMask &&& ReportKind.head.bit) == 0#6 &&
    Id8.all.any (fun h => r.contributes (off.get h) h)

/-- The pending set with HEAD judged (R176, R181). -/
def Ru.pendingSet (r : Ru) (off : Eight Bool) : BitVec 6 :=
  if r.headPending off then r.pend ||| ReportKind.head.bit else r.pend

/-- The kind of highest priority of a pending set (R176). -/
def firstPending (p : BitVec 6) : Option ReportKind :=
  [ReportKind.fault, .state, .opdone, .head, .color, .load].find? (fun k => (p &&& k.bit) != 0#6)

/-- MASK: the masks are replaced and each kind now masked leaves the set (R179); a report in sending
remembers that its kind has been masked (R173). -/
def Ru.setMasks (r : Ru) (kinds : BitVec 6) (heads : BitVec 8) (events : BitVec 4) : Ru :=
  { r with pend := r.pend &&& ~~~kinds, maskedSince := r.maskedSince ||| kinds, kindMask := kinds,
           headMask := heads, eventMask := events }

/-- The sending of a report of a kind begins: the kind leaves the pending set (R173), and from now on
its maskings count (R176). -/
def Ru.beginSending (r : Ru) (k : ReportKind) : Ru := { r.takeOff k with maskedSince := 0#6 }

/-- An abandoned kind is pending again, unless it is masked or has been masked since its sending began
(R173, R176, R179). -/
def Ru.pendAgain (r : Ru) (k : ReportKind) : Ru :=
  { r with pend := r.pend ||| (k.bit &&& ~~~(r.kindMask ||| r.maskedSince)) }

/-- Building a HEAD report: each flag it carries is marked in report (R178). -/
def Ru.markCarried (r : Ru) (off : Eight Bool) : Ru :=
  { r with heads := Eight.tabulate (fun h =>
      if r.contributes (off.get h) h then
        { r.heads.get h with marks := (r.heads.get h).flags &&& ~~~r.eventMask }
      else r.heads.get h) }

/-- The last byte of a HEAD report (R178). -/
def Ru.headSent (r : Ru) : Ru :=
  { r with heads := Eight.tabulate (fun h => (r.heads.get h).sent) }

/-- A link reset abandons a HEAD report: the marks are removed, the flags stand (R178). -/
def Ru.unmarkAll (r : Ru) : Ru :=
  { r with heads := Eight.tabulate (fun h => { r.heads.get h with marks := 0#4 }) }

/-- Every event flag clear (R178: CFG). -/
def Ru.clearFlags (r : Ru) : Ru := { r with heads := Eight.const ⟨0#4, 0#4⟩ }

/-! ## Link error flags -/

/-- A receive error sets its flag; it stays set until STAT reads it (R170). -/
def LinkFlags.set (f : LinkFlags) : LinkError → LinkFlags
  | .gap => { f with gap := true }
  | .framing => { f with framing := true }
  | .length => { f with length := true }
  | .crc => { f with crc := true }
  | .overrun => { f with overrun := true }

end Sys2Proof.Machine
end

