-- ==== Sys2Proof/Machine/Store.lean ====
section
/-!
DEFINITION. The Design Store by itself: pointers and regions, the values before an index, the checks
of a record, taking and releasing records, and the moves of S (01).
-/

namespace Sys2Proof.Machine

/-- L, the load point: the index the next record takes (00 "Store pointers"). -/
def Ds.load (d : Ds) : Nat := d.tail + d.records.length

/-- pending = L - S (R1). -/
def Ds.pending (d : Ds) : Nat := d.load - d.sew

/-- history = S - T (R1). -/
def Ds.history (d : Ds) : Nat := d.sew - d.tail

/-- free = 16,384 - (L - T) (R1). -/
def Ds.free (d : Ds) : Nat := Config.storeCapacity - d.records.length

/-- The ring slot of an index (R1). -/
def ringSlot (i : Nat) : Nat := i % Config.storeCapacity

/-- The record of an index, when it is held (R4). -/
def Ds.record (d : Ds) (i : Nat) : Option StoredRecord :=
  if d.tail ≤ i then d.records[i - d.tail]? else none

/-- END is loaded (00 "channel"). -/
def Ds.endLoaded (d : Ds) : Bool := d.channel == .finished

/-- The position before an index from T to L (R3). -/
def Ds.posBefore (d : Ds) (i : Nat) : Option Pos :=
  if i = d.tail then some d.tailPos
  else if d.tail < i then (d.record (i - 1)).map (·.relAfter)
  else none

/-- The slot in effect before an index from T to L (R3); absent before record 0. -/
def Ds.slotBefore (d : Ds) (i : Nat) : Option Nat :=
  if i = d.tail then d.tailSlot
  else if d.tail < i then (d.record (i - 1)).bind (·.slotAfter)
  else none

/-- The length of a displacement (R2). -/
def lengthOf (dx dy : Int) : Nat := max dx.natAbs dy.natAbs

/-- The length class (R2). -/
def classOf (dx dy : Int) : LengthClass :=
  if lengthOf dx dy ≤ 30 then .short else if lengthOf dx dy ≤ 70 then .medium else .long

/-! ## Taking records -/

/-- Widen the extents box (R21). -/
def widen (box : Option Rect) (p : Pos) : Rect :=
  match box with
  | none => ⟨p.x, p.x, p.y, p.y⟩
  | some r => ⟨min r.xMin p.x, max r.xMax p.x, min r.yMin p.y, max r.yMax p.y⟩

/-- A position lies in a rectangle, bounds included (R27). -/
def Rect.holds (r : Rect) (p : Pos) : Bool :=
  decide (r.xMin ≤ p.x ∧ p.x ≤ r.xMax ∧ r.yMin ≤ p.y ∧ p.y ≤ r.yMax)

/-- A record as a DDATA frame carries it (R184). -/
structure RawRecord where
  code : Byte
  d1 : Byte
  d2 : Byte
  deriving DecidableEq, Repr

/-- The records of a payload after f and n, three bytes each (R184). -/
def rawRecords : List Byte → List RawRecord
  | a :: b :: c :: rest => ⟨a, b, c⟩ :: rawRecords rest
  | _ => []

/-- The FORMAT check (R13, R184): the record with its kind, displacement and slot, or none. -/
def formatCheck (index : Nat) (r : RawRecord) : Option (RecordKind × Int × Int × Nat) :=
  let dx := signed 256 r.d1.toNat
  let dy := signed 256 r.d2.toNat
  let moves := r.d1 != 0x80#8 && r.d2 != 0x80#8
  let blank := r.d1 == 0#8 && r.d2 == 0#8
  match RecordKind.ofCode r.code.toNat with
  | none => none
  | some .color =>
    if 1 ≤ r.d1.toNat ∧ r.d1.toNat ≤ 32 ∧ r.d2 = 0#8 then some (.color, 0, 0, r.d1.toNat) else none
  | some k =>
    if index = 0 then none
    else match k with
      | .stitch => if moves && decide (lengthOf dx dy ≤ 121) then some (.stitch, dx, dy, 0) else none
      | .jump => if moves then some (.jump, dx, dy, 0) else none
      | .trim => if blank then some (.trim, 0, 0, 0) else none
      | .mark => if blank then some (.mark, 0, 0, 0) else none
      | .endDesign => if blank then some (.endDesign, 0, 0, 0) else none
      | .color => none

/-- The COUNT check (R14). -/
def countCheck (declared index : Nat) (kind : RecordKind) : Bool :=
  (index != Config.maxIndex || kind == .endDesign) &&
    (declared == 0 || ((kind == .endDesign) == (index + 1 == declared)))

/-- The stored record a record becomes at the load point (R2, R16). -/
def Ds.stored (d : Ds) (k : RecordKind) (dx dy : Int) (slot : Nat) : StoredRecord :=
  { kind := k, dx := dx, dy := dy, slot := slot
    relAfter := d.loadPos.add ⟨dx, dy⟩
    slotAfter := if k = .color then some slot else d.loadSlot }

/-- The three checks of an offered record, in order: FORMAT, COUNT, FIELD (R12 to R15). The FIELD
check uses the active hoop's field and the placement origin as they stand. -/
def Ds.check (d : Ds) (field : Option Rect) (origin : Pos) (r : RawRecord) :
    Except Code StoredRecord :=
  match formatCheck d.load r with
  | none => .error .format
  | some (k, dx, dy, slot) =>
    if !countCheck d.declared d.load k then .error .count
    else
      let rec' := d.stored k dx dy slot
      match field with
      | none => .error .field
      | some f => if f.holds (origin.add rec'.relAfter) then .ok rec' else .error .field

/-- Taking a record (R16); END makes the channel FINISHED (R12). -/
def Ds.take (d : Ds) (r : StoredRecord) : Ds :=
  { d with
    records := d.records ++ [r]
    loadPos := r.relAfter
    loadSlot := r.slotAfter
    box := some (widen d.box r.relAfter)
    channel := if r.kind = .endDesign then .finished else d.channel }

/-! ## Moving S and releasing the tail -/

/-- S grows by one, when there is a record to pass (R22). -/
def Ds.advance (d : Ds) : Ds := if d.sew < d.load then { d with sew := d.sew + 1 } else d

/-- S falls by one, when the history is not empty (R22). -/
def Ds.stepBack (d : Ds) : Ds := if d.tail < d.sew then { d with sew := d.sew - 1 } else d

/-- The release test's condition (R23). -/
def Ds.mayRelease (d : Ds) (h : Nat) (e : Option Nat) : Bool :=
  decide (h < d.history) && (match e with | none => true | some e => decide (d.tail < e))

/-- Record T is released: its values become the tail values, and T grows by one (R3, R23). -/
def Ds.releaseOne (d : Ds) : Ds :=
  match d.records with
  | [] => d
  | r :: rest =>
    { d with tail := d.tail + 1, records := rest, tailPos := r.relAfter, tailSlot := r.slotAfter }

/-- A change of free crosses the load mark (R26). -/
def crosses (mark before after : Nat) : Bool := decide (before < mark ∧ mark ≤ after)

/-- The release test, at most `n` times over: the store after it, and whether a release crossed the
load mark (R23, R26). -/
def Ds.releaseLoop (h : Nat) (e : Option Nat) (mark : Nat) : Nat → Ds → Bool → Ds × Bool
  | 0, d, crossed => (d, crossed)
  | n + 1, d, crossed =>
    if d.mayRelease h e then
      Ds.releaseLoop h e mark n d.releaseOne (crossed || crosses mark d.free d.releaseOne.free)
    else (d, crossed)

/-- The release test (R23): it can release no more records than are held. -/
def Ds.release (d : Ds) (h : Nat) (e : Option Nat) (mark : Nat) : Ds × Bool :=
  Ds.releaseLoop h e mark d.records.length d false

/-- The store opened by DOPEN (R8). -/
def Ds.openDesign (declared : Nat) : Ds := { Ds.empty with declared := declared, channel := .opened }

end Sys2Proof.Machine
end

