-- ==== Sys2Proof/Machine/Ops.lean ====
section
/-!
DEFINITION. The operations that several rows share: raising reports, run state changes, the store's
moves with the release test, the range lists, the frame's moves, ending operations and patches, the
halt, and the taking of a condition by the Fault Log (R150), which is this block's one shared way to
answer a fault.
-/

namespace Sys2Proof.Machine

/-! ## Reports and the run state -/

/-- Raise a report kind (R176). -/
def Blocks.raise (b : Blocks) (k : ReportKind) : Blocks := { b with ru := b.ru.raise k }

/-- Raise a head event (R178). -/
def Blocks.headEvent (b : Blocks) (h : HeadId) (e : HeadEvent) : Blocks :=
  { b with ru := b.ru.headEvent h e }

/-- Change the run state and the pause cause; a change raises STATE (R67). -/
def Blocks.goto (b : Blocks) (rs : RunState) (cause : Option PauseCause) : Blocks :=
  if b.rc.runState = rs ∧ b.rc.pauseCause = cause then b
  else { b with rc.runState := rs, rc.pauseCause := cause, ru := b.ru.raise .state }

/-- The run state is one of a list. -/
def Blocks.runIn (b : Blocks) (l : List RunState) : Bool := l.contains b.rc.runState

/-! ## Heads -/

/-- The head exists for the part: its number is at or below the head count (05 intro). -/
def Blocks.configured (b : Blocks) (h : HeadId) : Bool := decide (h.num ≤ b.cf.config.headCount)

/-- Change one head's record. -/
def Blocks.modHead (b : Blocks) (h : HeadId) (f : Head → Head) : Blocks :=
  { b with hu := b.hu.update h f }

/-- Change one head's monitor channel. -/
def Blocks.modMonitor (b : Blocks) (h : HeadId) (f : Monitor → Monitor) : Blocks :=
  { b with tm := b.tm.update h f }

/-- Which heads are OFF. -/
def Blocks.offHeads (b : Blocks) : Eight Bool :=
  Eight.tabulate (fun h => (b.hu.get h).state == .off)

/-- The heads of a state, counted. -/
def Blocks.countState (b : Blocks) (st : HeadState) : Nat :=
  (Id8.all.filter (fun h => b.configured h && (b.hu.get h).state == st)).length

/-- The needle at which a selector stands (R156). -/
def Selector.needle : Selector → Option Nat
  | .atNeedle n => some n
  | _ => none

/-- A selector in motion. -/
def Selector.busy : Selector → Bool
  | .moving _ _ _ => true
  | .homing => true
  | _ => false

/-- Foot up, needle bar disengaged, trimmer off, no part in a cycle (R111, R112). -/
def Head.relax (h : Head) : Head :=
  { h with trimmer := false, footDown := false, engaged := false, takesPart := false }

/-- Every head at rest (R111). -/
def Blocks.relaxHeads (b : Blocks) : Blocks :=
  { b with hu := Eight.tabulate (fun h => (b.hu.get h).relax) }

/-- The consecutive counts become 0 and the break-start index absent (R126). -/
def Monitor.zeroCounts (m : Monitor) : Monitor := { m with low := 0, high := 0, breakStart := none }

/-- The monitor becomes OFF, progress 0 of 0 (R116). -/
def Monitor.turnOff (m : Monitor) : Monitor := { m with state := .off, k := 0, bigK := 0 }

/-- A head leaves SEWING: its monitor becomes OFF at once, or at the end of the cycle it takes part
in (R116). -/
def Blocks.monitorLeaves (b : Blocks) (h : HeadId) : Blocks :=
  if b.sc.cycle.isSome && (b.hu.get h).takesPart then b else b.modMonitor h Monitor.turnOff

/-! ## Ranges, E and the store -/

/-- The lesser of two optional starts. -/
def minStart : Option Nat → Nat → Option Nat
  | none, a => some a
  | some e, a => some (min e a)

/-- E: the least start among all ranges of all heads (R136). -/
def earliest (rt : Eight (List Range)) : Option Nat :=
  (Id8.all.flatMap (fun h => (rt.get h).map (·.a))).foldl minStart none

/-- E of the part. -/
def Blocks.e (b : Blocks) : Option Nat := earliest b.rt

/-- The pin stop point E + P (00 "P"). -/
def Blocks.pinStop (b : Blocks) : Option Nat := b.e.map (· + b.cf.settings.pinLimit)

/-- The release test with the settings and E as they stand; a crossing raises LOAD (R23, R26). -/
def Blocks.releaseTest (b : Blocks) : Blocks :=
  let r := b.ds.release b.cf.settings.retention b.e b.cf.settings.loadMark
  let b' := { b with ds := r.1 }
  if r.2 then b'.raise .load else b'

/-- RC reads the slot in effect before S again (R68). -/
def Blocks.readSlot (b : Blocks) : Blocks := { b with rc.slotInEffect := b.ds.slotBefore b.ds.sew }

/-- An advance of S with the release test after it (R22, R23). -/
def Blocks.advance (b : Blocks) : Blocks :=
  if b.ds.sew < b.ds.load then ({ b with ds := b.ds.advance }).releaseTest.readSlot else b

/-- A step of BACK or FWD: none when the store answers not held (R22). -/
def Blocks.moveSew (b : Blocks) (forward : Bool) : Option Blocks :=
  if forward then (if b.ds.sew < b.ds.load then some b.advance else none)
  else (if b.ds.tail < b.ds.sew then some ({ b with ds := b.ds.stepBack }).readSlot else none)

/-- Emptying the store (R6), with the crossing of R26, the slot in effect read again (R68) and every
head's consecutive counts made 0 (R126). -/
def Blocks.emptyStore (b : Blocks) : Blocks :=
  let b' : Blocks :=
    { b with
      ds := Ds.empty
      tm := Eight.tabulate (fun h => (b.tm.get h).zeroCounts)
      rc.slotInEffect := none }
  if crosses b.cf.settings.loadMark b.ds.free Ds.empty.free then b'.raise .load else b'

/-- E rises or becomes absent (R24). -/
def rises : Option Nat → Option Nat → Bool
  | some _, none => true
  | some a, some a' => decide (a < a')
  | none, _ => false

/-- The range lists change: E is recomputed, and a rise makes the release test (R136, R140). -/
def Blocks.setRanges (b : Blocks) (rt : Eight (List Range)) : Blocks :=
  let b' := { b with rt := rt }
  if rises b.e b'.e then b'.releaseTest else b'

/-- Close the open range of a list at `max s a`; an empty one is removed (R137). -/
def closeList (s : Nat) (l : List Range) : List Range :=
  l.filterMap (fun r => match r.b with
    | some e => some ⟨r.a, some e⟩
    | none => if r.a < s then some ⟨r.a, some s⟩ else none)

/-- Close a head's open range at the sew point (R137). -/
def Blocks.closeRange (b : Blocks) (h : HeadId) (s : Nat) : Blocks :=
  b.setRanges (b.rt.update h (closeList s))

/-- The start a fault gives its range, before the bounds of T and the pin (R135). -/
def Condition.start (s : Nat) : Condition → Nat
  | .threadBreak _ _ _ _ bs => bs
  | .tensionLoose _ _ _ i => i + 1
  | .bobbinEmpty _ _ _ i => i + 1
  | .selectorChange _ _ _ (.recordDriven i) => i
  | _ => s

/-- The start bounded by T, and by the pin while a cycle of a run is in progress (R25, R135). -/
def Blocks.boundStart (b : Blocks) (a : Nat) : Nat :=
  let a := max a b.ds.tail
  match b.sc.plan, b.sc.cycle with
  | some .run, some c =>
    if a + b.cf.settings.pinLimit ≤ c.index then c.index + 1 - b.cf.settings.pinLimit else a
  | _, _ => a

/-- A list with a new open range from `a`, which absorbs every range that ends above `a` (R135).
An open range already there is absorbed too (log 16). -/
def openList (a : Nat) (l : List Range) : List Range :=
  let above (r : Range) : Bool := match r.b with | some e => decide (a < e) | none => true
  l.filter (fun r => !above r) ++ [⟨(l.filter above).foldl (fun m r => min m r.a) a, none⟩]

/-- The isolation decision (R134). -/
def Blocks.mayIsolate (b : Blocks) (h : HeadId) (c : Condition) : Bool :=
  b.cf.settings.policy == .isolate
    && decide (b.countState .isolated < b.cf.settings.isolationLimit)
    && Id8.all.any (fun g => g != h && b.configured g && (b.hu.get g).state == .sewing)
    && decide ((openList (b.boundStart (c.start b.ds.sew)) (b.rt.get h)).length ≤ Config.maxRanges)
    && b.rc.runState != .patch

/-! ## The frame -/

/-- The record of an axis. -/
def Fc.axis (f : Fc) : Axis → AxisRec
  | .x => f.x
  | .y => f.y

/-- Replace the record of an axis. -/
def Fc.setAxis (f : Fc) (ax : Axis) (r : AxisRec) : Fc :=
  match ax with
  | .x => { f with x := r }
  | .y => { f with y := r }

/-- Both axes READY. -/
def Fc.ready (f : Fc) : Bool := f.x.state == .ready && f.y.state == .ready

/-- The frame is busy: a cycle move, or one that waits, has not completed (R35). -/
def Fc.busy (f : Fc) : Bool :=
  (match f.move with
    | some ⟨.cycle _, _⟩ => true
    | _ => false) || !f.waiting.isEmpty

/-- An axis begins a move to a target; one that stands there stays READY (R33). -/
def AxisRec.depart (r : AxisRec) (t : Int) : AxisRec :=
  if r.pos = some t then r else { r with state := .moving, target := some t }

/-- An axis has issued its last step (R33). -/
def AxisRec.arrive (r : AxisRec) : AxisRec :=
  if r.state = .moving then { r with state := .ready, pos := r.target, target := none } else r

/-- An axis stopped short finishes the unit in progress, the one after the last it reached (R33;
log 13). -/
def AxisRec.stopShort (r : AxisRec) : AxisRec :=
  if r.state = .moving then
    match r.pos, r.target with
    | some p, some t =>
      { r with state := .ready, target := none, pos := some (if p < t then p + 1 else if t < p then p - 1 else p) }
    | _, _ => { r with state := .ready, target := none }
  else r

/-- Begin a move with both axes READY; one with no step to issue completes at once, and no move is
then in flight (R33). -/
def Fc.depart (f : Fc) (owner : MoveOwner) (t : Pos) : Fc :=
  let f' := { f with x := f.x.depart t.x, y := f.y.depart t.y }
  { f' with move := if f'.ready then none else some ⟨owner, false⟩ }

/-- Both axes complete (R33). -/
def Fc.arrive (f : Fc) : Fc := { f with x := f.x.arrive, y := f.y.arrive, move := none }

/-- The waiting cycle moves begin, each when the one before it has completed (R34). -/
def Fc.beginWaiting : List CycleMove → Fc → Fc
  | [], f => { f with waiting := [] }
  | m :: ms, f =>
    if f.ready && f.move.isNone then Fc.beginWaiting ms (f.depart (.cycle m.index) m.target)
    else { f with waiting := m :: ms }

/-- A cycle move begins at its cycle start, or waits behind those before it (R34). -/
def Fc.cycleMove (f : Fc) (index : Nat) (target : Pos) : Fc :=
  Fc.beginWaiting (f.waiting ++ [⟨index, target⟩]) f

/-- The cycle move of a record has not completed (R35; log 14). -/
def Fc.notDone (f : Fc) (index : Nat) : Bool :=
  f.waiting.any (·.index == index) ||
    (match f.move with
      | some ⟨.cycle i, _⟩ => i == index && !f.ready
      | _ => false)

/-- A stop has been asked of the move in flight. -/
def Fc.stopAsked (f : Fc) : Bool := f.move.any (·.stopAsked)

/-- Both axes have issued their last steps at the target: a stop asked for now changes nothing (R33).
Axes that a stop has brought to rest short of it have not. -/
def Fc.completed (f : Fc) : Bool := f.ready && !f.stopAsked

/-- Ask the move in flight to stop short (R33). -/
def Fc.askStop (f : Fc) : Fc := { f with move := f.move.map (fun m => { m with stopAsked := true }) }

/-- The halt at one axis (R43). -/
def AxisRec.halt (r : AxisRec) : AxisRec := if r.state = .fault then r else AxisRec.unhomed

/-- The halt at FC (R43). -/
def Fc.halt (f : Fc) : Fc := { f with x := f.x.halt, y := f.y.halt, move := none, waiting := [] }

/-- Ask for travel to a relative position: not begun when an axis is not READY (R36). -/
def Blocks.travel (b : Blocks) (owner : MoveOwner) (rel : Option Pos) : Option Blocks :=
  match rel with
  | some p => if b.fc.ready then some { b with fc := b.fc.depart owner (b.fc.origin.add p) } else none
  | none => none

/-! ## The shaft -/

/-- The shaft turns, or steps down. -/
def Sc.turns (s : Sc) : Bool := s.state == .turning || s.state == .stopping

/-- A raised stop taken by SC (R59, R60). -/
def Sc.raiseStop (s : Sc) : Sc := if s.state = .turning then { s with state := .stopping } else s

/-- The shaft is brought to rest at count 0 (R57). -/
def Sc.rest (s : Sc) : Sc :=
  { s with state := .stopped, angle := some 0, plan := none, cycle := none, demanded := 0,
           previous := 0, measured := 0, stallTimer := none }

/-- The shaft becomes OFF: the halt at SC (R64), and a find that failed (R48). -/
def Sc.turnOff (s : Sc) : Sc :=
  { s with state := .off, angle := none, plan := none, cycle := none, demanded := 0, previous := 0,
           measured := 0, stallTimer := none }

/-! ## Long operations -/

/-- The run state and pause cause of a base state. -/
def BaseState.target : BaseState → RunState × Option PauseCause
  | .idle => (.idle, none)
  | .paused c => (.paused, c)
  | .ended => (.ended, none)
  | .halted => (.halted, none)

/-- The base state a run state is kept as (R91). -/
def Blocks.baseState (b : Blocks) : BaseState :=
  match b.rc.runState with
  | .idle => .idle
  | .ended => .ended
  | .halted => .halted
  | _ => .paused b.rc.pauseCause

/-- The operation kind of the work in flight. -/
def Work.kind : Work → OpKind
  | .move => .move
  | .home _ => .home
  | .hhome _ => .hhome
  | .repo w => if w.forward then .fwd else .back
  | .patch _ => .patch

/-- A long operation begins: its base state and tag are kept (R91). -/
def Blocks.beginOp (b : Blocks) (tag : Byte) (work : Work) (rs : RunState) : Blocks :=
  ({ b with rc.op := some ⟨tag, b.baseState, work⟩ }).goto rs none

/-- Replace the work of the operation in flight. -/
def Blocks.setWork (b : Blocks) (work : Work) : Blocks :=
  { b with rc.op := b.rc.op.map (fun op => { op with work := work }) }

/-- A long operation ends: the run state changes, the record is written afresh, and OPDONE is raised
(R90). -/
def Blocks.endOp (b : Blocks) (result : OpResult) (failures : OpFailures) (rs : RunState)
    (cause : Option PauseCause) : Blocks :=
  match b.rc.op with
  | none => b
  | some op =>
    ({ b.goto rs cause with
        rc.op := none
        rc.opRecord :=
          ⟨some op.work.kind, op.tag, some result, failures, b.rc.opRecord.counter + 1⟩ }).raise .opdone

/-- A long operation ends in its base state. -/
def Blocks.endOpBase (b : Blocks) (result : OpResult) (failures : OpFailures) : Blocks :=
  match b.rc.op with
  | none => b
  | some op => b.endOp result failures op.base.target.1 op.base.target.2

/-- The list of the patch head with the patched range's start moved, or the range removed when
nothing is left of it (R146). -/
def shrinkList (w : PatchWork) (start : Nat) (l : List Range) : List Range :=
  l.filterMap (fun r =>
    if r.a = w.a ∧ r.b = some w.b then (if start = w.b then none else some ⟨start, r.b⟩) else some r)

/-- What every end of a patch run does to the ranges, the flag and the rest flags (R145, R146, R147). -/
def Blocks.patchSettle (b : Blocks) (w : PatchWork) (start : Nat) : Blocks :=
  let b := b.setRanges (b.rt.update w.head (shrinkList w start))
  { b with
    fc.offPosition := true
    hu := Eight.tabulate (fun h => { b.hu.get h with rest := false })
    rc.change := none
    rc.stop := none }

/-- The monitor of a patch head that is not SEWING becomes OFF at the end of its patch, other than by a
halt, which keeps every monitor state (R131, R145, R146, R147; log 17). -/
def Blocks.patchMonitorOff (b : Blocks) (w : PatchWork) : Blocks :=
  if (b.hu.get w.head).state = .sewing then b else b.modMonitor w.head Monitor.turnOff

/-- The new start of a patch ended early (R146). A THREAD_BREAK of the patch head that was taken counts
whenever the patch ends FAILED, also where another fault, as a MOVE_LATE, began the stop: the model's
choice (log 35). -/
def PatchWork.newStart (w : PatchWork) (result : OpResult) : Nat :=
  match w.breakStart with
  | some s => if result = .failed ∧ s < w.p then s else w.p
  | none => w.p

/-- A patch run ends, other than by a halt: `start` is its range's new start, b when it completed
(R145, R146). -/
def Blocks.patchEnd (b : Blocks) (w : PatchWork) (result : OpResult) (start : Nat) : Blocks :=
  ((b.patchSettle w start).patchMonitorOff w).endOpBase result OpFailures.none

/-- A patch run ended early by its stop causes: FAULT ranks first (R143, R146). -/
def Blocks.patchStopped (b : Blocks) (w : PatchWork) : Blocks :=
  let result := if w.causes.fault then OpResult.failed else OpResult.stopped
  b.patchEnd w result (w.newStart result)

/-! ## The halt (R153) -/

/-- The halt at a Head Unit (R103). -/
def Head.halt (h : Head) : Head :=
  { h.relax with
    selector := if h.selector.busy then .unknown else h.selector
    selTimer := none }

/-- The halt at RC (R89, R147). -/
def Blocks.haltRun (b : Blocks) : Blocks :=
  let b : Blocks :=
    { b with rc.causes := StopCauses.none, rc.resume := none, rc.stop := none, rc.change := none }
  match b.rc.op with
  | some ⟨_, _, .patch w⟩ => (b.patchSettle w w.p).endOp .halted OpFailures.none .halted none
  | some _ => b.endOp .halted OpFailures.none .halted none
  | none => b.goto .halted none

/-- The halt: every drive is turned off at once, in every block (R153). -/
def Blocks.halt (b : Blocks) : Blocks :=
  ({ b with
      sc := b.sc.turnOff
      fc := b.fc.halt
      hu := Eight.tabulate (fun h => (b.hu.get h).halt)
      tm := Eight.tabulate (fun h => { b.tm.get h with window := none }) } : Blocks).haltRun

/-! ## Stops -/

/-- A PAUSE or a STOP_ALL reaches a patch run according to its stage (R144). With the shaft at rest and
its stop not yet resolved, the cause stands for the resolution, which ends the patch (R143): the run
state is PATCH until then, so every condition of that index finds a patch run (R134; log 33). -/
def Blocks.patchInterrupt (b : Blocks) (w : PatchWork) (fault : Bool) : Blocks :=
  let causes : StopCauses := ⟨w.causes.host || !fault, w.causes.fault || fault⟩
  let w := { w with causes := causes }
  let b := b.setWork (.patch w)
  match b.fc.move, b.rc.change with
  | some ⟨.patchTravel, _⟩, _ =>
    if b.fc.completed then ({ b with fc.move := none } : Blocks).patchStopped w
    else { b with fc := b.fc.askStop }
  | _, some c => { b with rc.change := some { c with stopAll := c.stopAll || fault, paused := c.paused || !fault } }
  | _, none =>
    if b.sc.turns then { b with sc := b.sc.raiseStop }
    else if b.rc.stop.isSome || b.fc.busy then b
    else b.patchStopped w

/-- A stop of return travel in TRAVEL; travel whose axes have both issued their last steps counts as
completed (R33, R70; log 12). -/
def Blocks.stopTravel (b : Blocks) (cause : PauseCause) : Blocks :=
  if b.fc.completed then
    ({ b with fc.move := none, fc.offPosition := false, rc.resume := none,
              rc.causes := StopCauses.none } : Blocks).goto .paused
      (some (if b.rc.causes.fault then .fault else cause))
  else { b with fc := b.fc.askStop }

/-- A STOP_ALL outcome at RC, by its run state (R75). -/
def Blocks.stopAll (b : Blocks) : Blocks :=
  match b.rc.runState with
  | .running =>
    ({ b with rc.causes.fault := true, sc := b.sc.raiseStop } : Blocks).goto .stopping none
  | .stopping => { b with rc.causes.fault := true }
  | .changing => { b with rc.change := b.rc.change.map (fun c => { c with stopAll := true }) }
  | .held => b.goto .paused (some .fault)
  | .travel => ({ b with rc.causes.fault := true } : Blocks).stopTravel .fault
  | .patch =>
    match b.rc.op with
    | some ⟨_, _, .patch w⟩ => b.patchInterrupt w true
    | _ => b
  | .unconfigured | .idle | .paused | .reposition | .moving | .homing | .ended | .halted => b

/-! ## The Fault Log -/

/-- The head a condition names (R149). -/
def Condition.head : Condition → Option HeadId
  | .threadBreak h _ _ _ _ => some h
  | .tensionLoose h _ _ _ => some h
  | .bobbinEmpty h _ _ _ => some h
  | .selectorChange h _ _ _ => some h
  | .selectorHoming h => some h
  | _ => none

/-- The kind of a condition. -/
def Condition.kind : Condition → FaultKind
  | .threadBreak _ _ _ _ _ => .threadBreak
  | .tensionLoose _ _ _ _ => .tensionLoose
  | .bobbinEmpty _ _ _ _ => .bobbinEmpty
  | .selectorChange _ _ _ _ => .selectorTimeout
  | .selectorHoming _ => .selectorTimeout
  | .noPlan _ _ => .noPlan
  | .moveLate _ _ _ _ => .moveLate
  | .pinLimit => .pinLimit
  | .homeFail _ => .homeFail
  | .shaftStall _ => .shaftStall
  | .axisDrive _ => .axisDrive
  | .estop => .estop

/-- ISOLATE or STOP_ALL for a fault that names a head (R134). -/
def Blocks.policyAction (b : Blocks) (h : HeadId) (c : Condition) : Action :=
  if b.mayIsolate h c then .isolate else .stopAll

/-- The action of a condition (R149). -/
def Blocks.action (b : Blocks) (c : Condition) : Action :=
  match c with
  | .threadBreak h _ _ _ _ => b.policyAction h c
  | .tensionLoose h _ _ _ =>
    match b.cf.settings.looseAction with
    | .warn => .none
    | .stop => b.policyAction h c
  | .bobbinEmpty h _ _ _ => b.policyAction h c
  | .selectorChange h _ _ _ => b.policyAction h c
  | .selectorHoming _ => .failed
  | .noPlan _ _ => if b.rc.runState = .patch then .failed else .stopAll
  | .moveLate _ _ _ _ => .stopAll
  | .pinLimit => .stopAll
  | .homeFail _ => .failed
  | .shaftStall _ => .halt
  | .axisDrive _ => .halt
  | .estop => .halt

/-- The part an entry names (R156). -/
def Condition.part : Condition → Option Part
  | .homeFail p => some p
  | .shaftStall _ => some .shaft
  | .axisDrive .x => some .x
  | .axisDrive .y => some .y
  | _ => none

/-- The needle an entry carries (R156). -/
def Condition.needle : Condition → Option Nat
  | .threadBreak _ n _ _ _ => n
  | .tensionLoose _ n _ _ => n
  | .bobbinEmpty _ n _ _ => n
  | .selectorChange _ n _ _ => some n
  | _ => none

/-- The slot an entry carries; `eff` is the slot in effect (R156). In PATCH the entries of ESTOP,
AXIS_DRIVE and SHAFT_STALL carry the slot in effect as the table of R156 has it, against the rule's last
sentence, which speaks of the patch run's: the model's choice (log 38). -/
def Condition.slot (eff : Option Nat) : Condition → Option Nat
  | .threadBreak _ _ s _ _ => s
  | .tensionLoose _ _ s _ => s
  | .bobbinEmpty _ _ s _ => s
  | .selectorChange _ _ s _ => some s
  | .selectorHoming _ => none
  | .noPlan s _ => some s
  | .moveLate s _ _ _ => s
  | _ => eff

/-- The index of a colour change. -/
def ChangeKind.index : ChangeKind → Nat
  | .recordDriven i => i
  | .reconciliation i => i

/-- The design index an entry carries while the channel is not CLOSED; `s` is S (R156). In PATCH the
entries of ESTOP and AXIS_DRIVE carry S as the table of R156 has it, against the rule's last sentence,
which speaks of the patch run's index: the model's choice (log 38). -/
def Condition.index (s : Nat) : Condition → Option Nat
  | .threadBreak _ _ _ i _ => some i
  | .tensionLoose _ _ _ i => some i
  | .bobbinEmpty _ _ _ i => some i
  | .selectorChange _ _ _ k => some k.index
  | .noPlan _ i => some i
  | .moveLate _ i _ _ => some i
  | .shaftStall i => i
  | _ => some s

/-- The break-start index an entry carries (R156). -/
def Condition.breakStart : Condition → Option Nat
  | .threadBreak _ _ _ _ bs => some bs
  | _ => none

/-- The coordinate of an axis, in READY and MOVING (R156). -/
def AxisRec.coordinate (r : AxisRec) : Option Int :=
  if r.state = .ready ∨ r.state = .moving then r.pos else none

/-- The frame coordinate an entry carries of an axis whose coordinate now is `now`: that of a MOVE_LATE
is the one its condition carries from the deadline (R35, R156; log 36). -/
def Condition.coordinate (c : Condition) (ax : Axis) (now : Option Int) : Option Int :=
  match c, ax with
  | .moveLate _ _ (some x) _, .x => now.map (fun _ => x)
  | .moveLate _ _ _ (some y), .y => now.map (fun _ => y)
  | _, _ => now

/-- The entry of a condition (R156). -/
def Blocks.entry (b : Blocks) (c : Condition) : Entry :=
  { seq := b.fl.nextSeq
    kind := c.kind
    action := b.action c
    runState := b.rc.runState
    cycleCount := b.sc.cycleCount
    part := c.part
    head := c.head
    needle := c.needle
    slot := c.slot b.rc.slotInEffect
    index := if b.ds.channel = .closed then none else c.index b.ds.sew
    breakStart := c.breakStart
    frameX := c.coordinate .x b.fc.x.coordinate
    frameY := c.coordinate .y b.fc.y.coordinate }

/-- Writing an entry: a full log loses its oldest, and an unlocked capture copies it (R157, R160). -/
def Fl.write (f : Fl) (e : Entry) : Fl :=
  let full := decide (Config.maxLog ≤ f.log.length)
  { f with
    log := (if full then f.log.drop 1 else f.log) ++ [e]
    nextSeq := f.nextSeq + 1
    overflow := f.overflow || full
    capture := match f.capture with | some c => some c | none => some e }

/-- The entry of a condition is written, FAULT raised, and the named head's counts zeroed
(R150, R126). -/
def Blocks.writeEntry (b : Blocks) (c : Condition) : Blocks :=
  let b' := ({ b with fl := b.fl.write (b.entry c) } : Blocks).raise .fault
  match c.head with
  | some h => b'.modMonitor h Monitor.zeroCounts
  | none => b'

/-- An ISOLATE action: the range opens, the head becomes ISOLATED with its fault flag set (R135); in
ENDED the range closes at once at the END record (R152). -/
def Blocks.isolate (b : Blocks) (h : HeadId) (c : Condition) : Blocks :=
  let b' := b.setRanges (b.rt.update h (openList (b.boundStart (c.start b.ds.sew))))
  let b' := (b'.modHead h (fun u => { u with state := .isolated, faultFlag := true })).headEvent h
    .isolated
  let b' := b'.monitorLeaves h
  if b.rc.runState = .ended then
    (b'.closeRange h (b.ds.load - 1)).modHead h (fun u => { u with state := .standby })
  else b'

/-- A FAILED action is counted by the operation that owns the failing part (R152, R87). -/
def Blocks.countFailure (b : Blocks) (c : Condition) : Blocks :=
  match b.rc.op with
  | some ⟨_, _, .home w⟩ =>
    match c with
    | .selectorHoming h =>
      b.setWork (.home { w with failed := w.failed.set h true, await := w.await.set h false })
    | .homeFail .x => b.setWork (.home { w with xOutcome := some .homeFail })
    | .homeFail .y => b.setWork (.home { w with yOutcome := some .homeFail })
    | _ => b
  | _ => b

/-- The break-start index of a patch head's THREAD_BREAK is kept for the end of its patch (R146). -/
def Blocks.notePatchBreak (b : Blocks) (c : Condition) : Blocks :=
  match b.rc.op, c with
  | some ⟨_, _, .patch w⟩, .threadBreak h _ _ _ bs =>
    if h = w.head then b.setWork (.patch { w with breakStart := some bs }) else b
  | _, _ => b

/-- The head a condition names has its fault flag set already (R155). -/
def Blocks.alreadyFlagged (b : Blocks) (c : Condition) : Bool :=
  c.head.any (fun h => (b.hu.get h).faultFlag)

/-- A STOP_ALL action is handed on (R151). NO_PLAN and PIN_LIMIT hand no outcome back (R149). -/
def Blocks.handStopAll (b : Blocks) (c : Condition) : Blocks :=
  if c.kind = .noPlan ∨ c.kind = .pinLimit then b
  else match c.head with
    | some h =>
      (((b.modHead h (fun u => { u with faultFlag := true })).headEvent h .faulted).notePatchBreak
        c).stopAll
    | none => b.stopAll

/-- An ISOLATE action is handed on (R152). -/
def Blocks.handIsolate (b : Blocks) (c : Condition) : Blocks :=
  match c.head with
  | some h => b.isolate h c
  | none => b

/-- FL takes a condition: it decides the action, writes the entry, and hands the action on (R150). A
STOP_ALL or ISOLATE naming a head whose flag is set already changes nothing more (R155). -/
def Blocks.take (b : Blocks) (c : Condition) : Blocks :=
  let act := b.action c
  let b := b.writeEntry c
  match act with
  | .stopAll => if b.alreadyFlagged c then b else b.handStopAll c
  | .isolate => if b.alreadyFlagged c then b else b.handIsolate c
  | .none => b
  | .failed => b.countFailure c
  | .halt => b.halt

/-- FL takes conditions one after another (R150). -/
def Blocks.takeAll (b : Blocks) (cs : List Condition) : Blocks := cs.foldl Blocks.take b

/-- Put an element at a place of a list. -/
def insertAt {α : Type} (a : α) : Nat → List α → List α
  | 0, l => a :: l
  | _ + 1, [] => [a]
  | n + 1, x :: l => x :: insertAt a n l

/-- A free order of a list: every order is some choice's. -/
def shuffle {α : Type} (choice : Nat → Nat) : List α → List α
  | [] => []
  | a :: l => insertAt a (choice l.length % (l.length + 1)) (shuffle choice l)

/-- Conditions reach FL: it takes them in turn; where others still wait, in whatever order, so that a
halt may come before them (R150, R155; log 4). -/
def Blocks.report (b : Blocks) (cs : List Condition) : Blocks :=
  if b.fl.waiting = [] ∨ cs = [] then
    ({ b with fl.waiting := [] } : Blocks).takeAll (b.fl.waiting ++ cs)
  else
    ({ b with fl.waiting := [], draws := b.draws + 1 } : Blocks).takeAll
      (shuffle (Config.freeOrder b.draws) (b.fl.waiting ++ cs))

/-- Conditions a block raises at an event, if any. -/
def Blocks.raiseAll (b : Blocks) (cs : List Condition) : Blocks :=
  if cs.isEmpty then b else b.report cs

end Sys2Proof.Machine
end

