-- ==== Sys2Proof/Machine/Cycle.lean ====
section
/-!
DEFINITION. The stitch cycle: who takes part, the speed plan, the start request, the cycle start, and
the cycle end with its counts and judgements (03, 05, 06).
-/

namespace Sys2Proof.Machine

/-! ## Participation and settle -/

/-- The patch run in flight (R141). -/
def Blocks.patchWork (b : Blocks) : Option PatchWork :=
  match b.rc.op with
  | some ⟨_, _, .patch w⟩ => some w
  | _ => none

/-- A head takes part in a cycle that starts now in this plan mode (R93). -/
def Blocks.partakes (b : Blocks) (plan : PlanMode) (h : HeadId) : Bool :=
  match plan with
  | .run => b.configured h && (b.hu.get h).state == .sewing && !(b.hu.get h).rest
  | .patch _ => match b.patchWork with | some w => w.head == h | none => false

/-- K of a settle code (R118). -/
def settleK : Nat → Nat
  | 0 => 0 | 1 => 1 | 2 => 2 | 3 => 3 | 4 => 4 | 5 => 6 | 6 => 8 | _ => 12

/-- A head counts as settling in the cycle being planned (R120). -/
def Monitor.countsAsSettling (m : Monitor) (code : Nat) : Bool :=
  (m.state == .settling && !m.owed)
    || ((m.owed || m.state == .off) && decide (0 < settleK code))

/-- The slot the heads sew with: the patch slot in a patch run, else the slot in effect (R124). -/
def Blocks.sewSlot (b : Blocks) : Option Nat :=
  match b.patchWork with
  | some w => w.slot
  | none => b.rc.slotInEffect

/-! ## Speed planning (R54 to R57) -/

/-- A cycle record (R53). -/
def RecordKind.isCycle : RecordKind → Bool
  | .stitch => true
  | .jump => true
  | .trim => true
  | _ => false

/-- A record of a kind is held at an index. -/
def Ds.hasKind (d : Ds) (i : Nat) (k : RecordKind) : Bool :=
  match d.record i with
  | some r => r.kind == k
  | none => false

/-- The stop points standing at an index in a plan mode (R56). -/
def Blocks.points (b : Blocks) (plan : PlanMode) (i : Nat) : StopPoints :=
  match plan with
  | .run =>
    { color := b.ds.hasKind i .color
      mark := b.ds.hasKind i .mark
      endRec := b.ds.hasKind i .endDesign
      endOfPending := i == b.ds.load && !b.ds.endLoaded
      pin := b.pinStop == some i
      rangeEnd := false }
  | .patch e =>
    { color := b.ds.hasKind i .color
      mark := false
      endRec := false
      endOfPending := false
      pin := false
      rangeEnd := i == e }

/-- A stop point stands. -/
def StopPoints.any (p : StopPoints) : Bool :=
  p.color || p.mark || p.endRec || p.endOfPending || p.pin || p.rangeEnd

/-- k: the cycle records of a window of `n` records before the nearest stop point (R56). -/
def Blocks.cyclesAhead (b : Blocks) (plan : PlanMode) : Nat → Nat → Nat
  | 0, _ => 0
  | n + 1, i =>
    if (b.points plan i).any then 0
    else match b.ds.record i with
      | some r => (if r.kind.isCycle then 1 else 0) + b.cyclesAhead plan n (i + 1)
      | none => 0

/-- k of the six-record window from an index (R56). -/
def Blocks.planK (b : Blocks) (plan : PlanMode) (i : Nat) : Nat := b.cyclesAhead plan 6 i

/-- The first index from `i`, before `e`, that holds no MARK (R50). -/
def Ds.skipMarks (d : Ds) (e : Nat) : Nat → Nat → Nat
  | 0, i => i
  | n + 1, i => if i < e ∧ d.hasKind i .mark then d.skipMarks e n (i + 1) else i

/-- p moved past the MARK records that stand at it (R143). -/
def Blocks.pastMarks (b : Blocks) (e i : Nat) : Nat := b.ds.skipMarks e b.ds.records.length i

/-- The class term of the plan; none sets no cap (R55). -/
def classTerm (s : Settings) (r : StoredRecord) : Option Nat :=
  match r.kind with
  | .stitch =>
    match classOf r.dx r.dy with
    | .short => none
    | .medium => some s.mediumCap
    | .long => some s.longCap
  | .jump => some s.jumpCap
  | .trim => some 200
  | _ => none

/-- The settle term of the plan (R55, R120). -/
def Blocks.settleTerm (b : Blocks) (plan : PlanMode) : Option Nat :=
  if Id8.all.any (fun h =>
      b.partakes plan h && (b.tm.get h).countsAsSettling b.cf.settings.settleCode)
  then some b.cf.settings.startSpeed else none

/-- A cap on a speed. -/
def capped (v : Nat) : Option Nat → Nat
  | none => v
  | some c => min v c

/-- The demanded speed of the cycle of a record: the least of the terms of R55. -/
def Blocks.planSpeed (b : Blocks) (plan : PlanMode) (i : Nat) (r : StoredRecord) : Nat :=
  min (min (capped (capped b.cf.settings.hostSpeed (classTerm b.cf.settings r)) (b.settleTerm plan))
    (b.sc.previous + 200)) (200 * b.planK plan i)

/-! ## The cycle start (R50) -/

/-- The monitor of a head at a cycle start (R116, R118, R121). -/
def Monitor.atStart (m : Monitor) (code : Nat) (part : Bool) (window : Option Window) : Monitor :=
  if part then
    let m :=
      if m.owed || m.state == .off then
        { m with owed := false, low := 0, high := 0, breakStart := none, k := 0, bigK := settleK code
                 state := if 0 < settleK code then .settling else .armed }
      else m
    { m with window := window }
  else m.turnOff

/-- The engagement of a head at a cycle start (R111). -/
def Head.atStart (h : Head) (part : Bool) (kind : RecordKind) : Head :=
  { h with takesPart := part, footDown := part, engaged := part && kind == .stitch }

/-- The cycle start of a record at a demanded speed, given to FC, HU and TM (R50). -/
def Blocks.cycleStart (b : Blocks) (plan : PlanMode) (i : Nat) (r : StoredRecord) (speed : Nat) :
    Blocks :=
  let window := if r.kind = .stitch then some (Window.mk 0 (classOf r.dx r.dy)) else none
  { b with
    sc.demanded := speed
    sc.cycle := some ⟨i, r.kind, false, false⟩
    hu := Eight.tabulate (fun h => (b.hu.get h).atStart (b.partakes plan h) r.kind)
    tm := Eight.tabulate (fun h =>
      (b.tm.get h).atStart b.cf.settings.settleCode (b.partakes plan h) window)
    fc := if r.kind = .stitch ∨ r.kind = .jump then b.fc.cycleMove i (b.fc.origin.add r.relAfter)
          else b.fc }

/-! ## The start request (R49) -/

/-- SC's answers to a start request (R49). -/
inductive StartAnswer where
  | started
  /-- Naming the shaft state. -/
  | notReady (shaft : ShaftState)
  | selectorBusy
  | frameNotReady
  | atStop (points : StopPoints)
  deriving DecidableEq, Repr

/-- A selector of some head is MOVING or HOMING. -/
def Blocks.selectorMoving (b : Blocks) : Bool := Id8.all.any (fun h => (b.hu.get h).selector.busy)

/-- The index of the record a cycle planned at `i` sews: in a patch run the first from `i` that is not
a MARK (R50, R56). -/
def Blocks.cycleIndex (b : Blocks) (plan : PlanMode) (i : Nat) : Nat :=
  match plan with
  | .run => i
  | .patch e => b.pastMarks e i

/-- A start request in a plan mode from an index (R49). Counts taken in STOPPED may have moved the angle
off 0 (R47); the cycle then starts from the angle as it stands: the model's choice (log 31). -/
def Blocks.startRequest (b : Blocks) (plan : PlanMode) (i : Nat) : Blocks × StartAnswer :=
  let j := b.cycleIndex plan i
  if b.sc.state ≠ .stopped then (b, .notReady b.sc.state)
  else if b.selectorMoving then (b, .selectorBusy)
  else if !b.fc.ready || b.fc.busy then (b, .frameNotReady)
  else match b.ds.record j, decide (b.planK plan i = 0) with
    | some r, false =>
      let b' : Blocks :=
        { b with sc.state := .turning, sc.plan := some plan, sc.previous := 0,
                 sc.stallTimer := some b.cf.settings.stallTime }
      (b'.cycleStart plan j r (b'.planSpeed plan i r), .started)
    | _, _ => (b, .atStop (b.points plan i))

/-! ## Angle events -/

/-- MOVE_LATE of the move of a record, with the frame position at this moment (R35). -/
def Blocks.moveLateOf (b : Blocks) (index : Nat) : Condition :=
  .moveLate b.sewSlot index b.fc.x.coordinate b.fc.y.coordinate

/-- The needle-entry event of the cycle in progress, and the MOVE_LATE it may show (R51, R35). -/
def Blocks.needleEntry (b : Blocks) (c : Cycle) : Blocks × List Condition :=
  ({ b with sc.cycle := some { c with entryGiven := true } },
    if c.kind = .stitch ∧ b.fc.notDone c.index then [b.moveLateOf c.index] else [])

/-- The needle-entry event of a cycle, the MOVE_LATE it may show being taken at once. -/
def Blocks.giveEntry (b : Blocks) (c : Cycle) : Blocks :=
  let r := b.needleEntry c
  r.1.raiseAll r.2

/-- The trim-point event: the trimmers of the heads that take part fire, and they owe a settle
(R51, R112). -/
def Blocks.trimPoint (b : Blocks) (c : Cycle) : Blocks :=
  { b with
    sc.cycle := some { c with trimGiven := true }
    hu := Eight.tabulate (fun h =>
      if (b.hu.get h).takesPart then { b.hu.get h with trimmer := true } else b.hu.get h)
    tm := Eight.tabulate (fun h =>
      if (b.hu.get h).takesPart then { b.tm.get h with owed := true } else b.tm.get h) }

/-- The angle events not yet given are given at the index, in angle order, before the cycle end (R47).
A MOVE_LATE shown there is taken at once, as one shown at its angle is, so that its entry carries the
cycle count and the position of its detection (R35, R45): the model's choice (log 34). -/
def Blocks.eventsAtIndex (b : Blocks) (c : Cycle) : Blocks :=
  let b := if c.entryGiven then b else b.giveEntry c
  let c := { c with entryGiven := true }
  if c.kind = .trim ∧ !c.trimGiven then b.trimPoint c else b

/-! ## The cycle end (R52) -/

/-- The measured speed of a cycle: 60,000 ms over its duration, rounded down, at most 65,535 (R62). -/
def measuredSpeed (durationNs : Nat) : Nat :=
  if durationNs = 0 then 65535 else min 65535 (60000000000 / durationNs)

/-- SC counts the cycle (R52). -/
def Sc.countCycle (s : Sc) (durationNs : Nat) : Sc :=
  { s with cycleCount := s.cycleCount + 1, measured := measuredSpeed durationNs,
           previous := s.demanded }

/-- A bobbin count after a STITCH cycle: the head, whether BOBBIN_LOW and whether BOBBIN_EMPTY is
raised (R114). -/
def Head.lowerBobbin (u : Head) (lowMark : Nat) : Head × Bool × Bool :=
  match u.bobbin with
  | some (n + 1) =>
    let isLow := decide (n ≤ lowMark) && !u.lowLatch
    ({ u with bobbin := some n, lowLatch := u.lowLatch || isLow }, isLow, n == 0)
  | _ => (u, false, false)

/-- The bobbin of one head at the end of a STITCH cycle (R114). -/
def Blocks.lowerBobbinOf (index : Nat) (acc : Blocks × List Condition) (h : HeadId) :
    Blocks × List Condition :=
  let b := acc.1
  let u := b.hu.get h
  if u.takesPart then
    let r := u.lowerBobbin b.cf.settings.bobbinLow
    let b' : Blocks := { b with hu := b.hu.set h r.1 }
    let b' := if r.2.1 then b'.headEvent h .bobbinLow else b'
    (b', if r.2.2 then acc.2 ++ [.bobbinEmpty h u.selector.needle b.sewSlot index] else acc.2)
  else acc

/-- The loose ceiling of a class (R123). -/
def ceiling (s : Settings) : LengthClass → Nat
  | .short => s.looseShort
  | .medium => s.looseMedium
  | .long => s.looseLong

/-- What a judged window raises (R123 to R127). -/
structure Verdict where
  monitor : Monitor
  warn : Bool
  threadBreak : Option Nat
  loose : Bool
  deriving DecidableEq, Repr

/-- The judgement of a closed window (R123, R124, R125, R127). -/
def Monitor.judge (m : Monitor) (s : Settings) (index : Nat) (w : Window) : Verdict :=
  let isLow := decide (w.pulses < s.breakFloor)
  let isHigh := !isLow && decide (ceiling s w.cls < w.pulses)
  let start := if m.low = 0 then some index else m.breakStart
  let soft := if isLow || isHigh then min 65535 (m.soft + 1) else m.soft
  let warn := (isLow || isHigh) && decide (s.warnThreshold ≤ soft) && !m.warnLatch
  let m' : Monitor :=
    { m with
      low := if isLow then m.low + 1 else 0
      high := if isHigh then m.high + 1 else 0
      breakStart := if isLow then start else none
      soft := soft
      warnLatch := m.warnLatch || warn }
  { monitor := m'
    warn := warn
    threadBreak := if isLow ∧ s.breakCount ≤ m'.low then some (start.getD index) else none
    loose := isHigh && decide (s.looseCount ≤ m'.high) }

/-- The settle of a head advances by a STITCH (R119). -/
def Monitor.advanceSettle (m : Monitor) : Monitor :=
  { m with k := m.k + 1, state := if m.bigK ≤ m.k + 1 then .armed else .settling }

/-- The monitor of one head at the end of a cycle (R119, R122, R116). -/
def Blocks.closeWindowOf (plan : PlanMode) (c : Cycle) (acc : Blocks × List Condition) (h : HeadId) :
    Blocks × List Condition :=
  let b := acc.1
  let u := b.hu.get h
  let m := b.tm.get h
  if u.takesPart then
    let leaves := plan == .run && u.state != .sewing
    let done (m : Monitor) : Monitor :=
      if leaves then { m.turnOff with window := none } else { m with window := none }
    if c.kind = .stitch ∧ m.state = .settling then
      ({ b with tm := b.tm.set h (done m.advanceSettle) }, acc.2)
    else if c.kind = .stitch ∧ m.state = .armed ∧ u.faultFlag = false then
      match m.window with
      | some w =>
        let v := m.judge b.cf.settings c.index w
        let b' : Blocks := { b with tm := b.tm.set h (done v.monitor) }
        let b' := if v.warn then b'.headEvent h .tensionWarn else b'
        (b', acc.2
          ++ (match v.threadBreak with
              | some bs => [.threadBreak h u.selector.needle b.sewSlot c.index bs]
              | none => [])
          ++ (if v.loose then [.tensionLoose h u.selector.needle b.sewSlot c.index] else []))
      | none => ({ b with tm := b.tm.set h (done m) }, acc.2)
    else ({ b with tm := b.tm.set h (done m) }, acc.2)
  else acc

/-- RC counts the record sewn: S advances in a run, p moves in a patch run (R52, R143). -/
def Blocks.countSewn (b : Blocks) (plan : PlanMode) (c : Cycle) : Blocks :=
  match plan with
  | .run => b.advance
  | .patch e =>
    match b.patchWork with
    | some w => b.setWork (.patch { w with p := b.pastMarks e (c.index + 1) })
    | none => b

/-- The shaft comes to rest at an index, and the stop is handed to RC (R57, R61). -/
def Blocks.comeToRest (b : Blocks) (plan : PlanMode) (lastSewn i : Nat) : Blocks :=
  ({ b with
      sc := b.sc.rest
      rc.stop := some ⟨some lastSewn, i, b.sc.state == .stopping, b.points plan i⟩ } : Blocks).relaxHeads

/-- Whether another cycle follows, and its start (R52, R57, R59). It is planned from the index after
the record just ended, which may hold a MARK in a patch run (R52, R56); the record it sews, and the
index at which the shaft would stand, is the first that does not: S in a run, p in a patch (R50, R61). -/
def Blocks.decideNext (b : Blocks) (plan : PlanMode) (c : Cycle) : Blocks :=
  let i := c.index + 1
  let j := b.cycleIndex plan i
  if b.sc.state = .stopping ∧ b.sc.previous ≤ 200 then b.comeToRest plan c.index j
  else match b.ds.record j, decide (b.planK plan i = 0) with
    | some r, false =>
      let speed := b.planSpeed plan i r
      b.cycleStart plan j r
        (if b.sc.state = .stopping then min speed (b.sc.previous - 200) else speed)
    | _, _ => b.comeToRest plan c.index j

/-! ## The order in which FL takes the conditions of one index (log 4) -/

/-- When a condition of the index is taken: before TM takes the cycle end, before the next cycle is
decided, after it, or not yet (R60, R122, R155). -/
inductive Moment where
  | beforeMonitor | early | late | deferred
  deriving DecidableEq, Repr

/-- The moment of a condition that stands before TM takes the cycle end. -/
def firstMoment (n : Nat) : Bool := n % 2 == 1

/-- The moment of any other condition. -/
def Moment.ofChoice (n : Nat) : Moment :=
  if n % 3 = 0 then .early else if n % 3 = 1 then .late else .deferred

/-- The members of a list whose choice gives a moment. -/
def ofMoment (choice : Nat → Nat) (m : Moment) (l : List Condition) : List Condition :=
  (l.zipIdx.filter (fun p => Moment.ofChoice (choice p.2) == m)).map (·.1)

/-- The index pulse that ends a cycle, with the free choices named (R52, R57, R59, R60). -/
def Blocks.endCycle (choice : Nat → Nat) (durationNs : Nat) (plan : PlanMode) (c : Cycle)
    (b : Blocks) : Blocks :=
  -- the events of the angle not yet given, then the counts of the ended cycle
  let b := b.eventsAtIndex c
  let b : Blocks := { b with sc := b.sc.countCycle durationNs }
  let r := if c.kind = .stitch then Id8.all.foldl (Blocks.lowerBobbinOf c.index) (b, []) else (b, [])
  let empties := shuffle (fun i => choice (192 + i)) r.2
  let firstOnes := empties.zipIdx.partition (fun p => firstMoment (choice p.2))
  let b := r.1.report (firstOnes.1.map (·.1))
  -- the monitors, the deadline of a JUMP's move, and the record counted sewn
  let r := Id8.all.foldl (Blocks.closeWindowOf plan c) (b, [])
  let b := r.1
  let jumpLate := if c.kind = .jump ∧ b.fc.notDone c.index then [b.moveLateOf c.index] else []
  let rest := shuffle (fun i => choice (64 + i)) (firstOnes.2.map (·.1) ++ r.2 ++ jumpLate)
  let moment := ofMoment (fun i => choice (128 + i))
  let b : Blocks :=
    { b with sc.cycle := none
             hu := Eight.tabulate (fun h => { b.hu.get h with trimmer := false }) }
  let b := b.countSewn plan c
  -- the decision, with the conditions taken before it and after it
  let b := (b.report (moment .early rest)).decideNext plan c
  let b := b.report (moment .late rest)
  if plan = .run ∧ b.sc.state = .stopped then
    { b with fl.waiting := b.fl.waiting ++ moment .deferred rest }
  else b.report (moment .deferred rest)

end Sys2Proof.Machine
end

