-- ==== Sys2Proof/Machine/Sequence.lean ====
section
/-!
DEFINITION. What the Run Controller does from one stage of its work to the next: the run sequence,
needle reconciliation, colour changes, the shaft start, stop resolution, the steps of BACK and FWD and
the stages of a patch run (R70 to R83, R107, R108, R142, R143). A stage that ends at once leads to the
next in the same step; `Blocks.go` follows them.
-/

namespace Sys2Proof.Machine

/-! ## The colour change -/

/-- The entry of a slot in the thread plan (R105). -/
def planEntry (tp : List PlanEntry) (slot : Nat) : Option PlanEntry := tp.find? (·.slot == slot)

/-- The plan needle of a head for a slot (R105). -/
def planNeedle (tp : List PlanEntry) (slot : Nat) (h : HeadId) : Option Nat :=
  (planEntry tp slot).bind (fun e => e.needles[h.num - 1]?)

/-- A SEWING head's selector is not at the plan needle of a slot; with no entry every one differs
(R71). -/
def Blocks.needlesDiffer (b : Blocks) (slot : Nat) : Bool :=
  Id8.all.any (fun h => b.configured h && (b.hu.get h).state == .sewing &&
    (match planNeedle b.tp slot h with
      | some n => (b.hu.get h).selector != .atNeedle n
      | none => true))

/-- A selector move toward a needle begins on a selector at another one (R100). -/
def Head.moveTo (u : Head) (target timeout : Nat) : Head :=
  match u.selector with
  | .atNeedle n =>
    if n = target then u
    else { u with selector := .moving target n (max target n - min target n), selTimer := some timeout }
  | _ => u

/-- A head is commanded by a change to a needle (R107). -/
def Head.commanded (u : Head) (target : Nat) : Bool :=
  match u.selector with
  | .atNeedle n => n != target
  | _ => false

/-- A colour change begins; none when the plan holds no entry (R107). -/
def Blocks.beginChange (b : Blocks) (slot : Nat) (scope : HeadId → Bool) (kind : ChangeKind) :
    Option Blocks :=
  match planEntry b.tp slot with
  | none => none
  | some _ =>
    let needle (h : HeadId) : Nat := (planNeedle b.tp slot h).getD 0
    let moved := Eight.tabulate (fun h =>
      b.configured h && scope h && (b.hu.get h).commanded (needle h))
    some { b with
      hu := Eight.tabulate (fun h =>
        if moved.get h then (b.hu.get h).moveTo (needle h) b.cf.settings.selectorTimeout
        else b.hu.get h)
      rc.change := some ⟨slot, kind, moved, false, false⟩ }

/-- The scope of a run's change: every SEWING head (R107). -/
def Blocks.sewingScope (b : Blocks) (h : HeadId) : Bool := (b.hu.get h).state == .sewing

/-- Some commanded selector is still MOVING (R108). -/
def Blocks.changeMoving (b : Blocks) (c : Change) : Bool :=
  Id8.all.any (fun h => c.moved.get h &&
    (match (b.hu.get h).selector with
      | .moving _ _ _ => true
      | _ => false))

/-- The heads moved in a change that ends done owe a settle (R108, R117). -/
def Blocks.oweMoved (b : Blocks) (c : Change) : Blocks :=
  { b with tm := Eight.tabulate (fun h =>
      if c.moved.get h then { b.tm.get h with owed := true } else b.tm.get h) }

/-! ## Stages -/

/-- The stages of RC's work that can lead to one another within a step. -/
inductive Phase where
  /-- R70, steps 1 to 3. -/
  | sequence
  /-- R71. -/
  | reconcile
  /-- R72. -/
  | start
  /-- R76. -/
  | resolve (causes : StopCauses) (points : StopPoints)
  /-- R108: has the change in flight completed? -/
  | changeCheck
  /-- R83: the next step of BACK or FWD, or the end. -/
  | step
  /-- R143: before each start of a patch run. -/
  | patchTest
  deriving DecidableEq, Repr

/-- The run comes to rest in PAUSED with a cause; a run sequence ends with it (R66). -/
def Blocks.pauseFor (b : Blocks) (cause : PauseCause) : Blocks :=
  ({ b with rc.resume := none } : Blocks).goto .paused (some cause)

/-- Passing END: every open range closes at its index and each such head becomes STANDBY; then S
advances and the run is ENDED (R79, R137). -/
def Blocks.passEnd (b : Blocks) : Blocks :=
  let b := b.setRanges (Eight.tabulate (fun h => closeList b.ds.sew (b.rt.get h)))
  let b : Blocks := { b with
    hu := Eight.tabulate (fun h =>
      if (b.hu.get h).state = .isolated then { b.hu.get h with state := .standby } else b.hu.get h)
    rc.resume := none }
  b.advance.goto .ended none

/-- The run sequence of a RUN from IDLE or PAUSED (R70). -/
def Blocks.sequencePhase (b : Blocks) : Blocks × Option Phase :=
  if b.ds.hasKind b.ds.sew .endDesign then (b.passEnd, none)
  else if b.ds.hasKind b.ds.sew .mark then (b.advance, some .sequence)
  else
    let b : Blocks := if b.rc.resume = some .start then { b with fc.offPosition := true } else b
    if b.fc.offPosition then
      let b := b.goto .travel none
      match b.travel .returnTravel (b.ds.posBefore b.ds.sew) with
      | none => (b.pauseFor .host, none)
      | some b' =>
        if b'.fc.move.isNone then ({ b' with fc.offPosition := false }, some .reconcile) else (b', none)
    else (b, some .reconcile)

/-- NO_PLAN stops the run or ends the patch (R71, R107, R142; log 18). -/
def Blocks.noPlanStop (b : Blocks) (slot index : Nat) : Blocks :=
  let b := b.take (.noPlan slot index)
  match b.rc.runState, b.patchWork with
  | .patch, some w => b.patchEnd w .failed w.p
  | _, _ => b.pauseFor .noPlan

/-- A change asked for by RC (R107). -/
def Blocks.changePhase (b : Blocks) (slot : Nat) (scope : HeadId → Bool) (kind : ChangeKind) :
    Blocks × Option Phase :=
  match b.beginChange slot scope kind with
  | none => (b.noPlanStop slot kind.index, none)
  | some b' => (b', some .changeCheck)

/-- Needle reconciliation (R71). -/
def Blocks.reconcilePhase (b : Blocks) : Blocks × Option Phase :=
  match b.ds.record b.ds.sew with
  | some ⟨.color, _, _, slot, _, _⟩ =>
    (b.goto .changing none).changePhase slot b.sewingScope (.recordDriven b.ds.sew)
  | _ =>
    match b.rc.slotInEffect with
    | some slot =>
      if b.needlesDiffer slot then
        (b.goto .changing none).changePhase slot b.sewingScope (.reconciliation b.ds.sew)
      else (b, some .start)
    | none => (b, some .start)

/-- The monitors are prepared for the start of a RUN from IDLE or PAUSED (R72, R117; log 19). -/
def Blocks.oweParticipants (b : Blocks) : Blocks :=
  { b with tm := Eight.tabulate (fun h =>
      if b.partakes .run h then { b.tm.get h with owed := true } else b.tm.get h) }

/-- The shaft start (R72). -/
def Blocks.startPhase (b : Blocks) : Blocks × Option Phase :=
  let b : Blocks := if b.rc.resume.isSome then { b.oweParticipants with rc.resume := none } else b
  let r := b.startRequest .run b.ds.sew
  match r.2 with
  | .started => (r.1.goto .running none, none)
  | .atStop points => (r.1, some (.resolve StopCauses.none points))
  | .notReady _ => (r.1.pauseFor .host, none)
  | .selectorBusy => (r.1.pauseFor .host, none)
  | .frameNotReady => (r.1.pauseFor .host, none)

/-- The resume condition of HELD (R73). -/
def Blocks.resumeCondition (b : Blocks) : Bool :=
  decide (b.cf.settings.resumeMark ≤ b.ds.pending) || b.ds.endLoaded

/-- Stop resolution (R76 to R79). -/
def Blocks.resolvePhase (b : Blocks) (causes : StopCauses) (p : StopPoints) :
    Blocks × Option Phase :=
  let b : Blocks := { b with rc.causes := StopCauses.none, rc.stop := none }
  let b := if p.pin then b.take .pinLimit else b
  if causes.fault then (b.pauseFor .fault, none)
  else if p.pin then (b.pauseFor .pinLimit, none)
  else if causes.host then (b.pauseFor .host, none)
  else if p.mark then (b.advance.pauseFor .mark, none)
  else if p.color then (b, some .reconcile)
  else if p.endRec then (b.passEnd, none)
  else if p.endOfPending then
    let b := b.goto .held none
    (b, if b.resumeCondition then some .start else none)
  else (b.pauseFor .host, none)

/-- A patch change has ended done: the patch head owes a settle, and p moves past the COLOR of a
record-driven one (R142, R143). -/
def Blocks.patchChangeDone (b : Blocks) (w : PatchWork) (c : Change) : Blocks :=
  let b := b.modMonitor w.head (fun m => { m with owed := true })
  match c.kind with
  | .recordDriven i => b.setWork (.patch { w with p := i + 1, slot := some c.slot })
  | .reconciliation _ => b

/-- The change in flight completes when no commanded selector is MOVING (R71, R108, R142). -/
def Blocks.changeCheckPhase (b : Blocks) : Blocks × Option Phase :=
  match b.rc.change with
  | none => (b, none)
  | some c =>
    if b.changeMoving c then (b, none)
    else
      let b : Blocks := { b with rc.change := none }
      match b.rc.runState, b.patchWork with
      | .patch, some w =>
        if c.stopAll then (b.patchEnd w .failed (w.newStart .failed), none)
        else if c.paused then (b.patchEnd w .stopped w.p, none)
        else ((b.oweMoved c).patchChangeDone w c, some .patchTest)
      | _, _ =>
        if c.stopAll then (b.pauseFor .fault, none)
        else if c.paused then (b.pauseFor .host, none)
        else
          let b := b.oweMoved c
          match c.kind with
          | .recordDriven _ => (b.advance.raise .color, some .reconcile)
          | .reconciliation _ => (b, some .start)

/-- The next step of BACK or FWD, or the end of the stepping (R83, R84). -/
def Blocks.stepPhase (b : Blocks) : Blocks × Option Phase :=
  match b.rc.op with
  | some ⟨_, _, .repo w⟩ =>
    if w.pauseAsked then (b.endOpBase .stopped OpFailures.none, none)
    else match w.stepsLeft with
      | 0 => (b.endOpBase .ok OpFailures.none, none)
      | n + 1 =>
        match b.moveSew w.forward with
        | none => (b.endOpBase .failed OpFailures.none, none)
        | some b =>
          match b.travel .step (b.ds.posBefore b.ds.sew) with
          | none => (b.endOpBase .failed OpFailures.none, none)
          | some b =>
            (b.setWork (.repo { w with stepsLeft := n }),
              if b.fc.move.isNone then some .step else none)
  | _ => (b, none)

/-- Before each start of a patch run: MARKs are passed, b completes it, a COLOR is changed to, and
otherwise the shaft is asked to start, also where it came to rest before six MARKs (R143; log 20,
log 37). -/
def Blocks.patchTestPhase (b : Blocks) : Blocks × Option Phase :=
  match b.patchWork with
  | none => (b, none)
  | some w =>
    let w := { w with p := b.pastMarks w.b w.p }
    let b := b.setWork (.patch w)
    if w.p = w.b then (b.patchEnd w .ok w.b, none)
    else
      match b.ds.record w.p with
      | some ⟨.color, _, _, slot, _, _⟩ =>
        b.changePhase slot (fun h => h == w.head) (.recordDriven w.p)
      | _ =>
        let r := b.startRequest (.patch w.b) w.p
        match r.2 with
        | .started => (r.1, none)
        | _ => (r.1.patchEnd w .failed w.p, none)

/-- One stage, and the stage it leads to within the step. -/
def Blocks.phase (b : Blocks) : Phase → Blocks × Option Phase
  | .sequence => b.sequencePhase
  | .reconcile => b.reconcilePhase
  | .start => b.startPhase
  | .resolve causes points => b.resolvePhase causes points
  | .changeCheck => b.changeCheckPhase
  | .step => b.stepPhase
  | .patchTest => b.patchTestPhase

/-- Follow the stages, at most `n` of them. -/
def Blocks.follow : Nat → Phase → Blocks → Blocks
  | 0, _, b => b
  | n + 1, p, b =>
    let r := b.phase p
    match r.2 with
    | none => r.1
    | some q => Blocks.follow n q r.1

/-- The steps a BACK or FWD in flight has left. -/
def Blocks.stepsLeft (b : Blocks) : Nat :=
  match b.rc.op with
  | some ⟨_, _, .repo w⟩ => w.stepsLeft
  | _ => 0

/-- More stages than any step passes through: each record passed and each step of BACK or FWD takes
fewer than six. -/
def Blocks.stages (b : Blocks) : Nat := 6 * (b.ds.records.length + b.stepsLeft) + 64

/-- Follow the stages from one of them. -/
def Blocks.go (b : Blocks) (p : Phase) : Blocks := Blocks.follow b.stages p b

/-- RC tests the resume condition of a held run, which asks for a start when it holds (R73). -/
def Blocks.heldTest (b : Blocks) : Blocks :=
  if b.rc.runState = .held ∧ b.resumeCondition = true then b.go .start else b

end Sys2Proof.Machine
end

