-- ==== Sys2Proof/Machine/Homing.lean ====
section
/-!
DEFINITION. Homing: the axes (R40, R41), the selectors (R101), the two stages of HOME and its end
(R87, R88), and HHOME (R104).
-/

namespace Sys2Proof.Machine

/-- The configuration of an axis. -/
def Blocks.axisConfig (b : Blocks) : Axis → AxisConfig
  | .x => b.cf.config.x
  | .y => b.cf.config.y

/-- The home switch of an axis is asserted. -/
def Pins.homeSwitch (p : Pins) : Axis → Bool
  | .x => p.homeSwitchX
  | .y => p.homeSwitchY

/-- The drive-fault input of an axis is asserted. -/
def Pins.driveFault (p : Pins) : Axis → Bool
  | .x => p.driveFaultX
  | .y => p.driveFaultY

/-- The outcome of an axis is kept by a HOME (R40). -/
def HomeWork.setAxis (w : HomeWork) (ax : Axis) (o : AxisOutcome) : HomeWork :=
  match ax with
  | .x => { w with xOutcome := some o }
  | .y => { w with yOutcome := some o }

/-- Change the progress of the HOME in flight. -/
def Blocks.modHome (b : Blocks) (f : HomeWork → HomeWork) : Blocks :=
  match b.rc.op with
  | some ⟨_, _, .home w⟩ => b.setWork (.home (f w))
  | _ => b

/-- An axis is homed: it stands at its home offset, READY (R41). -/
def AxisRec.homedAt (offset : Int) : AxisRec := ⟨.ready, some offset, none, 0⟩

/-- An axis homing: stepping toward the travel minimum, its units counted from 0 (R40). -/
def AxisRec.seeking : AxisRec := ⟨.homing, none, none, 0⟩

/-- A homing in PAUSED, ENDED or HALTED sets the off-position flag (R40). -/
def Blocks.homingOffPosition (b : Blocks) : Bool :=
  match b.rc.op with
  | some ⟨_, .idle, _⟩ => false
  | some _ => true
  | none => false

/-- Axis homing begins on one axis (R40). -/
def Blocks.beginAxisHoming (b : Blocks) (ax : Axis) : Blocks :=
  if (b.fc.axis ax).state = .fault then b.modHome (fun w => w.setAxis ax .driveFault)
  else
    let b : Blocks :=
      if b.homingOffPosition then { b with fc.offPosition := true } else b
    if b.pins.homeSwitch ax then
      ({ b with fc := b.fc.setAxis ax (AxisRec.homedAt (b.axisConfig ax).homeOffset) } : Blocks).modHome
        (fun w => w.setAxis ax .homed)
    else { b with fc := b.fc.setAxis ax AxisRec.seeking }

/-- A selector homing begins (R101): an index already asserted counts as seen at once. -/
def Head.beginHoming (u : Head) (indexAsserted : Bool) (timeout : Nat) : Head :=
  if indexAsserted then { u with selector := .atNeedle 1, selTimer := none }
  else { u with selector := .homing, selTimer := some timeout }

/-- HOME homes the selector of a head: every configured head that is not OFF (R87). -/
def Blocks.homesSelector (b : Blocks) (h : HeadId) : Bool :=
  b.configured h && (b.hu.get h).state != .off

/-- The run state a HOME ends in, with OK or FAILED (R88). -/
def Blocks.endHome (b : Blocks) (result : OpResult) (f : OpFailures) : Blocks :=
  match b.rc.op with
  | some ⟨_, .halted, _⟩ =>
    if b.sc.state = .stopped ∧ b.fc.ready = true then
      if b.rc.runExists then
        ({ b with fc.offPosition := true } : Blocks).endOp result f .paused (some .halt)
      else b.endOp result f .idle none
    else b.endOp result f .halted none
  | _ => b.endOpBase result f

/-- An axis outcome that fails a HOME (R87). -/
def AxisOutcome.fails : Option AxisOutcome → Bool
  | some .homeFail => true
  | some .driveFault => true
  | _ => false

/-- The failures a HOME names (R87). -/
def HomeWork.failures (w : HomeWork) : OpFailures :=
  ⟨false, AxisOutcome.fails w.xOutcome, AxisOutcome.fails w.yOutcome, w.failed⟩

/-- HOME ends when every selector and both axes have an outcome (R87). -/
def Blocks.homeCheck (b : Blocks) : Blocks :=
  match b.rc.op with
  | some ⟨_, _, .home w⟩ =>
    if w.second && w.await == Eight.const false && w.xOutcome.isSome && w.yOutcome.isSome then
      b.endHome (if w.failures = OpFailures.none then .ok else .failed) w.failures
    else b
  | _ => b

/-- The second stage of HOME: selectors and axes begin at once (R87). -/
def Blocks.homeSecond (b : Blocks) : Blocks :=
  let homes := Eight.tabulate (fun h => b.homesSelector h)
  let b := b.modHome (fun w =>
    { w with second := true
             await := Eight.tabulate (fun h => homes.get h && !b.pins.selIndex.get h) })
  let b : Blocks :=
    { b with hu := Eight.tabulate (fun h =>
        if homes.get h then
          (b.hu.get h).beginHoming (b.pins.selIndex.get h) b.cf.settings.selectorTimeout
        else b.hu.get h) }
  ((b.beginAxisHoming .x).beginAxisHoming .y).homeCheck

/-- The needle-up find begins (R48). -/
def Sc.beginFind (s : Sc) (stallTime : Nat) : Sc :=
  { s with state := .finding, angle := some 0, demanded := 60, stallTimer := some stallTime }

/-- The first stage of HOME: a shaft that is OFF is found first (R87). -/
def Blocks.homeFirst (b : Blocks) : Blocks :=
  if b.sc.state = .off then { b with sc := b.sc.beginFind b.cf.settings.stallTime }
  else b.homeSecond

/-- The find has failed: HOME_FAIL, and HOME ends with FAILED naming the shaft (R48, R87). -/
def Blocks.findFailed (b : Blocks) : Blocks :=
  (({ b with sc := b.sc.turnOff } : Blocks).report [.homeFail .shaft]).endHome .failed
    { OpFailures.none with shaft := true }

/-- A selector homing has ended HOMED (R101, R87, R104). -/
def Blocks.selectorHomed (b : Blocks) (h : HeadId) : Blocks :=
  let b := b.modHead h (fun u => { u with selector := .atNeedle 1, selTimer := none })
  match b.rc.op with
  | some ⟨_, _, .hhome g⟩ => if g = h then b.endOpBase .ok OpFailures.none else b
  | _ => (b.modHome (fun w => { w with await := w.await.set h false })).homeCheck

/-- A selector homing has ended with SELECTOR_TIMEOUT (R101, R102, R87, R104). -/
def Blocks.selectorHomingFailed (b : Blocks) (h : HeadId) : Blocks :=
  let b := b.modHead h (fun u => { u with selector := .jammed, selTimer := none })
  let b := b.report [.selectorHoming h]
  match b.rc.op with
  | some ⟨_, _, .hhome g⟩ =>
    if g = h then
      b.endOpBase .failed { OpFailures.none with heads := (Eight.const false).set h true }
    else b
  | _ => b.homeCheck

end Sys2Proof.Machine
end

