-- ==== Sys2Proof/Machine/Answer.lean ====
section
/-!
DEFINITION. How a command is judged (R183), and the fields replies and reports are made of.
-/

namespace Sys2Proof.Machine

/-- A block's answer to a command: the blocks afterwards, and the reply's payload, which begins with
the result code (12.4). -/
abbrev Answer := Blocks × List Byte

/-- The answer of a command taken. -/
def okWith (b : Blocks) (fields : List Byte) : Answer := (b, Code.ok.byte :: fields)

/-- A command is refused by the first condition that fails, with the fields its rule names for a
refusal, and then changes nothing; otherwise it is taken (R183). -/
def Blocks.judgeWith (b : Blocks) (conditions : List (Bool × Code)) (onRefusal : Code → List Byte)
    (taken : Answer) : Answer :=
  match firstRefusal conditions with
  | some c => (b, c.byte :: onRefusal c)
  | none => taken

/-- A command whose refusals carry the code alone. -/
def Blocks.judge (b : Blocks) (conditions : List (Bool × Code)) (taken : Answer) : Answer :=
  b.judgeWith conditions (fun _ => []) taken

/-! ## Conditions that many commands share -/

/-- The part is configured (R167). -/
def Blocks.isConfigured (b : Blocks) : Bool × Code := (b.cf.lock, .unconfigured)

/-- A fixed payload length (R183). -/
def lengthIs (p : List Byte) (n : Nat) : Bool × Code := (p.length == n, .length)

/-- A number lies in a range. -/
def within (lo hi n : Nat) : Bool := decide (lo ≤ n ∧ n ≤ hi)

/-- The head number a payload begins with is valid (R94). -/
def Blocks.headIsValid (b : Blocks) (p : List Byte) : List (Bool × Code) :=
  [(within 1 8 (u8 p 0), .value), (decide (u8 p 0 ≤ b.cf.config.headCount), .noHead)]

/-- The head a payload begins with is not OFF (R96). -/
def Blocks.headIsOn (b : Blocks) (p : List Byte) : Bool × Code :=
  ((b.hu.get (id8At p 0)).state != .off, .headOff)

/-- The run state is not HALTED, or E-STOP is not asserted (R154). -/
def Blocks.notEstopped (b : Blocks) : Bool × Code := (b.rc.runState != .halted || !b.fl.estop, .estop)

/-- The run state is one of those the command is taken in. -/
def Blocks.runIs (b : Blocks) (l : List RunState) : Bool × Code := (b.runIn l, .state)

/-- A position lies within the travel limits (R38). -/
def Blocks.inTravel (b : Blocks) (p : Pos) : Bool :=
  decide (b.cf.config.x.travelMin ≤ p.x ∧ p.x ≤ b.cf.config.x.travelMax
    ∧ b.cf.config.y.travelMin ≤ p.y ∧ p.y ≤ b.cf.config.y.travelMax)

/-! ## Fields of replies and reports -/

/-- E, or an absent mark (R139, R185). -/
def Blocks.eBytes (b : Blocks) : List Byte := encOpt 4 enc32 b.e

/-- The field of the active hoop (R27). -/
def Blocks.activeField (b : Blocks) : Option Rect := b.fc.active.bind (fun h => b.fc.hoops.get h)

/-- The frame setup: the active hoop, its field, and the origin (R29; log 11). -/
def Blocks.setupBytes (b : Blocks) : List Byte :=
  encOrZero (b.fc.active.map Id8.num)
    ++ (match b.activeField with
        | some r => 1#8 :: (encS16 r.xMin ++ encS16 r.xMax ++ encS16 r.yMin ++ encS16 r.yMax)
        | none => 0#8 :: List.replicate 8 0#8)
    ++ encPos16 b.fc.origin

/-- The number of ranges of all heads, OFF heads included (R133). -/
def Blocks.rangeTotal (b : Blocks) : Nat :=
  (Id8.all.map (fun h => (b.rt.get h).length)).sum

/-- Bytes 1 to 7 of the status snapshot (12.7). -/
def Blocks.runBytes (b : Blocks) : List Byte :=
  enc8 b.rc.runState.code ++ enc8 (pauseCode b.rc.pauseCause) ++ encFlag b.fc.offPosition
    ++ enc32 b.ds.sew

/-- The state of a head as STAT shows it: 0xFF when it is not configured (12.5). -/
def Blocks.headByte (b : Blocks) (h : HeadId) : Byte :=
  if b.configured h then BitVec.ofNat 8 (b.hu.get h).state.code else 0xFF#8

/-- The flags of a head as STAT shows them: clear for an OFF head (R178). -/
def Blocks.flagNibble (b : Blocks) (h : HeadId) : Nat :=
  if (b.hu.get h).state = .off then 0 else (b.ru.heads.get h).flags.toNat

/-- Two heads' flags in a byte, the lower head in the low half (12.7). -/
def Blocks.flagPair (b : Blocks) (lo hi : HeadId) : List Byte :=
  enc8 (b.flagNibble lo + 16 * b.flagNibble hi)

/-- The status snapshot after the result code, with the link error flags (12.7). -/
def Blocks.statBytes (b : Blocks) (errs : LinkFlags) : List Byte :=
  b.runBytes ++ enc32 b.ds.load ++ enc32 b.ds.tail ++ enc16 b.ds.free ++ enc8 b.ds.channel.code
    ++ encOrZero b.rc.slotInEffect ++ enc8 b.fc.x.state.code ++ enc8 b.fc.y.state.code
    ++ encS16 (b.fc.x.coordinate.getD 0) ++ encS16 (b.fc.y.coordinate.getD 0)
    ++ enc8 (presence b.fc.x.coordinate 0 + presence b.fc.y.coordinate 1 + presence b.e 2)
    ++ enc8 b.sc.state.code ++ enc16 b.sc.demanded ++ enc16 b.sc.measured
    ++ Id8.all.map b.headByte ++ enc8 b.rangeTotal ++ enc24 (b.e.getD 0) ++ enc8 b.fl.log.length
    ++ enc8 (b.ru.pendingSet b.offHeads).toNat
    ++ b.flagPair .n1 .n2 ++ b.flagPair .n3 .n4 ++ b.flagPair .n5 .n6 ++ b.flagPair .n7 .n8
    ++ enc8 errs.code

/-- The settings record in the layout of SETW (R185). -/
def Settings.bytes (s : Settings) : List Byte :=
  enc16 s.hostSpeed ++ enc16 s.mediumCap ++ enc16 s.longCap ++ enc16 s.jumpCap ++ enc16 s.startSpeed
    ++ enc8 s.settleCode ++ enc8 s.breakFloor ++ enc8 s.breakCount ++ enc8 s.looseShort
    ++ enc8 s.looseMedium ++ enc8 s.looseLong ++ enc8 s.looseCount
    ++ enc8 (match s.looseAction with | .warn => 0 | .stop => 1) ++ enc16 s.warnThreshold
    ++ enc16 s.bobbinLow ++ enc16 s.retention ++ enc16 s.pinLimit ++ enc16 s.resumeMark
    ++ enc16 s.loadMark ++ enc8 (match s.policy with | .stopAll => 0 | .isolate => 1)
    ++ enc8 s.isolationLimit ++ enc16 s.selectorTimeout ++ enc16 s.stallTime ++ enc16 0

/-- The newest entry's sequence number, absent when the log is empty (R177). -/
def Fl.newest (f : Fl) : Option Nat := f.log.getLast?.map (fun e => e.seq.toNat)

/-- The snapshot of a report, built when its sending begins (R177, R178). The contributing heads stand in
rising head number in a HEAD report, an order no rule gives: the model's choice (log 11). -/
def Blocks.snapshot (b : Blocks) : ReportKind → List Byte
  | .fault => encOpt 4 enc32 b.fl.newest ++ enc8 b.fl.log.length ++ encFlag b.fl.overflow
  | .state => b.runBytes ++ enc32 b.sc.cycleCount.toNat
  | .opdone =>
    enc8 (opKindCode b.rc.opRecord.kind) ++ [b.rc.opRecord.tag]
      ++ enc8 (opResultCode b.rc.opRecord.result) ++ b.rc.opRecord.failures.bytes
      ++ enc16 b.rc.opRecord.counter.toNat
  | .head =>
    Id8.all.flatMap (fun h =>
      if b.ru.contributes (b.offHeads.get h) h then
        enc8 h.num ++ enc8 ((b.ru.heads.get h).flags &&& ~~~b.ru.eventMask).toNat
      else [])
  | .color => encOrZero b.rc.slotInEffect ++ enc32 b.ds.sew
  | .load => enc16 b.ds.free ++ enc32 b.ds.load

end Sys2Proof.Machine
end

