-- ==== Sys2Proof/Machine/RunCommands.lean ====
section
/-!
DEFINITION. The owner's answers to HOME, RUN, PAUSE, SPEED, BACK, FWD and CLOSE (04).
-/

namespace Sys2Proof.Machine

/-! ## HOME -/

/-- The progress of a HOME just taken. -/
def HomeWork.begun : HomeWork := ⟨false, Eight.const false, none, none, Eight.const false⟩

/-- HOME (R86, R87). -/
def cmdHome (tag : Byte) (p : List Byte) (b : Blocks) : Answer :=
  b.judge
    [b.isConfigured, lengthIs p 0, (!b.fl.estop, .estop),
      b.runIs [.idle, .paused, .ended, .halted]]
    (okWith (b.beginOp tag (.home HomeWork.begun) .homing).homeFirst [])

/-! ## RUN -/

/-- A SEWING head of the machine has a property. -/
def Blocks.someSewing (b : Blocks) (f : Head → Bool) : Bool :=
  Id8.all.any (fun h => b.configured h && (b.hu.get h).state == .sewing && f (b.hu.get h))

/-- The selector is UNKNOWN or JAMMED. -/
def Selector.lost : Selector → Bool
  | .unknown => true
  | .jammed => true
  | _ => false

/-- S is below the pin stop point, if there is one (R69). -/
def Blocks.belowPin (b : Blocks) : Bool :=
  match b.pinStop with
  | some i => decide (b.ds.sew < i)
  | none => true

/-- The conditions of RUN, in order; each is tested from the run states its row names (R69). -/
def Blocks.runConditions (b : Blocks) (p : List Byte) : List (Bool × Code) :=
  let idle := b.runIn [.idle]
  let rest := b.runIn [.idle, .paused]
  let inside := b.runIn [.paused, .held]
  [b.isConfigured, lengthIs p 0, b.notEstopped, b.runIs [.idle, .paused, .held],
    (!idle || b.ds.channel != .closed, .closed),
    (!idle || b.ds.channel != .stalled, .stalled),
    (!idle || decide (1 ≤ b.ds.load), .empty),
    (!rest || (b.sc.state == .stopped && b.fc.ready), .notHomed),
    (b.someSewing (fun _ => true), .noHeads),
    (!b.someSewing (·.faultFlag), .faultPending),
    (!rest || !b.someSewing (·.selector.lost), .notHomed),
    (!inside || b.belowPin, .pinLimit),
    (!inside || decide (1 ≤ b.ds.pending) || b.ds.endLoaded, .empty)]

/-- RUN taken; from PAUSED the pause cause is dropped first (R69). -/
def Blocks.runTaken (b : Blocks) : Blocks :=
  match b.rc.runState with
  | .idle =>
    ({ b with rc.runExists := true, rc.resume := some .start, sc.cycleCount := 0#32 } : Blocks).go
      .sequence
  | .paused =>
    (({ b with rc.resume := some .resume } : Blocks).goto .paused none).go .sequence
  | _ => b.go .start

/-- RUN (R69, R70, R73). -/
def cmdRun (_tag : Byte) (p : List Byte) (b : Blocks) : Answer :=
  b.judge (b.runConditions p) (okWith b.runTaken [])

/-! ## PAUSE -/

/-- PAUSE in MOVING: a move whose axes have both issued their last steps ends with OK (R33, R39). -/
def Blocks.pauseMove (b : Blocks) : Blocks :=
  if b.fc.completed then ({ b with fc.move := none } : Blocks).endOpBase .ok OpFailures.none
  else { b with fc := b.fc.askStop }

/-- PAUSE in REPOSITION (R84): return travel is stopped; a step runs on. -/
def Blocks.pauseReposition (b : Blocks) (w : RepoWork) : Blocks :=
  match b.fc.move with
  | some ⟨.returnTravel, _⟩ =>
    if b.fc.completed then
      ({ b with fc.move := none, fc.offPosition := false } : Blocks).endOpBase .stopped
        OpFailures.none
    else { b with fc := b.fc.askStop }
  | _ => b.setWork (.repo { w with pauseAsked := true })

/-- What PAUSE does, by the run state (R74). -/
def Blocks.pauseTaken (b : Blocks) : Blocks :=
  match b.rc.runState with
  | .travel => ({ b with rc.causes.host := true } : Blocks).stopTravel .host
  | .changing => { b with rc.change := b.rc.change.map (fun c => { c with paused := true }) }
  | .running =>
    ({ b with rc.causes.host := true, sc := b.sc.raiseStop } : Blocks).goto .stopping none
  | .stopping => { b with rc.causes.host := true }
  | .held => b.goto .paused (some .host)
  | .moving => b.pauseMove
  | .reposition =>
    match b.rc.op with
    | some ⟨_, _, .repo w⟩ => b.pauseReposition w
    | _ => b
  | .patch =>
    match b.rc.op with
    | some ⟨_, _, .patch w⟩ => b.patchInterrupt w false
    | _ => b
  | .unconfigured | .idle | .paused | .homing | .ended | .halted => b

/-- PAUSE (R74). -/
def cmdPause (_tag : Byte) (p : List Byte) (b : Blocks) : Answer :=
  b.judge
    [b.isConfigured, lengthIs p 0,
      b.runIs [.travel, .changing, .running, .stopping, .held, .moving, .reposition, .patch]]
    (okWith b.pauseTaken [])

/-! ## SPEED -/

/-- A speed in a range, a multiple of 50 (R80, R163). -/
def speedOk (lo hi v : Nat) : Bool := within lo hi v && v % 50 == 0

/-- SPEED (R80). -/
def cmdSpeed (_tag : Byte) (p : List Byte) (b : Blocks) : Answer :=
  b.judge [b.isConfigured, lengthIs p 2, (speedOk 100 1200 (u16 p 0), .value)]
    (okWith { b with cf.settings.hostSpeed := u16 p 0 } [])

/-! ## BACK and FWD -/

/-- The stepping of R83 begins: return travel first when the flag is set. -/
def Blocks.beginStepping (b : Blocks) (tag : Byte) (forward : Bool) (n : Nat) : Blocks :=
  let b := b.beginOp tag (.repo ⟨forward, n, false⟩) .reposition
  if b.fc.offPosition then
    match b.travel .returnTravel (b.ds.posBefore b.ds.sew) with
    | none => b.endOpBase .failed OpFailures.none
    | some b' =>
      if b'.fc.move.isNone then ({ b' with fc.offPosition := false } : Blocks).go .step else b'
  else b.go .step

/-- The conditions of BACK and FWD, with the largest n that would be taken (R81, R82). -/
def Blocks.stepConditions (b : Blocks) (p : List Byte) (largest : Nat) : List (Bool × Code) :=
  [b.isConfigured, lengthIs p 2, b.notEstopped, b.runIs [.paused], (b.fc.ready, .notHomed),
    (within 1 largest (u16 p 0), .value)]

/-- A refusal of BACK or FWD: VALUE carries the largest n (R81, R82). -/
def largestField (largest : Nat) (c : Code) : List Byte :=
  if c = .value then enc16 largest else []

/-- BACK (R81). -/
def cmdBack (tag : Byte) (p : List Byte) (b : Blocks) : Answer :=
  b.judgeWith (b.stepConditions p b.ds.history) (largestField b.ds.history)
    (okWith (b.beginStepping tag false (u16 p 0)) [])

/-- The largest n of FWD (R82). -/
def Blocks.forwardBound (b : Blocks) : Nat :=
  let beforeEnd := if b.ds.endLoaded then b.ds.load - 1 - b.ds.sew else b.ds.load - b.ds.sew
  match b.pinStop with
  | some i => min beforeEnd (i - b.ds.sew)
  | none => beforeEnd

/-- FWD (R82). -/
def cmdFwd (tag : Byte) (p : List Byte) (b : Blocks) : Answer :=
  b.judgeWith (b.stepConditions p b.forwardBound) (largestField b.forwardBound)
    (okWith (b.beginStepping tag true (u16 p 0)) [])

/-! ## CLOSE -/

/-- No missed range exists. -/
def Blocks.noRanges (b : Blocks) : Bool := b.rangeTotal == 0

/-- Every ISOLATED head becomes STANDBY, keeping its fault flag (R85). -/
def Blocks.standDown (b : Blocks) : Blocks :=
  { b with hu := Eight.tabulate (fun h =>
      if (b.hu.get h).state = .isolated then { b.hu.get h with state := .standby } else b.hu.get h) }

/-- CLOSE taken (R85). -/
def Blocks.closeTaken (b : Blocks) : Blocks :=
  let b := (b.setRanges (Eight.const [])).standDown.emptyStore
  ({ b with rc.causes := StopCauses.none, rc.runExists := false } : Blocks).goto
    (if b.rc.runState = .halted then .halted else .idle) none

/-- CLOSE (R85). -/
def cmdClose (_tag : Byte) (p : List Byte) (b : Blocks) : Answer :=
  b.judge
    [b.isConfigured, lengthIs p 1, b.runIs [.paused, .ended, .halted],
      (decide (u8 p 0 ≤ 1), .value), (b.noRanges || u8 p 0 == 1, .rangesLeft)]
    (okWith b.closeTaken [])

end Sys2Proof.Machine
end

