-- ==== Sys2Proof/Machine/ConfigCommands.lean ====
section
/-!
DEFINITION. The owner's answers to IDENT, CFG, SETW, SETR and RST, and what happens when the
drive-fault inputs begin to be watched (09, R42).
-/

namespace Sys2Proof.Machine

/-! ## IDENT and RST -/

/-- IDENT (R165): part code, revision, store capacity, the maxima of heads, needles, slots, hoops,
ranges and log entries, and the lock. -/
def cmdIdent (_tag : Byte) (p : List Byte) (b : Blocks) : Answer :=
  b.judge [lengthIs p 0]
    (okWith b (enc16 Config.partCode ++ enc8 Config.revision ++ enc16 Config.storeCapacity ++ enc8 8
      ++ enc8 15 ++ enc8 32 ++ enc8 8 ++ enc8 Config.maxRanges ++ enc8 Config.maxLog
      ++ encFlag b.cf.lock))

/-- RST (R166): the reset itself takes effect at the last byte of this reply. -/
def cmdRst (_tag : Byte) (p : List Byte) (b : Blocks) : Answer :=
  b.judge [lengthIs p 1, (u8 p 0 == 0, .value)] (okWith b [])

/-! ## The drive-fault inputs -/

/-- An axis whose drive-fault input is asserted is in FAULT (R42). -/
def AxisRec.faulted : AxisRec := ⟨.fault, none, none, 0⟩

/-- Both axes whose drive-fault inputs are found asserted pass to FAULT, and each raises AXIS_DRIVE;
which of two is taken first is free (R42, R150; log 4). -/
def Blocks.watchDrives (b : Blocks) : Blocks :=
  let b' : Blocks := { b with
    fc.x := if b.pins.driveFaultX then AxisRec.faulted else b.fc.x
    fc.y := if b.pins.driveFaultY then AxisRec.faulted else b.fc.y }
  match b.pins.driveFaultX, b.pins.driveFaultY with
  | false, false => b'
  | true, false => b'.report [.axisDrive .x]
  | false, true => b'.report [.axisDrive .y]
  | true, true =>
    ({ b' with draws := b.draws + 1 } : Blocks).report
      (if Config.freeOrder b.draws 0 % 2 = 0 then [.axisDrive .x, .axisDrive .y]
       else [.axisDrive .y, .axisDrive .x])

/-! ## CFG -/

/-- The configuration a CFG carries (R161, R185). -/
def configOf (p : List Byte) : MachineConfig :=
  { headCount := u8 p 0
    needleCount := u8 p 1
    x := ⟨u8 p 2, u8 p 4, s16 p 6, s16 p 8, s16 p 14⟩
    y := ⟨u8 p 3, u8 p 5, s16 p 10, s16 p 12, s16 p 16⟩
    entryAngle := u16 p 18
    trimAngle := u16 p 20 }

/-- The ranges of one axis's fields (R161). -/
def AxisConfig.ok (a : AxisConfig) : Bool :=
  within 1 64 a.stepsPerUnit && within 1 200 a.maxRate && decide (a.travelMin < a.travelMax)
    && decide (a.travelMin ≤ a.homeOffset ∧ a.homeOffset ≤ a.travelMax)

/-- The ranges of the configuration's fields (R161). -/
def MachineConfig.ok (c : MachineConfig) : Bool :=
  within 1 8 c.headCount && within 1 15 c.needleCount && c.x.ok && c.y.ok
    && within 128 384 c.entryAngle && decide (c.entryAngle < c.trimAngle)
    && decide (c.trimAngle ≤ 511)

/-- The heads after CFG and after a controller reset (R92). -/
def freshHeads (headCount : Nat) : Eight Head :=
  Eight.tabulate (fun h => if h.num ≤ headCount then Head.fresh else Head.absent)

/-- CFG taken (R162). -/
def Blocks.configure (b : Blocks) (c : MachineConfig) : Blocks :=
  (({ b with
      cf := ⟨true, c, Settings.default c.headCount⟩
      hu := freshHeads c.headCount
      tm := Eight.const Monitor.fresh
      rt := Eight.const []
      tp := []
      ru := b.ru.clearFlags } : Blocks).goto .idle none).watchDrives

/-- CFG (R161, R162). -/
def cmdCfg (_tag : Byte) (p : List Byte) (b : Blocks) : Answer :=
  b.judge
    [(!b.cf.lock, .locked), lengthIs p 24, ((configOf p).ok && u16 p 22 == 0, .value)]
    (okWith (b.configure (configOf p)) [])

/-! ## SETW and SETR -/

/-- The settings a SETW carries (R163, R185). -/
def settingsOf (p : List Byte) : Settings :=
  { hostSpeed := u16 p 0, mediumCap := u16 p 2, longCap := u16 p 4, jumpCap := u16 p 6
    startSpeed := u16 p 8, settleCode := u8 p 10, breakFloor := u8 p 11, breakCount := u8 p 12
    looseShort := u8 p 13, looseMedium := u8 p 14, looseLong := u8 p 15, looseCount := u8 p 16
    looseAction := if u8 p 17 = 1 then .stop else .warn
    warnThreshold := u16 p 18, bobbinLow := u16 p 20, retention := u16 p 22, pinLimit := u16 p 24
    resumeMark := u16 p 26, loadMark := u16 p 28
    policy := if u8 p 30 = 1 then .isolate else .stopAll
    isolationLimit := u8 p 31, selectorTimeout := u16 p 32, stallTime := u16 p 34 }

/-- A time setting is in its range (R163). -/
def timeOk (lo hi v : Nat) : Bool := within lo hi v && v % 100 == 0

/-- The ranges of the settings, with the bounds by history, head count and ISOLATED heads (R163). -/
def Blocks.settingsOk (b : Blocks) (s : Settings) : Bool :=
  speedOk 100 1200 s.hostSpeed && speedOk 100 1200 s.mediumCap && speedOk 100 1200 s.longCap
    && speedOk 100 1200 s.jumpCap && speedOk 100 600 s.startSpeed && within 0 7 s.settleCode
    && within 1 15 s.breakFloor && within 1 15 s.breakCount && within 1 255 s.looseShort
    && within 1 255 s.looseMedium && within 1 255 s.looseLong && within 1 15 s.looseCount
    && within 1 65535 s.warnThreshold && within 0 65535 s.bobbinLow && within 0 4096 s.retention
    && within s.retention 12288 s.pinLimit && decide (b.ds.history ≤ s.pinLimit)
    && within 1 1024 s.resumeMark && within 80 16384 s.loadMark
    && within 0 7 s.isolationLimit && decide (s.isolationLimit < b.cf.config.headCount)
    && decide (b.countState .isolated ≤ s.isolationLimit)
    && timeOk 100 2000 s.selectorTimeout && timeOk 100 1000 s.stallTime

/-- SETW taken: the record is replaced, the release test and the resume test follow (R164, R24,
R73). -/
def Blocks.writeSettings (b : Blocks) (s : Settings) : Blocks :=
  (({ b with cf.settings := s } : Blocks).releaseTest).heldTest

/-- SETW (R163, R164). -/
def cmdSetw (_tag : Byte) (p : List Byte) (b : Blocks) : Answer :=
  b.judge
    [b.isConfigured, lengthIs p 38, b.runIs [.idle, .paused, .held, .ended, .halted],
      (b.settingsOk (settingsOf p) && decide (u8 p 17 ≤ 1) && decide (u8 p 30 ≤ 1)
        && u16 p 36 == 0, .value)]
    (okWith (b.writeSettings (settingsOf p)) [])

/-- SETR (R164). -/
def cmdSetr (_tag : Byte) (p : List Byte) (b : Blocks) : Answer :=
  b.judge [b.isConfigured, lengthIs p 0] (okWith b b.cf.settings.bytes)

end Sys2Proof.Machine
end

