-- ==== Sys2Proof/Machine/HeadCommands.lean ====
section
/-!
DEFINITION. The owner's answers to the commands that name a head: HEN, HDIS, HJOIN, HLEAVE, HCLR,
HRST, HHOME, BOB and MCLR (05, 06).
-/

namespace Sys2Proof.Machine

/-- What every command naming one head tests first: configuration, length and head number (R94). -/
def Blocks.headFirst (b : Blocks) (p : List Byte) (n : Nat) : List (Bool × Code) :=
  [b.isConfigured, lengthIs p n] ++ b.headIsValid p

/-- The head a payload begins with. -/
def Blocks.headOf (b : Blocks) (p : List Byte) : Head := b.hu.get (id8At p 0)

/-- At rest or HALTED (R95 to R98). -/
def restStates : List RunState := [.idle, .paused, .ended, .halted]

/-- HEN (R96). -/
def cmdHen (_tag : Byte) (p : List Byte) (b : Blocks) : Answer :=
  b.judge
    (b.headFirst p 1 ++ [((b.headOf p).state == .off, .state), b.runIs restStates])
    (okWith (b.modHead (id8At p 0) (fun u =>
      { u with state := u.kept.getD .standby, kept := none })) [])

/-- The open range of an ISOLATED head is closed at max(S, a) (R137). -/
def Blocks.closeIfIsolated (b : Blocks) (h : HeadId) : Blocks :=
  if (b.hu.get h).state = .isolated then b.closeRange h b.ds.sew else b

/-- The kept state of a head that is disabled (R95). -/
def keptOf : HeadState → HeadState
  | .sewing => .sewing
  | _ => .standby

/-- HDIS taken (R95). -/
def Blocks.disable (b : Blocks) (h : HeadId) : Blocks :=
  ((b.closeIfIsolated h).modHead h (fun u =>
    { u with kept := some (keptOf u.state), state := .off, footDown := false, engaged := false,
             trimmer := false })).monitorLeaves h

/-- HDIS (R95). -/
def cmdHdis (_tag : Byte) (p : List Byte) (b : Blocks) : Answer :=
  b.judge
    (b.headFirst p 1 ++ [b.headIsOn p, b.runIs restStates,
      (!(b.headOf p).selector.busy, .busy)])
    (okWith (b.disable (id8At p 0)) [])

/-- HJOIN (R94). -/
def cmdHjoin (_tag : Byte) (p : List Byte) (b : Blocks) : Answer :=
  b.judge
    (b.headFirst p 1 ++ [b.headIsOn p, b.runIs [.idle, .paused, .ended],
      ((b.headOf p).state == .standby, .state)])
    (okWith (b.modHead (id8At p 0) (fun u => { u with state := .sewing })) [])

/-- HLEAVE taken (R94). -/
def Blocks.leave (b : Blocks) (h : HeadId) : Blocks :=
  ((b.closeIfIsolated h).modHead h (fun u => { u with state := .standby })).monitorLeaves h

/-- HLEAVE (R94). -/
def cmdHleave (_tag : Byte) (p : List Byte) (b : Blocks) : Answer :=
  b.judge
    (b.headFirst p 1 ++ [b.headIsOn p, b.runIs [.idle, .paused, .ended],
      ((b.headOf p).state == .sewing || (b.headOf p).state == .isolated, .state)])
    (okWith (b.leave (id8At p 0)) [])

/-- HCLR (R98). -/
def cmdHclr (_tag : Byte) (p : List Byte) (b : Blocks) : Answer :=
  b.judge
    (b.headFirst p 1 ++ [b.headIsOn p, b.runIs restStates,
      (!(b.headOf p).selector.lost, .state)])
    (okWith (b.modHead (id8At p 0) (fun u => { u with faultFlag := false })) [])

/-- The counts, the soft count and the warn latch are cleared (R97, R130). -/
def Monitor.headReset (m : Monitor) : Monitor := { m.zeroCounts with soft := 0, warnLatch := false }

/-- HRST taken (R97). -/
def Blocks.resetHead (b : Blocks) (h : HeadId) : Blocks :=
  let b := (b.modHead h (fun u =>
    { u with faultFlag := false, bobbin := none, lowLatch := false
             state := if u.state = .isolated then .standby else u.state })).modMonitor h
    Monitor.headReset
  let b := b.setRanges (b.rt.set h [])
  { b with ru.heads := b.ru.heads.update h (·.clear 0b1111#4) }

/-- HRST (R97). -/
def cmdHrst (_tag : Byte) (p : List Byte) (b : Blocks) : Answer :=
  b.judge
    (b.headFirst p 1 ++ [b.runIs restStates, (!(b.headOf p).selector.busy, .busy)])
    (okWith (b.resetHead (id8At p 0)) [])

/-- HHOME taken (R104). -/
def Blocks.homeHead (b : Blocks) (tag : Byte) (h : HeadId) : Blocks :=
  let b := b.beginOp tag (.hhome h) .homing
  let seen := b.pins.selIndex.get h
  let b := b.modHead h (fun u => u.beginHoming seen b.cf.settings.selectorTimeout)
  if seen then b.endOpBase .ok OpFailures.none else b

/-- HHOME (R104). -/
def cmdHhome (tag : Byte) (p : List Byte) (b : Blocks) : Answer :=
  b.judge
    (b.headFirst p 1 ++ [b.headIsOn p, b.runIs [.idle, .paused, .ended],
      (b.sc.state == .stopped, .notHomed)])
    (okWith (b.homeHead tag (id8At p 0)) [])

/-- BOB (R113). With the form OFF the count is zero (R185); a count that is not is refused with VALUE:
the model's choice (log 32). -/
def cmdBob (_tag : Byte) (p : List Byte) (b : Blocks) : Answer :=
  let isOff := u8 p 1 == 1
  let n := u16 p 2
  b.judge
    (b.headFirst p 4 ++ [b.headIsOn p, (decide (u8 p 1 ≤ 1) && (!isOff || n == 0), .value)])
    (okWith (b.modHead (id8At p 0) (fun u =>
      { u with bobbin := if isOff then none else some n, lowLatch := false })) [])

/-- MCLR (R128). -/
def cmdMclr (_tag : Byte) (p : List Byte) (b : Blocks) : Answer :=
  b.judge (b.headFirst p 1 ++ [b.headIsOn p])
    (okWith (b.modMonitor (id8At p 0) (fun m => { m with soft := 0, warnLatch := false })) [])

end Sys2Proof.Machine
end

