-- ==== Sys2Proof/Machine/RangeCommands.lean ====
section
/-!
DEFINITION. The owner's answers to REJOIN, RREAD, RDROP and PATCH (07).
-/

namespace Sys2Proof.Machine

/-- What REJOIN and RDROP reply with: the head's range count, and E (R138, R140). -/
def Blocks.rangeFields (b : Blocks) (h : HeadId) : List Byte :=
  enc8 (b.rt.get h).length ++ b.eBytes

/-- The selector is AT(n). -/
def Selector.isAt : Selector → Bool
  | .atNeedle _ => true
  | _ => false

/-- REJOIN (R138). -/
def cmdRejoin (_tag : Byte) (p : List Byte) (b : Blocks) : Answer :=
  let h := id8At p 0
  b.judge
    (b.headFirst p 1 ++ [b.headIsOn p, b.runIs [.paused, .ended],
      ((b.headOf p).state == .isolated, .state), ((b.headOf p).selector.isAt, .state)])
    (let b' := (b.closeRange h b.ds.sew).modHead h (fun u =>
        { u with state := .sewing, faultFlag := false })
     okWith b' (b'.rangeFields h))

/-- A range as RREAD carries it: its position, a, and b with 0 for OPEN (R139, R185). -/
def rangeEntry (r : Range × Nat) : List Byte :=
  enc8 (r.2 + 1) ++ enc32 r.1.a ++ enc32 (r.1.b.getD 0)

/-- RREAD (R139). -/
def cmdRread (_tag : Byte) (p : List Byte) (b : Blocks) : Answer :=
  let l := b.rt.get (id8At p 0)
  b.judge (b.headFirst p 1 ++ [b.headIsOn p])
    (okWith b (enc8 l.length ++ l.zipIdx.flatMap rangeEntry ++ b.eBytes))

/-- The range at position r of a list, 1 for the first (R133). -/
def rangeAt (l : List Range) (r : Nat) : Option Range := if r = 0 then none else l[r - 1]?

/-- What RDROP and PATCH test of the position r (R140, R141). -/
def rangeConditions (r : Nat) (o : Option Range) : List (Bool × Code) :=
  [(within 1 8 r, .value), (o.isSome, .noRange), (o.any (·.b.isSome), .state)]

/-- A range is the one a patch run is sewing (R140). -/
def Blocks.isPatched (b : Blocks) (h : HeadId) (r : Range) : Bool :=
  b.patchWork.any (fun w => w.head == h && w.a == r.a && r.b == some w.b)

/-- RDROP (R140). -/
def cmdRdrop (_tag : Byte) (p : List Byte) (b : Blocks) : Answer :=
  let h := id8At p 0
  let r := u8 p 1
  let l := b.rt.get h
  let o := rangeAt l r
  b.judge
    (b.headFirst p 2 ++ [b.headIsOn p] ++ rangeConditions r o
      ++ [(!o.any (b.isPatched h), .busy)])
    (let b' := b.setRanges (b.rt.set h (l.eraseIdx (r - 1)))
     okWith b' (b'.rangeFields h))

/-- Follow a stage's outcome. -/
def followOn (r : Blocks × Option Phase) : Blocks :=
  match r.2 with
  | none => r.1
  | some q => r.1.go q

/-- Patch travel has completed: the patch change, or no change when the patch slot is absent
(R142). -/
def Blocks.patchArrived (b : Blocks) (w : PatchWork) : Blocks :=
  match w.slot with
  | some slot => followOn (b.changePhase slot (fun h => h == w.head) (.reconciliation w.p))
  | none => b.go .patchTest

/-- Every configured head but the patch head is held at rest (R111, R141). -/
def Blocks.restOthers (b : Blocks) (h : HeadId) : Blocks :=
  { b with hu := Eight.tabulate (fun g =>
      if b.configured g && g != h then { b.hu.get g with rest := true } else b.hu.get g) }

/-- The patch run a PATCH begins (R141). -/
def Blocks.patchOf (b : Blocks) (h : HeadId) (r : Range) : PatchWork :=
  ⟨h, r.a, r.b.getD 0, r.a, b.ds.slotBefore r.a, StopCauses.none, none⟩

/-- PATCH taken: the rest flags, and patch travel; travel refused ends the patch (R141, R142). -/
def Blocks.beginPatch (b : Blocks) (tag : Byte) (w : PatchWork) : Blocks :=
  let b := (b.beginOp tag (.patch w) .patch).restOthers w.head
  match b.travel .patchTravel (b.ds.posBefore w.a) with
  | none => b.patchEnd w .failed w.p
  | some b => if b.fc.move.isNone then b.patchArrived w else b

/-- PATCH (R141). -/
def cmdPatch (tag : Byte) (p : List Byte) (b : Blocks) : Answer :=
  let h := id8At p 0
  let u := b.headOf p
  let o := rangeAt (b.rt.get h) (u8 p 1)
  b.judge
    ([b.isConfigured, lengthIs p 2, b.notEstopped] ++ b.headIsValid p
      ++ [b.headIsOn p, b.runIs [.paused, .ended]] ++ rangeConditions (u8 p 1) o
      ++ [(u.state == .sewing || u.state == .standby, .state), (!u.faultFlag, .faultPending),
        (u.selector.isAt, .notHomed), (b.sc.state == .stopped && b.fc.ready, .notHomed)])
    (match o with
     | some r => okWith (b.beginPatch tag (b.patchOf h r)) []
     | none => (b, [Code.noRange.byte]))

end Sys2Proof.Machine
end

