-- ==== Sys2Proof/Machine/FrameEvents.lean ====
section
/-!
DEFINITION. What the blocks do at the events of the frame and of the needle selectors (02, 05), and
the passing of time for axes that are stepping (log 3).
-/

namespace Sys2Proof.Machine

/-! ## Homing and the drive-fault inputs -/

/-- Set the level of a home switch. -/
def Pins.setHomeSwitch (p : Pins) (ax : Axis) (v : Bool) : Pins :=
  match ax with
  | .x => { p with homeSwitchX := v }
  | .y => { p with homeSwitchY := v }

/-- Set the level of a drive-fault input. -/
def Pins.setDriveFault (p : Pins) (ax : Axis) (v : Bool) : Pins :=
  match ax with
  | .x => { p with driveFaultX := v }
  | .y => { p with driveFaultY := v }

/-- An assertion of a home switch (R41, R42). -/
def Blocks.homeSeen (b : Blocks) (ax : Axis) : Blocks :=
  match (b.fc.axis ax).state with
  | .homing =>
    (({ b with fc := b.fc.setAxis ax (AxisRec.homedAt (b.axisConfig ax).homeOffset) } :
      Blocks).modHome (fun w => w.setAxis ax .homed)).homeCheck
  | .ready | .moving =>
    if (b.fc.axis ax).pos = some (b.axisConfig ax).homeOffset then b else b.report [.axisDrive ax]
  | .unhomed | .fault => b

/-- The home switch of an axis changes its level (R41, R42). -/
def Blocks.homeSwitch (b : Blocks) (ax : Axis) (asserted : Bool) : Blocks :=
  let b' : Blocks := { b with pins := b.pins.setHomeSwitch ax asserted }
  if asserted && b.cf.lock then b'.homeSeen ax else b'

/-- The part of an axis. -/
def partOf : Axis → Part
  | .x => .x
  | .y => .y

/-- A homing axis has moved its homing distance (R41). -/
def Blocks.homingExhausted (b : Blocks) (ax : Axis) : Blocks :=
  if (b.fc.axis ax).state = .homing then
    (({ b with fc := b.fc.setAxis ax AxisRec.unhomed } : Blocks).report [.homeFail (partOf ax)]).homeCheck
  else b

/-- A homing axis whose drive fails has the outcome DRIVE_FAULT (R41). -/
def Blocks.homingFaulted (b : Blocks) (ax : Axis) : Blocks :=
  if (b.fc.axis ax).state = .homing then b.modHome (fun w => w.setAxis ax .driveFault) else b

/-- A drive-fault input is asserted (R42). -/
def Blocks.driveFaultOn (b : Blocks) (ax : Axis) : Blocks :=
  let b' : Blocks := { b with pins := b.pins.setDriveFault ax true }
  if b.cf.lock && (b.fc.axis ax).state != .fault then
    let b'' := b'.homingFaulted ax
    ({ b'' with fc := b''.fc.setAxis ax AxisRec.faulted } : Blocks).report [.axisDrive ax]
  else b'

/-- A drive-fault input is released (R42). -/
def Blocks.driveFaultOff (b : Blocks) (ax : Axis) : Blocks :=
  let b' : Blocks := { b with pins := b.pins.setDriveFault ax false }
  if (b.fc.axis ax).state = .fault then { b' with fc := b'.fc.setAxis ax AxisRec.unhomed } else b'

/-! ## Moves -/

/-- The owner of return travel is told that it has completed (R36, R70, R83). -/
def Blocks.returned (b : Blocks) : Blocks :=
  let b' : Blocks := { b with fc.offPosition := false }
  match b.rc.runState with
  | .travel => b'.go .reconcile
  | .reposition => b'.go .step
  | _ => b'

/-- The owner of patch travel is told that it has completed (R142). -/
def Blocks.patchTravelled (b : Blocks) : Blocks :=
  match b.patchWork with
  | some w => b.patchArrived w
  | none => b

/-- The move in flight completes, and its owner is told; a waiting cycle move begins (R33, R34). -/
def Blocks.moveComplete (b : Blocks) : Blocks :=
  match b.fc.move with
  | some ⟨owner, false⟩ =>
    let b' : Blocks := { b with fc := b.fc.arrive }
    match owner with
    | .cycle _ => { b' with fc := Fc.beginWaiting b'.fc.waiting b'.fc }
    | .returnTravel => b'.returned
    | .step => b'.go .step
    | .patchTravel => b'.patchTravelled
    | .manual => b'.endOpBase .ok OpFailures.none
  | _ => b

/-- Both axes stop short, and no move is in flight (R33). -/
def Fc.stopShort (f : Fc) : Fc := { f with x := f.x.stopShort, y := f.y.stopShort, move := none }

/-- The owner of return travel is told that it was stopped (R70, R84). -/
def Blocks.returnStopped (b : Blocks) : Blocks :=
  match b.rc.runState with
  | .travel =>
    ({ b with rc.resume := none, rc.causes := StopCauses.none } : Blocks).goto .paused
      (some (if b.rc.causes.fault then .fault else .host))
  | .reposition => b.endOpBase .stopped OpFailures.none
  | _ => b

/-- The owner of patch travel is told that it was stopped (R144). -/
def Blocks.patchTravelStopped (b : Blocks) : Blocks :=
  match b.patchWork with
  | some w => b.patchStopped w
  | none => b

/-- The move in flight has stopped short, and its owner is told (R33). -/
def Blocks.moveStopped (b : Blocks) : Blocks :=
  match b.fc.move with
  | some ⟨owner, true⟩ =>
    let b' : Blocks := { b with fc := b.fc.stopShort }
    match owner with
    | .cycle _ => b'
    | .returnTravel => b'.returnStopped
    | .step => b'
    | .patchTravel => b'.patchTravelStopped
    | .manual => b'.endOpBase .stopped OpFailures.none
  | _ => b

/-- One axis issues its last step: at its target, or at the end of the unit in progress when a stop
was asked for (R33). -/
def Blocks.lastStep (b : Blocks) (ax : Axis) : Blocks :=
  let r := b.fc.axis ax
  { b with fc := b.fc.setAxis ax (if b.fc.stopAsked then r.stopShort else r.arrive) }

/-! ## Selectors -/

/-- A needle-position pulse (R100). -/
def Blocks.selectorPulse (b : Blocks) (h : HeadId) : Blocks :=
  match (b.hu.get h).selector with
  | .moving target start left =>
    if left ≤ 1 then
      (b.modHead h (fun u => { u with selector := .atNeedle target, selTimer := none })).go
        .changeCheck
    else b.modHead h (fun u => { u with selector := .moving target start (left - 1) })
  | _ => b

/-- The needle-1 index of a head changes its level (R101). -/
def Blocks.selectorIndex (b : Blocks) (h : HeadId) (asserted : Bool) : Blocks :=
  let b' : Blocks := { b with pins.selIndex := b.pins.selIndex.set h asserted }
  if asserted && (b.hu.get h).selector == .homing then b'.selectorHomed h else b'

/-- The selector timer expires with the selector MOVING (R102, R108). -/
def Blocks.moveTimedOut (b : Blocks) (h : HeadId) (target : Nat) : Blocks :=
  let b := b.modHead h (fun u => { u with selector := .jammed, selTimer := none })
  match b.rc.change with
  | some c => (b.report [.selectorChange h target c.slot c.kind]).go .changeCheck
  | none => b

/-- The selector timer of a head expires (R102). -/
def Blocks.selectorExpiry (b : Blocks) (h : HeadId) : Blocks :=
  match (b.hu.get h).selTimer, (b.hu.get h).selector with
  | some _, .moving target _ _ => b.moveTimedOut h target
  | some _, .homing => b.selectorHomingFailed h
  | _, _ => b

/-! ## Time (log 3) -/

/-- An axis that is MOVING comes on by some units, short of its target; a homing axis counts them
(R33, R40). -/
def AxisRec.comeOn (r : AxisRec) (span : Nat) (n : Nat) : AxisRec :=
  match r.state, r.pos, r.target with
  | .moving, some p, some t =>
    let k : Int := Int.ofNat (n % max 1 (t - p).natAbs)
    { r with pos := some (if p < t then p + k else p - k) }
  | .homing, _, _ => { r with homingUnits := min span (r.homingUnits + n) }
  | _, _, _ => r

/-- The homing distance of an axis: its travel span plus 100 units (R41). -/
def AxisConfig.homingDistance (a : AxisConfig) : Nat := (a.travelMax - a.travelMin).natAbs + 100

/-- An axis is stepping. -/
def AxisRec.steps (r : AxisRec) : Bool := r.state == .moving || r.state == .homing

/-- Time passes: each axis that is stepping comes on by a free number of units. -/
def Blocks.tick (b : Blocks) : Blocks :=
  if (b.fc.x.steps || b.fc.y.steps) && !b.fc.stopAsked then
    { b with
      fc.x := b.fc.x.comeOn b.cf.config.x.homingDistance (Config.freeUnits b.draws .x)
      fc.y := b.fc.y.comeOn b.cf.config.y.homingDistance (Config.freeUnits b.draws .y)
      draws := b.draws + 1 }
  else b

end Sys2Proof.Machine
end

