-- ==== Sys2Proof/WellFormed.lean ====
section
/-!
DEFINITION. When a term of Instr is a command the block can be given: a frame's payload is at most
248 bytes (R169), a frame of unknown TYPE has a TYPE that names no command (R172), and a cycle lasts
some time (R62).
-/

namespace Sys2Proof

/-- The TYPE values of the commands (12.2). -/
def commandTypes : List Byte :=
  [0x01#8, 0x02#8, 0x03#8, 0x04#8, 0x05#8, 0x08#8, 0x09#8, 0x0A#8, 0x0B#8,
   0x10#8, 0x11#8, 0x12#8, 0x13#8, 0x14#8, 0x18#8, 0x19#8, 0x1A#8, 0x1B#8,
   0x20#8, 0x21#8, 0x22#8, 0x23#8, 0x24#8, 0x25#8, 0x26#8, 0x28#8, 0x29#8,
   0x2A#8, 0x2B#8, 0x2C#8, 0x2D#8, 0x2E#8, 0x2F#8, 0x30#8, 0x31#8, 0x32#8,
   0x33#8, 0x38#8, 0x39#8, 0x3A#8, 0x3B#8, 0x40#8, 0x41#8, 0x42#8, 0x43#8]

/-- A payload the receiver can take (R169). -/
def payloadOk (payload : List Byte) : Bool := decide (payload.length ≤ Config.maxPayload)

/-- The decoder has no owner for this TYPE (R172). -/
def typeUnknown (type : Byte) : Bool := !(commandTypes.contains type)

/-- Well-formed commands. -/
def Instr.WellFormed : Instr → Bool
  | .powerOn _ => true
  | .ident _ payload => payloadOk payload
  | .cfg _ payload => payloadOk payload
  | .setw _ payload => payloadOk payload
  | .setr _ payload => payloadOk payload
  | .rst _ payload => payloadOk payload
  | .stat _ payload => payloadOk payload
  | .hstat _ payload => payloadOk payload
  | .mask _ payload => payloadOk payload
  | .evclr _ payload => payloadOk payload
  | .dopen _ payload => payloadOk payload
  | .ddata _ payload => payloadOk payload
  | .dunst _ payload => payloadOk payload
  | .dabt _ payload => payloadOk payload
  | .dread _ payload => payloadOk payload
  | .hoopdef _ payload => payloadOk payload
  | .hoopsel _ payload => payloadOk payload
  | .place _ payload => payloadOk payload
  | .move _ payload => payloadOk payload
  | .home _ payload => payloadOk payload
  | .run _ payload => payloadOk payload
  | .pause _ payload => payloadOk payload
  | .speed _ payload => payloadOk payload
  | .back _ payload => payloadOk payload
  | .fwd _ payload => payloadOk payload
  | .close _ payload => payloadOk payload
  | .hen _ payload => payloadOk payload
  | .hdis _ payload => payloadOk payload
  | .hjoin _ payload => payloadOk payload
  | .hleave _ payload => payloadOk payload
  | .hclr _ payload => payloadOk payload
  | .hrst _ payload => payloadOk payload
  | .hhome _ payload => payloadOk payload
  | .bob _ payload => payloadOk payload
  | .pset _ payload => payloadOk payload
  | .pclr _ payload => payloadOk payload
  | .pread _ payload => payloadOk payload
  | .mclr _ payload => payloadOk payload
  | .rejoin _ payload => payloadOk payload
  | .rread _ payload => payloadOk payload
  | .rdrop _ payload => payloadOk payload
  | .patch _ payload => payloadOk payload
  | .fread _ payload => payloadOk payload
  | .fdrop _ payload => payloadOk payload
  | .cread _ payload => payloadOk payload
  | .crel _ payload => payloadOk payload
  | .unknownType type _ payload => typeUnknown type && payloadOk payload
  | .lrxByte _ _ => true
  | .gapTimeout => true
  | .linkBreak => true
  | .sendStart => true
  | .transmitComplete => true
  | .estopInputChange _ => true
  | .estopRecognised => true
  | .estopReleaseRecognised => true
  | .encoderCount => true
  | .angleCountOverflow => true
  | .findCountsExhausted => true
  | .stallTimerExpiry => true
  | .indexPulse durationNs => decide (0 < durationNs)
  | .threadFeedPulse _ => true
  | .stopResolution => true
  | .selectorPulse _ => true
  | .selectorIndex _ _ => true
  | .selectorTimeout _ => true
  | .homeSwitch _ _ => true
  | .homingDistanceExhausted _ => true
  | .driveFaultAssert _ => true
  | .driveFaultRelease _ => true
  | .frameMoveComplete => true
  | .frameMoveStopped => true
  | .patchStopResolution => true
  | .lrxReturnedHigh => true
  | .axisLastStepIssued _ => true

end Sys2Proof
end

