-- ==== Sys2Proof/Decode.lean ====
section
/-!
DEFINITION. The decoder of the panel link: the command a held frame names by its TYPE (R172, 12.2),
the frame of a command, and the host's table words (the table gives no row any bits).
-/

namespace Sys2Proof

/-- The command a good frame names (12.2); a TYPE that names none, or has its top bit set, is the
decoder's own to answer (R172). -/
def commandOf (f : Frame) : Instr :=
  match f.type.toNat with
  | 0x01 => .ident f.tag f.payload
  | 0x02 => .cfg f.tag f.payload
  | 0x03 => .setw f.tag f.payload
  | 0x04 => .setr f.tag f.payload
  | 0x05 => .rst f.tag f.payload
  | 0x08 => .stat f.tag f.payload
  | 0x09 => .hstat f.tag f.payload
  | 0x0A => .mask f.tag f.payload
  | 0x0B => .evclr f.tag f.payload
  | 0x10 => .dopen f.tag f.payload
  | 0x11 => .ddata f.tag f.payload
  | 0x12 => .dunst f.tag f.payload
  | 0x13 => .dabt f.tag f.payload
  | 0x14 => .dread f.tag f.payload
  | 0x18 => .hoopdef f.tag f.payload
  | 0x19 => .hoopsel f.tag f.payload
  | 0x1A => .place f.tag f.payload
  | 0x1B => .move f.tag f.payload
  | 0x20 => .home f.tag f.payload
  | 0x21 => .run f.tag f.payload
  | 0x22 => .pause f.tag f.payload
  | 0x23 => .speed f.tag f.payload
  | 0x24 => .back f.tag f.payload
  | 0x25 => .fwd f.tag f.payload
  | 0x26 => .close f.tag f.payload
  | 0x28 => .hen f.tag f.payload
  | 0x29 => .hdis f.tag f.payload
  | 0x2A => .hjoin f.tag f.payload
  | 0x2B => .hleave f.tag f.payload
  | 0x2C => .hclr f.tag f.payload
  | 0x2D => .hrst f.tag f.payload
  | 0x2E => .hhome f.tag f.payload
  | 0x2F => .bob f.tag f.payload
  | 0x30 => .pset f.tag f.payload
  | 0x31 => .pclr f.tag f.payload
  | 0x32 => .pread f.tag f.payload
  | 0x33 => .mclr f.tag f.payload
  | 0x38 => .rejoin f.tag f.payload
  | 0x39 => .rread f.tag f.payload
  | 0x3A => .rdrop f.tag f.payload
  | 0x3B => .patch f.tag f.payload
  | 0x40 => .fread f.tag f.payload
  | 0x41 => .fdrop f.tag f.payload
  | 0x42 => .cread f.tag f.payload
  | 0x43 => .crel f.tag f.payload
  | _ => .unknownType f.type f.tag f.payload

/-- The frame that carries a command (12.2); an event of the machine has none. -/
def frameOf : Instr → Option Frame
  | .powerOn _ => none
  | .ident tag payload => some ⟨0x01#8, tag, payload⟩
  | .cfg tag payload => some ⟨0x02#8, tag, payload⟩
  | .setw tag payload => some ⟨0x03#8, tag, payload⟩
  | .setr tag payload => some ⟨0x04#8, tag, payload⟩
  | .rst tag payload => some ⟨0x05#8, tag, payload⟩
  | .stat tag payload => some ⟨0x08#8, tag, payload⟩
  | .hstat tag payload => some ⟨0x09#8, tag, payload⟩
  | .mask tag payload => some ⟨0x0A#8, tag, payload⟩
  | .evclr tag payload => some ⟨0x0B#8, tag, payload⟩
  | .dopen tag payload => some ⟨0x10#8, tag, payload⟩
  | .ddata tag payload => some ⟨0x11#8, tag, payload⟩
  | .dunst tag payload => some ⟨0x12#8, tag, payload⟩
  | .dabt tag payload => some ⟨0x13#8, tag, payload⟩
  | .dread tag payload => some ⟨0x14#8, tag, payload⟩
  | .hoopdef tag payload => some ⟨0x18#8, tag, payload⟩
  | .hoopsel tag payload => some ⟨0x19#8, tag, payload⟩
  | .place tag payload => some ⟨0x1A#8, tag, payload⟩
  | .move tag payload => some ⟨0x1B#8, tag, payload⟩
  | .home tag payload => some ⟨0x20#8, tag, payload⟩
  | .run tag payload => some ⟨0x21#8, tag, payload⟩
  | .pause tag payload => some ⟨0x22#8, tag, payload⟩
  | .speed tag payload => some ⟨0x23#8, tag, payload⟩
  | .back tag payload => some ⟨0x24#8, tag, payload⟩
  | .fwd tag payload => some ⟨0x25#8, tag, payload⟩
  | .close tag payload => some ⟨0x26#8, tag, payload⟩
  | .hen tag payload => some ⟨0x28#8, tag, payload⟩
  | .hdis tag payload => some ⟨0x29#8, tag, payload⟩
  | .hjoin tag payload => some ⟨0x2A#8, tag, payload⟩
  | .hleave tag payload => some ⟨0x2B#8, tag, payload⟩
  | .hclr tag payload => some ⟨0x2C#8, tag, payload⟩
  | .hrst tag payload => some ⟨0x2D#8, tag, payload⟩
  | .hhome tag payload => some ⟨0x2E#8, tag, payload⟩
  | .bob tag payload => some ⟨0x2F#8, tag, payload⟩
  | .pset tag payload => some ⟨0x30#8, tag, payload⟩
  | .pclr tag payload => some ⟨0x31#8, tag, payload⟩
  | .pread tag payload => some ⟨0x32#8, tag, payload⟩
  | .mclr tag payload => some ⟨0x33#8, tag, payload⟩
  | .rejoin tag payload => some ⟨0x38#8, tag, payload⟩
  | .rread tag payload => some ⟨0x39#8, tag, payload⟩
  | .rdrop tag payload => some ⟨0x3A#8, tag, payload⟩
  | .patch tag payload => some ⟨0x3B#8, tag, payload⟩
  | .fread tag payload => some ⟨0x40#8, tag, payload⟩
  | .fdrop tag payload => some ⟨0x41#8, tag, payload⟩
  | .cread tag payload => some ⟨0x42#8, tag, payload⟩
  | .crel tag payload => some ⟨0x43#8, tag, payload⟩
  | .unknownType type tag payload => some ⟨type, tag, payload⟩
  | .lrxByte _ _ => none
  | .gapTimeout => none
  | .linkBreak => none
  | .sendStart => none
  | .transmitComplete => none
  | .estopInputChange _ => none
  | .estopRecognised => none
  | .estopReleaseRecognised => none
  | .encoderCount => none
  | .angleCountOverflow => none
  | .findCountsExhausted => none
  | .stallTimerExpiry => none
  | .indexPulse _ => none
  | .threadFeedPulse _ => none
  | .stopResolution => none
  | .selectorPulse _ => none
  | .selectorIndex _ _ => none
  | .selectorTimeout _ => none
  | .homeSwitch _ _ => none
  | .homingDistanceExhausted _ => none
  | .driveFaultAssert _ => none
  | .driveFaultRelease _ => none
  | .frameMoveComplete => none
  | .frameMoveStopped => none
  | .patchStopResolution => none
  | .lrxReturnedHigh => none
  | .axisLastStepIssued _ => none

/-- The command a word of the table's numbering spells: opcode_table.json gives no row any bits, so
no word spells one (log 29). -/
def decodeTableWord (_nbits _w : Nat) : Option Instr := none

end Sys2Proof
end

