-- ==== Sys2Proof/Machine/FrameCommands.lean ====
section
/-!
DEFINITION. The owner's answers to HOOPDEF, HOOPSEL, PLACE and MOVE (02).
-/

namespace Sys2Proof.Machine

/-- The extents recheck: the placed box lies inside the field; an empty box fits (R28). -/
def recheck (box : Option Rect) (origin : Pos) (field : Rect) : Bool :=
  match box with
  | none => true
  | some r =>
    decide (field.xMin ≤ origin.x + r.xMin ∧ origin.x + r.xMax ≤ field.xMax
      ∧ field.yMin ≤ origin.y + r.yMin ∧ origin.y + r.yMax ≤ field.yMax)

/-- The recheck, made only while the channel is not CLOSED (R28). -/
def Blocks.fits (b : Blocks) (origin : Pos) (field : Option Rect) : Bool :=
  b.ds.channel == .closed ||
    (match field with
      | some f => recheck b.ds.box origin f
      | none => b.ds.box.isNone)

/-- HOOPDEF (R29). -/
def cmdHoopdef (_tag : Byte) (p : List Byte) (b : Blocks) : Answer :=
  let n := u8 p 0
  let h := id8At p 0
  let r : Rect := ⟨s16 p 2, s16 p 4, s16 p 6, s16 p 8⟩
  b.judgeWith
    [b.isConfigured, lengthIs p 10, b.runIs [.idle],
      (within 1 8 n && u8 p 1 == 0, .value),
      (decide (r.xMin < r.xMax ∧ r.yMin < r.yMax), .value),
      (b.inTravel ⟨r.xMin, r.yMin⟩ && b.inTravel ⟨r.xMax, r.yMax⟩, .value),
      (b.fc.active != some h || b.fits b.fc.origin (some r), .field)]
    (fun _ => b.setupBytes)
    (let b' : Blocks := { b with fc.hoops := b.fc.hoops.set h (some r) }
     okWith b' b'.setupBytes)

/-- HOOPSEL (R30). -/
def cmdHoopsel (_tag : Byte) (p : List Byte) (b : Blocks) : Answer :=
  let n := u8 p 0
  let h := id8At p 0
  b.judgeWith
    [b.isConfigured, lengthIs p 1, b.runIs [.idle], (within 0 8 n, .value),
      (n != 0 || b.ds.channel == .closed, .state),
      (n == 0 || (b.fc.hoops.get h).isSome, .noHoop),
      (n == 0 || b.fits b.fc.origin (b.fc.hoops.get h), .field)]
    (fun _ => b.setupBytes)
    (let b' : Blocks := { b with fc.active := if n = 0 then none else some h }
     okWith b' b'.setupBytes)

/-- PLACE (R31). -/
def cmdPlace (_tag : Byte) (p : List Byte) (b : Blocks) : Answer :=
  let o := pos16 p 0
  b.judgeWith
    [b.isConfigured, lengthIs p 4, b.runIs [.idle], (b.fits o b.activeField, .field)]
    (fun _ => b.setupBytes)
    (let b' : Blocks := { b with fc.origin := o }
     okWith b' b'.setupBytes)

/-- A manual move begins; one with no step to issue ends at once (R38, R39). -/
def Blocks.beginManual (b : Blocks) (tag : Byte) (target : Pos) : Blocks :=
  let off := b.rc.runState != .idle
  let b := b.beginOp tag .move .moving
  let b : Blocks :=
    { b with fc := { b.fc.depart .manual target with offPosition := b.fc.offPosition || off } }
  if b.fc.move.isNone then b.endOpBase .ok OpFailures.none else b

/-- MOVE (R38). -/
def cmdMove (tag : Byte) (p : List Byte) (b : Blocks) : Answer :=
  let t := pos16 p 0
  b.judge
    [b.isConfigured, lengthIs p 4, b.notEstopped, b.runIs [.idle, .paused, .ended],
      (b.inTravel t, .value), (b.fc.ready, .notHomed)]
    (okWith (b.beginManual tag t) [])

end Sys2Proof.Machine
end

