-- ==== Sys2Proof/Machine/LogCommands.lean ====
section
/-!
DEFINITION. The owner's answers to FREAD, FDROP, CREAD and CREL (08).
-/

namespace Sys2Proof.Machine

/-- FREAD (R158). -/
def cmdFread (_tag : Byte) (p : List Byte) (b : Blocks) : Answer :=
  b.judge [lengthIs p 1, (within 1 4 (u8 p 0), .value)]
    (okWith b (enc8 b.fl.log.length ++ encFlag b.fl.overflow ++ enc32 b.fl.nextSeq.toNat
      ++ (b.fl.log.take (u8 p 0)).flatMap Entry.bytes))

/-- The sequence number of the oldest entry. -/
def Fl.oldest (f : Fl) : Option Nat := f.log.head?.map (fun e => e.seq.toNat)

/-- FDROP (R159). -/
def cmdFdrop (_tag : Byte) (p : List Byte) (b : Blocks) : Answer :=
  let n := u8 p 0
  b.judge
    [b.isConfigured, lengthIs p 5, (within 1 32 n, .value), (!b.fl.log.isEmpty, .empty),
      (decide (n ≤ b.fl.log.length), .value), (b.fl.oldest == some (u32 p 1), .state)]
    (let b' : Blocks := { b with fl.log := b.fl.log.drop n, fl.overflow := false }
     okWith b' (enc8 b'.fl.log.length ++ encOpt 4 enc32 b'.fl.oldest))

/-- CREAD (R160). -/
def cmdCread (_tag : Byte) (p : List Byte) (b : Blocks) : Answer :=
  b.judge [lengthIs p 0]
    (okWith b (encFlag b.fl.capture.isSome
      ++ (match b.fl.capture with | some e => e.bytes | none => [])))

/-- CREL (R160). -/
def cmdCrel (_tag : Byte) (p : List Byte) (b : Blocks) : Answer :=
  b.judge [b.isConfigured, lengthIs p 0] (okWith { b with fl.capture := none } [])

end Sys2Proof.Machine
end

