-- ==== Sys2Proof/Machine/PlanCommands.lean ====
section
/-!
DEFINITION. The owner's answers to PSET, PCLR and PREAD (05).
-/

namespace Sys2Proof.Machine

/-- Put an entry in its place in the plan, slots rising, in place of one held for the slot (R106). -/
def putEntry (e : PlanEntry) : List PlanEntry → List PlanEntry
  | [] => [e]
  | x :: rest =>
    if x.slot = e.slot then e :: rest
    else if e.slot < x.slot then e :: x :: rest
    else x :: putEntry e rest

/-- The slot is free for PSET and PCLR while a run exists, in CHANGING and in PATCH (R106). -/
def Blocks.slotFree (b : Blocks) (slot : Nat) : List (Bool × Code) :=
  let target := b.rc.change.any (·.slot == slot)
  [(!b.rc.runExists || b.rc.slotInEffect != some slot || (planEntry b.tp slot).isNone, .state),
    (!b.runIn [.changing] || !target, .state),
    (!b.runIn [.patch] || (!target && !b.patchWork.any (·.slot == some slot)), .state)]

/-- PSET (R106). -/
def cmdPset (_tag : Byte) (p : List Byte) (b : Blocks) : Answer :=
  let slot := u8 p 0
  let needles := (p.drop 1).map BitVec.toNat
  b.judge
    ([b.isConfigured, (within 1 32 slot, .value),
      (needles.length == b.cf.config.headCount, .value),
      (needles.all (within 1 b.cf.config.needleCount), .value)] ++ b.slotFree slot)
    (let b' : Blocks := { b with tp := putEntry ⟨slot, needles⟩ b.tp }
     okWith b' (enc8 b'.tp.length))

/-- PCLR (R106). -/
def cmdPclr (_tag : Byte) (p : List Byte) (b : Blocks) : Answer :=
  let slot := u8 p 0
  b.judge ([b.isConfigured, lengthIs p 1, (within 1 32 slot, .value)] ++ b.slotFree slot)
    (let b' : Blocks := { b with tp := b.tp.filter (fun e => e.slot != slot) }
     okWith b' (enc8 b'.tp.length))

/-- PREAD (R105). -/
def cmdPread (_tag : Byte) (p : List Byte) (b : Blocks) : Answer :=
  let e := planEntry b.tp (u8 p 0)
  b.judge [b.isConfigured, lengthIs p 1, (within 1 32 (u8 p 0), .value)]
    (okWith b (enc8 b.tp.length ++ encFlag e.isSome
      ++ (match e with | some e => e.needles.flatMap enc8 | none => [])))

end Sys2Proof.Machine
end

