-- ==== Sys2Proof/Machine/ReportCommands.lean ====
section
/-!
DEFINITION. The owner's answers to STAT, HSTAT, MASK and EVCLR (11).
-/

namespace Sys2Proof.Machine

/-- STAT (R181): the link error flags it reads are those of the Panel Link, which clears them. -/
def cmdStat (errs : LinkFlags) (_tag : Byte) (p : List Byte) (b : Blocks) : Answer :=
  b.judge [lengthIs p 0] (okWith b (b.statBytes errs))

/-- The settle progress as it is read (R132). -/
def Monitor.progress (m : Monitor) : Nat × Nat :=
  match m.state with
  | .off => (0, 0)
  | .settling => (m.k, m.bigK)
  | .armed => (m.bigK, m.bigK)

/-- What HSTAT shows of a head that is not OFF (R182). -/
def headBytes (u : Head) (m : Monitor) (ranges : Nat) : List Byte :=
  enc8 u.state.code ++ encFlag u.faultFlag ++ encFlag u.rest ++ u.selector.bytes
    ++ encOpt 2 enc16 u.bobbin ++ encFlag u.lowLatch
    ++ enc8 m.state.code ++ enc8 m.progress.1 ++ enc8 m.progress.2
    ++ enc8 m.low ++ enc8 m.high ++ encOpt 4 enc32 m.breakStart ++ enc16 m.soft
    ++ encFlag m.warnLatch ++ enc8 ranges

/-- What HSTAT shows of an OFF head: OFF, every value clear, the bobbin count 0 (R96). -/
def offHeadBytes : List Byte :=
  headBytes { Head.absent with bobbin := some 0 } Monitor.fresh 0

/-- HSTAT (R182). -/
def cmdHstat (_tag : Byte) (p : List Byte) (b : Blocks) : Answer :=
  let h := id8At p 0
  b.judge (b.headFirst p 1)
    (okWith b (if (b.headOf p).state = .off then offHeadBytes
      else headBytes (b.hu.get h) (b.tm.get h) (b.rt.get h).length))

/-- MASK (R179). -/
def cmdMask (_tag : Byte) (p : List Byte) (b : Blocks) : Answer :=
  b.judge
    [lengthIs p 4, (decide (u8 p 0 < 64) && decide (u8 p 2 < 16) && u8 p 3 == 0, .value)]
    (let ru := b.ru.setMasks (BitVec.ofNat 6 (u8 p 0)) (BitVec.ofNat 8 (u8 p 1))
        (BitVec.ofNat 4 (u8 p 2))
     okWith { b with ru := ru }
      (enc8 ru.kindMask.toNat ++ enc8 ru.headMask.toNat ++ enc8 ru.eventMask.toNat))

/-- EVCLR (R180). -/
def cmdEvclr (_tag : Byte) (p : List Byte) (b : Blocks) : Answer :=
  let h := id8At p 0
  b.judge (b.headFirst p 2 ++ [b.headIsOn p, (decide (u8 p 1 < 16), .value)])
    (let b' : Blocks :=
      { b with ru.heads := b.ru.heads.update h (·.clear (BitVec.ofNat 4 (u8 p 1))) }
     okWith b' (enc8 (b'.ru.heads.get h).flags.toNat))

end Sys2Proof.Machine
end

