-- ==== Sys2Proof/Machine/StoreCommands.lean ====
section
/-!
DEFINITION. The owner's answers to DOPEN, DDATA, DUNST, DABT and DREAD (01).
-/

namespace Sys2Proof.Machine

/-- DOPEN (R8). -/
def cmdDopen (_tag : Byte) (p : List Byte) (b : Blocks) : Answer :=
  let n := u32 p 0
  b.judge
    [b.isConfigured, lengthIs p 4, b.runIs [.idle], (b.ds.channel == .closed, .state),
      (n == 0 || within 2 16777216 n, .value), (b.fc.active.isSome, .noHoop)]
    (okWith { b with ds := Ds.openDesign n } [])

/-- What every DDATA reply carries after its code: the number taken, L and free (R12). -/
def Blocks.loadFields (b : Blocks) (taken : Nat) : List Byte :=
  enc8 taken ++ enc32 b.ds.load ++ enc16 b.ds.free

/-- Taking a record, after which RC tests the resume condition of HELD (R16, R73). -/
def Blocks.takeRecord (b : Blocks) (r : StoredRecord) : Blocks :=
  ({ b with ds := b.ds.take r } : Blocks).heldTest

/-- The offered records, one at a time (R12): the blocks, the code and the number taken. -/
def Blocks.offer : List RawRecord → Nat → Blocks → Blocks × Code × Nat
  | [], n, b => (b, .ok, n)
  | r :: rest, n, b =>
    if b.ds.free = 0 then (b, .full, n)
    else
      match b.ds.check b.activeField b.fc.origin r with
      | .error code => ({ b with ds.channel := .stalled }, code, n)
      | .ok rec' =>
        if rec'.kind = .endDesign then
          (b.takeRecord rec', if rest.isEmpty then .ok else .afterEnd, n + 1)
        else Blocks.offer rest (n + 1) (b.takeRecord rec')

/-- A DDATA frame that has passed R9 (R10, R11). -/
def Blocks.designData (b : Blocks) (p : List Byte) : Blocks × Code × Nat :=
  let f := u24 p 0
  let n := u8 p 3
  if b.ds.channel = .finished then
    (b, if f + n - 1 < b.ds.load then .ok else .afterEnd, 0)
  else if b.ds.load < f then (b, .gap, 0)
  else b.offer ((rawRecords (p.drop 4)).drop (b.ds.load - f)) 0

/-- DDATA (R9 to R16). -/
def cmdDdata (_tag : Byte) (p : List Byte) (b : Blocks) : Answer :=
  let n := u8 p 3
  b.judgeWith
    [b.isConfigured, (decide (4 ≤ p.length), .length), (within 1 80 n, .value),
      (p.length == 4 + 3 * n, .length), (b.ds.channel != .closed, .closed),
      (b.ds.channel != .stalled, .stalled)]
    (fun _ => b.loadFields 0)
    (let r := b.designData p
     (r.1, r.2.1.byte :: r.1.loadFields r.2.2))

/-- DUNST (R18). -/
def cmdDunst (_tag : Byte) (p : List Byte) (b : Blocks) : Answer :=
  b.judge [b.isConfigured, lengthIs p 0, (b.ds.channel == .stalled, .state)]
    (okWith { b with ds.channel := .opened } [])

/-- DABT (R19). -/
def cmdDabt (_tag : Byte) (p : List Byte) (b : Blocks) : Answer :=
  b.judge [b.isConfigured, lengthIs p 0, b.runIs [.idle]] (okWith b.emptyStore [])

/-- One DREAD entry of 18 bytes (R20, R185). -/
def Ds.readEntry (d : Ds) (i : Nat) : List Byte :=
  enc32 i ++
    (match d.record i with
      | some r =>
        (if i < d.sew then enc8 1 else enc8 2) ++ enc8 r.kind.code ++ encS8 r.dx ++ encS8 r.dy
          ++ enc8 r.slot ++ encS32 r.relAfter.x ++ encS32 r.relAfter.y ++ encOrZero r.slotAfter
      | none => [Code.notHeld.byte] ++ List.replicate 13 0#8)

/-- DREAD (R20). -/
def cmdDread (_tag : Byte) (p : List Byte) (b : Blocks) : Answer :=
  let m := u8 p 3
  b.judge [lengthIs p 4, (within 1 8 m, .value)]
    (okWith b ((List.range m).flatMap (fun k => b.ds.readEntry (u24 p 0 + k))))

end Sys2Proof.Machine
end

