-- ==== Sys2Proof/Machine/Link.lean ====
section
/-!
DEFINITION. The Panel Link (10): the decoder and the owners' answers, the arrival of a frame, the
receiver byte by byte, receive errors, the transmitter, the link reset, and the controller reset
(R166) and power-on (R167).
-/

namespace Sys2Proof.Machine

/-! ## The decoder (R172) -/

/-- The answer to a command frame: its owner's, or UNKNOWN where the TYPE names no command (R172). -/
def answer (errs : LinkFlags) (f : Frame) (b : Blocks) : Answer :=
  match commandOf f with
  | .ident t p => cmdIdent t p b
  | .cfg t p => cmdCfg t p b
  | .setw t p => cmdSetw t p b
  | .setr t p => cmdSetr t p b
  | .rst t p => cmdRst t p b
  | .stat t p => cmdStat errs t p b
  | .hstat t p => cmdHstat t p b
  | .mask t p => cmdMask t p b
  | .evclr t p => cmdEvclr t p b
  | .dopen t p => cmdDopen t p b
  | .ddata t p => cmdDdata t p b
  | .dunst t p => cmdDunst t p b
  | .dabt t p => cmdDabt t p b
  | .dread t p => cmdDread t p b
  | .hoopdef t p => cmdHoopdef t p b
  | .hoopsel t p => cmdHoopsel t p b
  | .place t p => cmdPlace t p b
  | .move t p => cmdMove t p b
  | .home t p => cmdHome t p b
  | .run t p => cmdRun t p b
  | .pause t p => cmdPause t p b
  | .speed t p => cmdSpeed t p b
  | .back t p => cmdBack t p b
  | .fwd t p => cmdFwd t p b
  | .close t p => cmdClose t p b
  | .hen t p => cmdHen t p b
  | .hdis t p => cmdHdis t p b
  | .hjoin t p => cmdHjoin t p b
  | .hleave t p => cmdHleave t p b
  | .hclr t p => cmdHclr t p b
  | .hrst t p => cmdHrst t p b
  | .hhome t p => cmdHhome t p b
  | .bob t p => cmdBob t p b
  | .pset t p => cmdPset t p b
  | .pclr t p => cmdPclr t p b
  | .pread t p => cmdPread t p b
  | .mclr t p => cmdMclr t p b
  | .rejoin t p => cmdRejoin t p b
  | .rread t p => cmdRread t p b
  | .rdrop t p => cmdRdrop t p b
  | .patch t p => cmdPatch t p b
  | .fread t p => cmdFread t p b
  | .fdrop t p => cmdFdrop t p b
  | .cread t p => cmdCread t p b
  | .crel t p => cmdCrel t p b
  | _ => (b, [Code.unknown.byte])

/-- A reply took its command. -/
def isOk (reply : List Byte) : Bool := reply.head? == some Code.ok.byte

/-- The reply frame of a command (R172, 12.2). -/
def replyFrame (f : Frame) (payload : List Byte) : Frame := ⟨f.type ||| 0x80#8, f.tag, payload⟩

/-- The decoder takes a frame: its owner answers, the reply is queued; a STAT taken clears the link
error flags (R170), and an RST taken begins its wait (R166, R172). -/
def State.takeFrame (f : Frame) (s : State) : State :=
  let a := answer s.pl.errs f s.blk
  let resets := f.type == 0x05#8 && isOk a.2
  let reads := f.type == 0x08#8 && isOk a.2
  { s with
    blk := a.1
    pl.replies := s.pl.replies ++ [⟨replyFrame f a.2, if resets then .rstReply else .reply⟩]
    pl.errs := if reads then LinkFlags.clear else s.pl.errs
    pl.rstTaken := s.pl.rstTaken || resets }

/-- The decoder may take a frame (R172, R166). -/
def Pl.mayTake (p : Pl) : Bool := decide (p.replies.length < Config.linkPlaces) && !p.rstTaken

/-- The decoder takes the oldest held frames while it may, at most `n` of them (R172). -/
def State.drain : Nat → State → State
  | 0, s => s
  | n + 1, s =>
    match s.pl.slots with
    | [] => s
    | f :: rest =>
      if s.pl.mayTake then
        State.drain n (State.takeFrame f { s with pl.slots := rest })
      else s

/-- The decoder goes on until it may take no more: no more frames are held than there are slots. -/
def State.decode (s : State) : State := State.drain s.pl.slots.length s

/-! ## Arrival and receive errors -/

/-- A LINK_ERROR frame (R170, R183). -/
def errorFrame (e : LinkError) (tag : Byte) : Outbound :=
  ⟨⟨linkErrorType, tag, [e.byte]⟩, .linkError⟩

/-- A receive error or an OVERRUN: its flag is set, and its frame queued if there is room
(R170, R172). -/
def Pl.linkError (p : Pl) (e : LinkError) (tag : Byte) : Pl :=
  { p with
    errs := p.errs.set e
    replies := if p.replies.length < Config.linkPlaces then p.replies ++ [errorFrame e tag]
               else p.replies }

/-- The READY output: high while a slot is free, and low while all four are full and while the part
makes itself ready after power-on (R167, R171, R175). -/
def Pl.ready (p : Pl) : Bool := !p.makingReady && decide (p.slots.length < Config.linkPlaces)

/-- A good frame is judged: it takes a free slot and is decoded when it may be, or it is lost to
OVERRUN (R171, R172). A command row given while LRX is still low after a break, when no frame can
complete, is taken all the same: the model's choice (log 27). -/
def arrive (f : Frame) (s : State) : State :=
  if s.pl.slots.length < Config.linkPlaces then
    ({ s with pl.slots := s.pl.slots ++ [f] } : State).decode
  else { s with pl := s.pl.linkError .overrun f.tag }

/-- A receive error ends the frame in progress (R170). -/
def State.receiveError (s : State) (e : LinkError) (tag : Byte) : State :=
  { s with pl := ({ s.pl with rx := .hunt } : Pl).linkError e tag }

/-- Both CRC bytes are taken: the frame is judged (R169). -/
def State.judgeFrame (s : State) (len type tag : Byte) (payload : List Byte) (low high : Byte) :
    State :=
  if crc16 (len :: type :: tag :: payload) = high ++ low then
    arrive ⟨type, tag, payload⟩ { s with pl.rx := .hunt }
  else s.receiveError .crc tag

/-- A byte without a framing error, taken by the receiver's state (R169, R170). -/
def State.goodByte (s : State) (b : Byte) : State :=
  match s.pl.rx with
  | .hunt => if b = 0xA5#8 then { s with pl.rx := .header [] } else s
  | .header [] =>
    if Config.maxPayload < b.toNat then s.receiveError .length 0#8
    else { s with pl.rx := .header [b] }
  | .header [len] => { s with pl.rx := .header [len, b] }
  | .header (len :: type :: _) =>
    { s with pl.rx := if len = 0#8 then .crc len type b [] none else .payload len type b [] }
  | .payload len type tag got =>
    { s with pl.rx :=
        if got.length + 1 = len.toNat then .crc len type tag (got ++ [b]) none
        else .payload len type tag (got ++ [b]) }
  | .crc len type tag got none => { s with pl.rx := .crc len type tag got (some b) }
  | .crc len type tag got (some low) => s.judgeFrame len type tag got low b

/-- The TAG of the frame in progress, 0 before the TAG byte; none in HUNT (R170). -/
def Receiver.tagSoFar : Receiver → Option Byte
  | .hunt => none
  | .header _ => some 0#8
  | .payload _ _ tag _ => some tag
  | .crc _ _ tag _ _ => some tag

/-- A byte on LRX; while the line stays low after a break none is assembled (R169, R170, R174). -/
def State.receive (s : State) (b : Byte) (framingError : Bool) : State :=
  if s.pl.lineLow then s
  else if framingError then
    match s.pl.rx.tagSoFar with
    | none => s
    | some tag => s.receiveError .framing tag
  else s.goodByte b

/-- The gap timer expires inside a frame (R170). -/
def State.gap (s : State) : State :=
  match s.pl.rx.tagSoFar with
  | none => s
  | some tag => s.receiveError .gap tag

/-! ## The transmitter (R173) -/

/-- A report's sending begins: its snapshot is built, its kind leaves the pending set, and the flags
a HEAD report carries are marked (R173, R178). -/
def State.beginReport (s : State) (k : ReportKind) : State :=
  let ru := s.blk.ru.beginSending k
  { s with
    pl.tx := some ⟨⟨k.type, 0#8, s.blk.snapshot k⟩, .report k⟩
    blk.ru := if k = .head then ru.markCarried s.blk.offHeads else ru }

/-- An idle transmitter chooses the next frame, if there is one; a queued frame that leaves frees its
place for the decoder (R173, R172). -/
def State.sendStart (s : State) : State :=
  match s.pl.tx with
  | some _ => s
  | none =>
    match s.pl.replies with
    | o :: rest => ({ s with pl.tx := some o, pl.replies := rest } : State).decode
    | [] =>
      match firstPending (s.blk.ru.pendingSet s.blk.offHeads) with
      | some k => s.beginReport k
      | none => s

/-! ## Resets -/

/-- The blocks after a controller reset (R166): the lock and the configuration, the fault log, the
capture and the E-STOP recognition are kept; conditions already handed to FL are taken first. -/
def Blocks.controllerReset (b : Blocks) : Blocks :=
  let b := b.report []
  let b' : Blocks :=
    { b with
      cf.settings := Settings.default b.cf.config.headCount
      ds := Ds.empty
      fc := Fc.reset
      sc := Sc.reset
      rc := Rc.reset (if b.cf.lock then .idle else .unconfigured)
      hu := freshHeads b.cf.config.headCount
      tp := []
      tm := Eight.const Monitor.fresh
      rt := Eight.const []
      ru := Ru.reset }
  if b.cf.lock then b'.watchDrives else b'

/-- PL after a controller reset (R175); LRX keeps its level. -/
def Pl.controllerReset (p : Pl) : Pl := { Pl.reset p.rate with lineLow := p.lineLow }

/-- The controller reset takes effect (R166). -/
def State.controllerReset (s : State) : State :=
  { s with pl := s.pl.controllerReset, blk := s.blk.controllerReset }

/-- The last byte of the frame being sent has left (R173, R178, R166). -/
def State.sent (s : State) : State :=
  match s.pl.tx with
  | none => s
  | some o =>
    let s' : State := { s with pl.tx := none }
    match o.purpose with
    | .rstReply => s'.controllerReset
    | .report .head => { s' with blk.ru := s'.blk.ru.headSent }
    | _ => s'

/-- A report that a link reset abandons is pending again unless masked meanwhile; the marks of a HEAD
report are removed (R173, R178). -/
def Ru.abandon (r : Ru) : Option Outbound → Ru
  | some ⟨_, .report .head⟩ => r.unmarkAll
  | some ⟨_, .report k⟩ => r.pendAgain k
  | _ => r

/-- A break makes a link reset (R174): the slots are emptied, so READY (`Pl.ready`) rises; an RST taken
takes effect with it (R166). -/
def State.linkReset (s : State) : State :=
  let s' : State :=
    { s with
      pl := { s.pl with rx := .hunt, lineLow := true, slots := [], replies := [], tx := none }
      blk.ru := s.blk.ru.abandon s.pl.tx }
  if s.pl.rstTaken then s'.controllerReset else s'

/-- Power-on with the straps selecting a rate: every block takes its power-on values and READY is low
while the part makes itself ready; the inputs stand at their levels, and an asserted E-STOP input is
timed at once (R154, R167, R175). A break recognised before is forgotten, though LRX may still be low:
the model's choice (log 27). -/
def State.powerUp (s : State) (rate : LineRate) : State :=
  { s with
    pl := { Pl.reset rate with makingReady := true }
    blk := { Blocks.reset with
      pins := s.blk.pins
      draws := s.blk.draws
      fl := { Fl.reset with assertTiming := s.blk.pins.estop } } }

/-- The part is ready: READY rises (R167). -/
def State.becomeReady (s : State) : State := { s with pl.makingReady := false }

/-- POWER_ON: the part makes itself ready, and then is (R167). -/
def State.powerOn (s : State) (rate : LineRate) : State := (s.powerUp rate).becomeReady

end Sys2Proof.Machine
end

