-- ==== Sys2Proof/Machine/ShaftEvents.lean ====
section
/-!
DEFINITION. What the blocks do at the events of the shaft, the E-STOP input and the thread-feed
inputs, and at the resolution of a stop (03, 04, 06, 07, 08).
-/

namespace Sys2Proof.Machine

/-! ## The shaft -/

/-- SHAFT_STALL with the index of the cycle in progress (R63). -/
def Blocks.stall (b : Blocks) : Blocks := b.report [.shaftStall (b.sc.cycle.map (·.index))]

/-- The shaft state is TURNING or STOPPING, or FINDING (R46). -/
def Sc.isDriven (s : Sc) : Bool := s.turns || s.state == .finding

/-- The angle stands at its last count: the count that comes is the 1,024th without an index
(R47, R48; log 21). -/
def Sc.atLastCount (s : Sc) : Bool := s.angle == some 1023

/-- The angle grows by one (R47). -/
def Sc.count (s : Sc) : Sc := { s with angle := s.angle.map (fun a => min 1023 (a + 1)) }

/-- The angle events that the present angle gives (R47, R51). -/
def Blocks.angleEvents (b : Blocks) : Blocks :=
  match b.sc.cycle, b.sc.angle with
  | some c, some a =>
    if a = b.cf.config.entryAngle ∧ c.entryGiven = false then
      b.giveEntry c
    else if a = b.cf.config.trimAngle ∧ c.kind = .trim ∧ c.trimGiven = false then b.trimPoint c
    else b
  | _, _ => b

/-- An encoder count (R47, R48, R63). The stall timer restarts with the stall time it runs for. -/
def Blocks.encoderCount (b : Blocks) : Blocks :=
  match b.sc.state with
  | .off => b
  | .stopped => { b with sc := b.sc.count }
  | .finding => if b.sc.atLastCount then b.findFailed else { b with sc := b.sc.count }
  | .turning => if b.sc.atLastCount then b.stall else ({ b with sc := b.sc.count } : Blocks).angleEvents
  | .stopping =>
    if b.sc.atLastCount then b.stall else ({ b with sc := b.sc.count } : Blocks).angleEvents

/-- The 1,024th count in TURNING or STOPPING without an index (R47). -/
def Blocks.countOverflow (b : Blocks) : Blocks :=
  if b.sc.turns && b.sc.atLastCount then b.stall else b

/-- The 1,024th count in FINDING without an index (R48). -/
def Blocks.findExhausted (b : Blocks) : Blocks :=
  if b.sc.state == .finding && b.sc.atLastCount then b.findFailed else b

/-- The stall timer expires in a turning state (R63). -/
def Blocks.stallExpiry (b : Blocks) : Blocks :=
  if b.sc.isDriven && b.sc.stallTimer.isSome then b.stall else b

/-- An index pulse (R47, R48, R52). -/
def Blocks.indexPulse (b : Blocks) (durationNs : Nat) : Blocks :=
  match b.sc.state with
  | .off => b
  | .stopped => { b with sc.angle := some 0 }
  | .finding => ({ b with sc := b.sc.rest } : Blocks).homeSecond
  | .turning | .stopping =>
    match b.sc.plan, b.sc.cycle with
    | some plan, some c =>
      Blocks.endCycle (Config.freeOrder b.draws) durationNs plan c
        { b with sc.angle := some 0, draws := b.draws + 1 }
    | _, _ => { b with sc.angle := some 0 }

/-- A thread-feed pulse: counted in the head's open window (R121). -/
def Blocks.feedPulse (b : Blocks) (h : HeadId) : Blocks :=
  if b.configured h && (b.hu.get h).state != .off then
    b.modMonitor h (fun m =>
      { m with window := m.window.map (fun w => { w with pulses := min 65535 (w.pulses + 1) }) })
  else b

/-! ## The resolution of a stop -/

/-- A stop of a run is resolved once the frame is not busy; conditions still waiting are taken after
it (R76, R155; log 4). -/
def Blocks.resolveStop (b : Blocks) : Blocks :=
  match b.rc.stop with
  | some stop =>
    if b.runIn [.running, .stopping] && !b.fc.busy then
      (b.go (.resolve b.rc.causes stop.points)).report []
    else b
  | none => b

/-- A stop of a patch run is resolved once the frame is not busy (R143). -/
def Blocks.resolvePatchStop (b : Blocks) : Blocks :=
  match b.rc.stop, b.patchWork with
  | some _, some w =>
    if b.runIn [.patch] && !b.fc.busy then
      if w.causes.fault || w.causes.host then b.patchStopped w
      else ({ b with rc.stop := none } : Blocks).go .patchTest
    else b
  | _, _ => b

/-! ## E-STOP (R154) -/

/-- The E-STOP input changes its level: the filter of the present state times it. -/
def Blocks.estopLevel (b : Blocks) (asserted : Bool) : Blocks :=
  { b with
    pins.estop := asserted
    fl.assertTiming := !b.fl.estop && asserted
    fl.releaseTiming := b.fl.estop && !asserted }

/-- An assertion is recognised; while the part is configured it raises ESTOP. -/
def Blocks.estopRecognised (b : Blocks) : Blocks :=
  if b.fl.assertTiming then
    let b' : Blocks := { b with fl.estop := true, fl.assertTiming := false }
    if b.cf.lock then b'.report [.estop] else b'
  else b

/-- A release is recognised. -/
def Blocks.estopReleased (b : Blocks) : Blocks :=
  if b.fl.releaseTiming then { b with fl.estop := false, fl.releaseTiming := false } else b

end Sys2Proof.Machine
end

