-- ==== Sys2Proof/Machine/Events.lean ====
section
/-!
DEFINITION. The meanings of the rows that are events: of the line, of the machine's inputs, of the
part's own timers, and of work that ends. An event that cannot occur in the present state changes
nothing (log 5).
-/

namespace Sys2Proof.Machine

/-- An event that the blocks behind the Panel Link take. -/
def onBlocks (f : Blocks → Blocks) (s : State) : Host.Outcome State Fault Refusal :=
  .next { s with blk := f s.blk }

/-! ## The panel link -/

/-- POWER_ON (R167). -/
def execPowerOn (rate : LineRate) (s : State) : Host.Outcome State Fault Refusal :=
  .next (s.powerOn rate)

/-- LRX_BYTE (R169). -/
def execLrxByte (byte : Byte) (framingError : Bool) (s : State) : Host.Outcome State Fault Refusal :=
  .next (s.receive byte framingError)

/-- GAP_TIMEOUT (R170). -/
def execGapTimeout (s : State) : Host.Outcome State Fault Refusal :=
  .next s.gap

/-- LINK_BREAK (R174). -/
def execLinkBreak (s : State) : Host.Outcome State Fault Refusal :=
  .next s.linkReset

/-- LRX_RETURNED_HIGH (R174). -/
def execLrxReturnedHigh (s : State) : Host.Outcome State Fault Refusal :=
  .next { s with pl.lineLow := false }

/-- SEND_START (R173). -/
def execSendStart (s : State) : Host.Outcome State Fault Refusal :=
  .next s.sendStart

/-- TRANSMIT_COMPLETE (R173). -/
def execTransmitComplete (s : State) : Host.Outcome State Fault Refusal :=
  .next s.sent

/-! ## The E-STOP input -/

/-- ESTOP_INPUT_CHANGE (R154). -/
def execEstopInputChange (asserted : Bool) (s : State) : Host.Outcome State Fault Refusal :=
  onBlocks (·.estopLevel asserted) s

/-- ESTOP_RECOGNISED (R154). -/
def execEstopRecognised (s : State) : Host.Outcome State Fault Refusal :=
  onBlocks Blocks.estopRecognised s

/-- ESTOP_RELEASE_RECOGNISED (R154). -/
def execEstopReleaseRecognised (s : State) : Host.Outcome State Fault Refusal :=
  onBlocks Blocks.estopReleased s

/-! ## The shaft -/

/-- ENCODER_COUNT (R47). -/
def execEncoderCount (s : State) : Host.Outcome State Fault Refusal :=
  onBlocks Blocks.encoderCount s

/-- ANGLE_COUNT_OVERFLOW (R47). -/
def execAngleCountOverflow (s : State) : Host.Outcome State Fault Refusal :=
  onBlocks Blocks.countOverflow s

/-- FIND_COUNTS_EXHAUSTED (R48). -/
def execFindCountsExhausted (s : State) : Host.Outcome State Fault Refusal :=
  onBlocks Blocks.findExhausted s

/-- STALL_TIMER_EXPIRY (R63). -/
def execStallTimerExpiry (s : State) : Host.Outcome State Fault Refusal :=
  onBlocks Blocks.stallExpiry s

/-- INDEX_PULSE (R52). -/
def execIndexPulse (durationNs : Nat) (s : State) : Host.Outcome State Fault Refusal :=
  onBlocks (·.indexPulse durationNs) s

/-- THREAD_FEED_PULSE (R121). -/
def execThreadFeedPulse (head : HeadId) (s : State) : Host.Outcome State Fault Refusal :=
  onBlocks (·.feedPulse head) s

/-- STOP_RESOLUTION (R76). -/
def execStopResolution (s : State) : Host.Outcome State Fault Refusal :=
  onBlocks Blocks.resolveStop s

/-- PATCH_STOP_RESOLUTION (R143). -/
def execPatchStopResolution (s : State) : Host.Outcome State Fault Refusal :=
  onBlocks Blocks.resolvePatchStop s

/-! ## The needle selectors -/

/-- SELECTOR_PULSE (R100). -/
def execSelectorPulse (head : HeadId) (s : State) : Host.Outcome State Fault Refusal :=
  onBlocks (·.selectorPulse head) s

/-- SELECTOR_INDEX (R101). -/
def execSelectorIndex (head : HeadId) (asserted : Bool) (s : State) : Host.Outcome State Fault Refusal :=
  onBlocks (·.selectorIndex head asserted) s

/-- SELECTOR_TIMEOUT (R102). -/
def execSelectorTimeout (head : HeadId) (s : State) : Host.Outcome State Fault Refusal :=
  onBlocks (·.selectorExpiry head) s

/-! ## The frame -/

/-- HOME_SWITCH (R41). -/
def execHomeSwitch (ax : Axis) (asserted : Bool) (s : State) : Host.Outcome State Fault Refusal :=
  onBlocks (·.homeSwitch ax asserted) s

/-- HOMING_DISTANCE_EXHAUSTED (R41). -/
def execHomingDistanceExhausted (ax : Axis) (s : State) : Host.Outcome State Fault Refusal :=
  onBlocks (·.homingExhausted ax) s

/-- DRIVE_FAULT_ASSERT (R42). -/
def execDriveFaultAssert (ax : Axis) (s : State) : Host.Outcome State Fault Refusal :=
  onBlocks (·.driveFaultOn ax) s

/-- DRIVE_FAULT_RELEASE (R42). -/
def execDriveFaultRelease (ax : Axis) (s : State) : Host.Outcome State Fault Refusal :=
  onBlocks (·.driveFaultOff ax) s

/-- FRAME_MOVE_COMPLETE (R33). -/
def execFrameMoveComplete (s : State) : Host.Outcome State Fault Refusal :=
  onBlocks Blocks.moveComplete s

/-- FRAME_MOVE_STOPPED (R33). -/
def execFrameMoveStopped (s : State) : Host.Outcome State Fault Refusal :=
  onBlocks Blocks.moveStopped s

/-- AXIS_LAST_STEP_ISSUED (R33). -/
def execAxisLastStepIssued (ax : Axis) (s : State) : Host.Outcome State Fault Refusal :=
  onBlocks (·.lastStep ax) s

end Sys2Proof.Machine
end

