-- ==== Sys2Proof/Machine/HostCommands.lean ====
section
/-!
DEFINITION. The meanings of the rows that are command frames of the host: each is the arrival of a
good frame of its TYPE (R171), which the decoder takes when it may (R172). What its owner answers is
the `cmd` definition of the row.
-/

namespace Sys2Proof.Machine

/-- The arrival of a good frame (R171; log 6), whatever the level of LRX (log 27). -/
def hostFrame (type tag : Byte) (payload : List Byte) (s : State) : Host.Outcome State Fault Refusal :=
  .next (arrive ⟨type, tag, payload⟩ s)

/-! ## Start-up and settings -/

/-- IDENT (R165). -/
def execIdent (tag : Byte) (payload : List Byte) (s : State) :
    Host.Outcome State Fault Refusal :=
  hostFrame 0x01#8 tag payload s

/-- CFG (R162). -/
def execCfg (tag : Byte) (payload : List Byte) (s : State) :
    Host.Outcome State Fault Refusal :=
  hostFrame 0x02#8 tag payload s

/-- SETW (R163). -/
def execSetw (tag : Byte) (payload : List Byte) (s : State) :
    Host.Outcome State Fault Refusal :=
  hostFrame 0x03#8 tag payload s

/-- SETR (R164). -/
def execSetr (tag : Byte) (payload : List Byte) (s : State) :
    Host.Outcome State Fault Refusal :=
  hostFrame 0x04#8 tag payload s

/-- RST (R166). -/
def execRst (tag : Byte) (payload : List Byte) (s : State) :
    Host.Outcome State Fault Refusal :=
  hostFrame 0x05#8 tag payload s

/-! ## Reports and status -/

/-- STAT (R181). -/
def execStat (tag : Byte) (payload : List Byte) (s : State) :
    Host.Outcome State Fault Refusal :=
  hostFrame 0x08#8 tag payload s

/-- HSTAT (R182). -/
def execHstat (tag : Byte) (payload : List Byte) (s : State) :
    Host.Outcome State Fault Refusal :=
  hostFrame 0x09#8 tag payload s

/-- MASK (R179). -/
def execMask (tag : Byte) (payload : List Byte) (s : State) :
    Host.Outcome State Fault Refusal :=
  hostFrame 0x0A#8 tag payload s

/-- EVCLR (R180). -/
def execEvclr (tag : Byte) (payload : List Byte) (s : State) :
    Host.Outcome State Fault Refusal :=
  hostFrame 0x0B#8 tag payload s

/-! ## The design store -/

/-- DOPEN (R8). -/
def execDopen (tag : Byte) (payload : List Byte) (s : State) :
    Host.Outcome State Fault Refusal :=
  hostFrame 0x10#8 tag payload s

/-- DDATA (R12). -/
def execDdata (tag : Byte) (payload : List Byte) (s : State) :
    Host.Outcome State Fault Refusal :=
  hostFrame 0x11#8 tag payload s

/-- DUNST (R18). -/
def execDunst (tag : Byte) (payload : List Byte) (s : State) :
    Host.Outcome State Fault Refusal :=
  hostFrame 0x12#8 tag payload s

/-- DABT (R19). -/
def execDabt (tag : Byte) (payload : List Byte) (s : State) :
    Host.Outcome State Fault Refusal :=
  hostFrame 0x13#8 tag payload s

/-- DREAD (R20). -/
def execDread (tag : Byte) (payload : List Byte) (s : State) :
    Host.Outcome State Fault Refusal :=
  hostFrame 0x14#8 tag payload s

/-! ## The frame -/

/-- HOOPDEF (R29). -/
def execHoopdef (tag : Byte) (payload : List Byte) (s : State) :
    Host.Outcome State Fault Refusal :=
  hostFrame 0x18#8 tag payload s

/-- HOOPSEL (R30). -/
def execHoopsel (tag : Byte) (payload : List Byte) (s : State) :
    Host.Outcome State Fault Refusal :=
  hostFrame 0x19#8 tag payload s

/-- PLACE (R31). -/
def execPlace (tag : Byte) (payload : List Byte) (s : State) :
    Host.Outcome State Fault Refusal :=
  hostFrame 0x1A#8 tag payload s

/-- MOVE (R38). -/
def execMove (tag : Byte) (payload : List Byte) (s : State) :
    Host.Outcome State Fault Refusal :=
  hostFrame 0x1B#8 tag payload s

/-! ## The run -/

/-- HOME (R86). -/
def execHome (tag : Byte) (payload : List Byte) (s : State) :
    Host.Outcome State Fault Refusal :=
  hostFrame 0x20#8 tag payload s

/-- RUN (R69). -/
def execRun (tag : Byte) (payload : List Byte) (s : State) :
    Host.Outcome State Fault Refusal :=
  hostFrame 0x21#8 tag payload s

/-- PAUSE (R74). -/
def execPause (tag : Byte) (payload : List Byte) (s : State) :
    Host.Outcome State Fault Refusal :=
  hostFrame 0x22#8 tag payload s

/-- SPEED (R80). -/
def execSpeed (tag : Byte) (payload : List Byte) (s : State) :
    Host.Outcome State Fault Refusal :=
  hostFrame 0x23#8 tag payload s

/-- BACK (R81). -/
def execBack (tag : Byte) (payload : List Byte) (s : State) :
    Host.Outcome State Fault Refusal :=
  hostFrame 0x24#8 tag payload s

/-- FWD (R82). -/
def execFwd (tag : Byte) (payload : List Byte) (s : State) :
    Host.Outcome State Fault Refusal :=
  hostFrame 0x25#8 tag payload s

/-- CLOSE (R85). -/
def execClose (tag : Byte) (payload : List Byte) (s : State) :
    Host.Outcome State Fault Refusal :=
  hostFrame 0x26#8 tag payload s

/-! ## Heads and the thread plan -/

/-- HEN (R96). -/
def execHen (tag : Byte) (payload : List Byte) (s : State) :
    Host.Outcome State Fault Refusal :=
  hostFrame 0x28#8 tag payload s

/-- HDIS (R95). -/
def execHdis (tag : Byte) (payload : List Byte) (s : State) :
    Host.Outcome State Fault Refusal :=
  hostFrame 0x29#8 tag payload s

/-- HJOIN (R94). -/
def execHjoin (tag : Byte) (payload : List Byte) (s : State) :
    Host.Outcome State Fault Refusal :=
  hostFrame 0x2A#8 tag payload s

/-- HLEAVE (R94). -/
def execHleave (tag : Byte) (payload : List Byte) (s : State) :
    Host.Outcome State Fault Refusal :=
  hostFrame 0x2B#8 tag payload s

/-- HCLR (R98). -/
def execHclr (tag : Byte) (payload : List Byte) (s : State) :
    Host.Outcome State Fault Refusal :=
  hostFrame 0x2C#8 tag payload s

/-- HRST (R97). -/
def execHrst (tag : Byte) (payload : List Byte) (s : State) :
    Host.Outcome State Fault Refusal :=
  hostFrame 0x2D#8 tag payload s

/-- HHOME (R104). -/
def execHhome (tag : Byte) (payload : List Byte) (s : State) :
    Host.Outcome State Fault Refusal :=
  hostFrame 0x2E#8 tag payload s

/-- BOB (R113). -/
def execBob (tag : Byte) (payload : List Byte) (s : State) :
    Host.Outcome State Fault Refusal :=
  hostFrame 0x2F#8 tag payload s

/-- PSET (R106). -/
def execPset (tag : Byte) (payload : List Byte) (s : State) :
    Host.Outcome State Fault Refusal :=
  hostFrame 0x30#8 tag payload s

/-- PCLR (R106). -/
def execPclr (tag : Byte) (payload : List Byte) (s : State) :
    Host.Outcome State Fault Refusal :=
  hostFrame 0x31#8 tag payload s

/-- PREAD (R105). -/
def execPread (tag : Byte) (payload : List Byte) (s : State) :
    Host.Outcome State Fault Refusal :=
  hostFrame 0x32#8 tag payload s

/-- MCLR (R128). -/
def execMclr (tag : Byte) (payload : List Byte) (s : State) :
    Host.Outcome State Fault Refusal :=
  hostFrame 0x33#8 tag payload s

/-! ## Missed ranges -/

/-- REJOIN (R138). -/
def execRejoin (tag : Byte) (payload : List Byte) (s : State) :
    Host.Outcome State Fault Refusal :=
  hostFrame 0x38#8 tag payload s

/-- RREAD (R139). -/
def execRread (tag : Byte) (payload : List Byte) (s : State) :
    Host.Outcome State Fault Refusal :=
  hostFrame 0x39#8 tag payload s

/-- RDROP (R140). -/
def execRdrop (tag : Byte) (payload : List Byte) (s : State) :
    Host.Outcome State Fault Refusal :=
  hostFrame 0x3A#8 tag payload s

/-- PATCH (R141). -/
def execPatch (tag : Byte) (payload : List Byte) (s : State) :
    Host.Outcome State Fault Refusal :=
  hostFrame 0x3B#8 tag payload s

/-! ## The fault log -/

/-- FREAD (R158). -/
def execFread (tag : Byte) (payload : List Byte) (s : State) :
    Host.Outcome State Fault Refusal :=
  hostFrame 0x40#8 tag payload s

/-- FDROP (R159). -/
def execFdrop (tag : Byte) (payload : List Byte) (s : State) :
    Host.Outcome State Fault Refusal :=
  hostFrame 0x41#8 tag payload s

/-- CREAD (R160). -/
def execCread (tag : Byte) (payload : List Byte) (s : State) :
    Host.Outcome State Fault Refusal :=
  hostFrame 0x42#8 tag payload s

/-- CREL (R160). -/
def execCrel (tag : Byte) (payload : List Byte) (s : State) :
    Host.Outcome State Fault Refusal :=
  hostFrame 0x43#8 tag payload s

/-! ## No command -/

/-- UNKNOWN_TYPE (R172): the decoder answers UNKNOWN. -/
def execUnknownType (type tag : Byte) (payload : List Byte) (s : State) :
    Host.Outcome State Fault Refusal :=
  hostFrame type tag payload s

end Sys2Proof.Machine
end

