-- ==== Sys2Proof/Machine/Dispatch.lean ====
section
/-! DEFINITION. The dispatch: one arm for each row of opcode_table.json. -/

namespace Sys2Proof.Machine

def exec (i : Instr) (s : State) : Host.Outcome State Fault Refusal :=
  match i with
  | .powerOn rate => Sys2Proof.Machine.execPowerOn rate s
  | .ident tag payload => Sys2Proof.Machine.execIdent tag payload s
  | .cfg tag payload => Sys2Proof.Machine.execCfg tag payload s
  | .setw tag payload => Sys2Proof.Machine.execSetw tag payload s
  | .setr tag payload => Sys2Proof.Machine.execSetr tag payload s
  | .rst tag payload => Sys2Proof.Machine.execRst tag payload s
  | .stat tag payload => Sys2Proof.Machine.execStat tag payload s
  | .hstat tag payload => Sys2Proof.Machine.execHstat tag payload s
  | .mask tag payload => Sys2Proof.Machine.execMask tag payload s
  | .evclr tag payload => Sys2Proof.Machine.execEvclr tag payload s
  | .dopen tag payload => Sys2Proof.Machine.execDopen tag payload s
  | .ddata tag payload => Sys2Proof.Machine.execDdata tag payload s
  | .dunst tag payload => Sys2Proof.Machine.execDunst tag payload s
  | .dabt tag payload => Sys2Proof.Machine.execDabt tag payload s
  | .dread tag payload => Sys2Proof.Machine.execDread tag payload s
  | .hoopdef tag payload => Sys2Proof.Machine.execHoopdef tag payload s
  | .hoopsel tag payload => Sys2Proof.Machine.execHoopsel tag payload s
  | .place tag payload => Sys2Proof.Machine.execPlace tag payload s
  | .move tag payload => Sys2Proof.Machine.execMove tag payload s
  | .home tag payload => Sys2Proof.Machine.execHome tag payload s
  | .run tag payload => Sys2Proof.Machine.execRun tag payload s
  | .pause tag payload => Sys2Proof.Machine.execPause tag payload s
  | .speed tag payload => Sys2Proof.Machine.execSpeed tag payload s
  | .back tag payload => Sys2Proof.Machine.execBack tag payload s
  | .fwd tag payload => Sys2Proof.Machine.execFwd tag payload s
  | .close tag payload => Sys2Proof.Machine.execClose tag payload s
  | .hen tag payload => Sys2Proof.Machine.execHen tag payload s
  | .hdis tag payload => Sys2Proof.Machine.execHdis tag payload s
  | .hjoin tag payload => Sys2Proof.Machine.execHjoin tag payload s
  | .hleave tag payload => Sys2Proof.Machine.execHleave tag payload s
  | .hclr tag payload => Sys2Proof.Machine.execHclr tag payload s
  | .hrst tag payload => Sys2Proof.Machine.execHrst tag payload s
  | .hhome tag payload => Sys2Proof.Machine.execHhome tag payload s
  | .bob tag payload => Sys2Proof.Machine.execBob tag payload s
  | .pset tag payload => Sys2Proof.Machine.execPset tag payload s
  | .pclr tag payload => Sys2Proof.Machine.execPclr tag payload s
  | .pread tag payload => Sys2Proof.Machine.execPread tag payload s
  | .mclr tag payload => Sys2Proof.Machine.execMclr tag payload s
  | .rejoin tag payload => Sys2Proof.Machine.execRejoin tag payload s
  | .rread tag payload => Sys2Proof.Machine.execRread tag payload s
  | .rdrop tag payload => Sys2Proof.Machine.execRdrop tag payload s
  | .patch tag payload => Sys2Proof.Machine.execPatch tag payload s
  | .fread tag payload => Sys2Proof.Machine.execFread tag payload s
  | .fdrop tag payload => Sys2Proof.Machine.execFdrop tag payload s
  | .cread tag payload => Sys2Proof.Machine.execCread tag payload s
  | .crel tag payload => Sys2Proof.Machine.execCrel tag payload s
  | .unknownType type tag payload => Sys2Proof.Machine.execUnknownType type tag payload s
  | .lrxByte byte framingError => Sys2Proof.Machine.execLrxByte byte framingError s
  | .gapTimeout => Sys2Proof.Machine.execGapTimeout s
  | .linkBreak => Sys2Proof.Machine.execLinkBreak s
  | .sendStart => Sys2Proof.Machine.execSendStart s
  | .transmitComplete => Sys2Proof.Machine.execTransmitComplete s
  | .estopInputChange asserted => Sys2Proof.Machine.execEstopInputChange asserted s
  | .estopRecognised => Sys2Proof.Machine.execEstopRecognised s
  | .estopReleaseRecognised => Sys2Proof.Machine.execEstopReleaseRecognised s
  | .encoderCount => Sys2Proof.Machine.execEncoderCount s
  | .angleCountOverflow => Sys2Proof.Machine.execAngleCountOverflow s
  | .findCountsExhausted => Sys2Proof.Machine.execFindCountsExhausted s
  | .stallTimerExpiry => Sys2Proof.Machine.execStallTimerExpiry s
  | .indexPulse durationNs => Sys2Proof.Machine.execIndexPulse durationNs s
  | .threadFeedPulse head => Sys2Proof.Machine.execThreadFeedPulse head s
  | .stopResolution => Sys2Proof.Machine.execStopResolution s
  | .selectorPulse head => Sys2Proof.Machine.execSelectorPulse head s
  | .selectorIndex head asserted => Sys2Proof.Machine.execSelectorIndex head asserted s
  | .selectorTimeout head => Sys2Proof.Machine.execSelectorTimeout head s
  | .homeSwitch ax asserted => Sys2Proof.Machine.execHomeSwitch ax asserted s
  | .homingDistanceExhausted ax => Sys2Proof.Machine.execHomingDistanceExhausted ax s
  | .driveFaultAssert ax => Sys2Proof.Machine.execDriveFaultAssert ax s
  | .driveFaultRelease ax => Sys2Proof.Machine.execDriveFaultRelease ax s
  | .frameMoveComplete => Sys2Proof.Machine.execFrameMoveComplete s
  | .frameMoveStopped => Sys2Proof.Machine.execFrameMoveStopped s
  | .patchStopResolution => Sys2Proof.Machine.execPatchStopResolution s
  | .lrxReturnedHigh => Sys2Proof.Machine.execLrxReturnedHigh s
  | .axisLastStepIssued ax => Sys2Proof.Machine.execAxisLastStepIssued ax s

end Sys2Proof.Machine
end

