-- ==== Sys2Proof/Machine/Outputs.lean ====
section
/-!
DEFINITION. The output lines of the part that are computed from its state (00 "Physical lines"): the
drive demand, the step and direction outputs of each axis, and each selector's drive. READY is
`Pl.ready`; a head's trimmer, foot and latch outputs are fields of its record.
-/

namespace Sys2Proof.Machine

/-- The drive demand output (R46): disabled in OFF, holding the shaft at needle up in STOPPED, and
driven at the demanded speed, in spm, in the turning states. -/
inductive DriveDemand where
  | disabled
  | hold
  | turn (speed : Nat)
  deriving DecidableEq, Repr

/-- What the drive demand output asks for (R46). -/
def Sc.driveDemand (s : Sc) : DriveDemand :=
  match s.state with
  | .off => .disabled
  | .stopped => .hold
  | .finding | .turning | .stopping => .turn s.demanded

/-- The steps an axis is issuing (R33, R40): the direction, those still to come from the last whole unit
reached, and the step rate in Hz. -/
structure Steps where
  positive : Bool
  count : Nat
  rate : Nat
  deriving DecidableEq, Repr

/-- The steps from one place to another: |target - position| times the steps per unit, toward the
target, at the maximum step rate of the axis (R33). -/
def AxisConfig.stepsFrom (c : AxisConfig) (p t : Int) : Steps :=
  ⟨decide (p < t), (t - p).natAbs * c.stepsPerUnit, 1000 * c.maxRate⟩

/-- The steps of a homing: toward the travel minimum, at one quarter of the maximum step rate, until the
homing distance is used up (R40, R41). -/
def AxisConfig.stepsHoming (c : AxisConfig) (units : Nat) : Steps :=
  ⟨false, (c.homingDistance - units) * c.stepsPerUnit, 250 * c.maxRate⟩

/-- What the step and direction outputs of an axis are driven with, if they are: under a stop, the steps
that finish the unit in progress (R33). -/
def Blocks.steps (b : Blocks) (ax : Axis) : Option Steps :=
  let r := b.fc.axis ax
  match r.state with
  | .moving =>
    match r.pos, (if b.fc.stopAsked then r.stopShort.pos else r.target) with
    | some p, some t => some ((b.axisConfig ax).stepsFrom p t)
    | _, _ => none
  | .homing => some ((b.axisConfig ax).stepsHoming r.homingUnits)
  | .unhomed | .ready | .fault => none

/-- A selector drive output and its direction: driven in MOVING toward the target and in HOMING toward
lower needles, off in every other state (R99, R100, R101); true is toward higher needles. -/
def Selector.drive : Selector → Option Bool
  | .moving target start _ => some (decide (start < target))
  | .homing => some false
  | .unknown | .atNeedle _ | .jammed => none

end Sys2Proof.Machine
end

