-- ==== Sys2Proof/Safety.lean ====
section
/-!
DEFINITION. What every step keeps, as predicates over the state: the laws of the link (R171, R172),
of the store (R1, R5), of the log (R157), of the report set (R176) and of the E-STOP filters (R154);
and the words in which statements about one command are made.
-/

namespace Sys2Proof.Machine

/-! ## Words of statements -/

/-- The decoder takes a frame that arrives now, at once (R172). -/
abbrev State.linkFree (s : State) : Prop :=
  s.pl.slots = [] ∧ s.pl.replies.length < 4 ∧ s.pl.rstTaken = false

/-- The state after a command's reply is queued and the blocks have become `b` (R172). -/
def State.replied (s : State) (type tag : Byte) (payload : List Byte) (b : Blocks) : State :=
  { s with
    blk := b
    pl.replies := s.pl.replies ++ [⟨⟨type ||| 0x80#8, tag, payload⟩, .reply⟩] }

/-- The byte that carries a head or hoop number (R185). -/
def numByte (h : Id8) : Byte := BitVec.ofNat 8 h.num

/-- The record a halt leaves of an axis: FAULT stays, any other is UNHOMED (R43). -/
def haltedAxis (r : AxisRec) : AxisRec :=
  if r.state = .fault then r else ⟨.unhomed, none, none, 0⟩

/-! ## The link -/

/-- The receiver holds no more of a frame than the frame has (R169). -/
def Receiver.wf : Receiver → Bool
  | .hunt => true
  | .header [] => true
  | .header [len] => decide (len.toNat ≤ 248)
  | .header [len, _] => decide (len.toNat ≤ 248)
  | .header _ => false
  | .payload len _ _ got => decide (len.toNat ≤ 248) && decide (got.length < len.toNat)
  | .crc len _ _ got _ => decide (len.toNat ≤ 248) && got.length == len.toNat

/-- The part is not making itself ready, four slots, READY high while one is free, four places of the
reply queue, and no frame held that the decoder may take (R167, R171, R172). -/
def Pl.lawful (p : Pl) : Prop :=
  p.makingReady = false ∧ p.slots.length ≤ 4 ∧ p.ready = decide (p.slots.length < 4)
    ∧ p.replies.length ≤ 4
    ∧ (p.slots ≠ [] → p.replies.length = 4 ∨ p.rstTaken = true) ∧ p.rx.wf = true

/-! ## The store -/

/-- T ≤ S ≤ L, no more records than the ring holds, and an empty store while the channel is CLOSED
(R1, R5, R6). -/
def Ds.lawful (d : Ds) : Prop :=
  d.tail ≤ d.sew ∧ d.sew ≤ d.load ∧ d.records.length ≤ Config.storeCapacity
    ∧ (d.channel = .closed → d.tail = 0 ∧ d.sew = 0 ∧ d.records = [])

/-! ## The log -/

/-- `n` sequence numbers from a first one, with the wrap (R157). -/
def seqFrom : Nat → BitVec 32 → List (BitVec 32)
  | 0, _ => []
  | n + 1, q => q :: seqFrom n (q + 1)

/-- At most 32 entries, with consecutive sequence numbers up to the counter (R157). -/
def Fl.lawful (f : Fl) : Prop :=
  f.log.length ≤ 32
    ∧ f.log.map (·.seq) = seqFrom f.log.length (f.nextSeq - BitVec.ofNat 32 f.log.length)

/-! ## The report set -/

/-- No masked kind is pending, and HEAD is never raised (R176). -/
def Ru.lawful (r : Ru) : Prop :=
  r.pend &&& r.kindMask = 0#6 ∧ r.pend &&& ReportKind.head.bit = 0#6

/-! ## The E-STOP filters -/

/-- A filter times only what its state waits for, while the input stands so (R154). -/
def Blocks.filtersLawful (b : Blocks) : Prop :=
  (b.fl.assertTiming = true → b.fl.estop = false ∧ b.pins.estop = true)
    ∧ (b.fl.releaseTiming = true → b.fl.estop = true ∧ b.pins.estop = false)

end Sys2Proof.Machine
end

