-- ==== Sys2Proof/Certificates/Slice0/Obligations.lean ====
section
/-!
DEFINITION. The statements for the provers. A statement about a command frame speaks of a link that is
free (`State.linkFree`: no frame held, room in the reply queue, no RST waiting), so that the frame is
taken at once; what the link does otherwise is stated by itself.
-/

open Sys2Proof Sys2Proof.Machine

namespace Sys2Proof.Claims

/-! ## Words -/

/-- The state after the reply and the effects of an answer. -/
def answered (s : State) (type tag : Byte) (a : Answer) : State := s.replied type tag a.2 a.1

/-- A refusal that changes nothing and carries its code alone (R183). -/
def refused (b : Blocks) (code : Byte) : Answer := (b, [code])

/-- The tests every command naming a head begins with: UNCONFIGURED, VALUE, NO_HEAD (R94). -/
def headNamed (b : Blocks) (n : Byte) (taken : HeadId → Answer) : Answer :=
  if b.cf.lock = false then refused b 0x05#8
  else if n.toNat < 1 ∨ 8 < n.toNat then refused b 0x03#8
  else if b.cf.config.headCount < n.toNat then refused b 0x08#8
  else taken (Id8.ofNum n.toNat)

/-- The same with HEAD_OFF after them (R94, R96). -/
def headNamedOn (b : Blocks) (n : Byte) (taken : HeadId → Answer) : Answer :=
  headNamed b n (fun h => if (b.hu.get h).state = .off then refused b 0x09#8 else taken h)

/-- The run state is one of some. -/
abbrev runIsOf (b : Blocks) (l : List RunState) : Prop := b.rc.runState ∈ l

/-- Replace one head's record. -/
def withHead (b : Blocks) (h : HeadId) (u : Head) : Blocks := { b with hu := b.hu.set h u }

/-- Replace one head's monitor channel. -/
def withMonitor (b : Blocks) (h : HeadId) (m : Monitor) : Blocks := { b with tm := b.tm.set h m }

/-- The reply OK of a command that carries nothing else, added to the queue. -/
def okReply (s : State) (type tag : Byte) : List Outbound :=
  s.pl.replies ++ [⟨⟨type ||| 0x80#8, tag, [0x00#8]⟩, .reply⟩]

/-- Both axes READY. -/
abbrev axesReady (b : Blocks) : Prop := b.fc.x.state = .ready ∧ b.fc.y.state = .ready

/-- The frame stands off a position on at least one axis. -/
abbrev standsOff (b : Blocks) (p : Pos) : Prop := b.fc.x.pos ≠ some p.x ∨ b.fc.y.pos ≠ some p.y

/-- An axis sent to a coordinate: MOVING unless it stands there (R33). -/
def sentTo (r : AxisRec) (t : Int) : AxisRec :=
  if r.pos = some t then r else { r with state := .moving, target := some t }

/-- The frame sent to a position for an owner, off which it stands. -/
def frameSent (f : Fc) (owner : MoveOwner) (p : Pos) : Fc :=
  { f with x := sentTo f.x p.x, y := sentTo f.y p.y, move := some ⟨owner, false⟩ }

/-- The coordinate shown of an axis: in READY and MOVING (R156, R181). -/
def axisAt (r : AxisRec) : Option Int :=
  if r.state = .ready ∨ r.state = .moving then r.pos else none

/-- A number in one byte. -/
def byteOf (n : Nat) : Byte := BitVec.ofNat 8 n

/-- A start request at S would be answered STARTED (R49): the shaft at rest, no selector moving, the
frame ready and not busy, and a cycle record ahead of the next stop point. -/
def mayStart (b : Blocks) : Prop :=
  b.sc.state = .stopped ∧ b.selectorMoving = false ∧ axesReady b ∧ b.fc.busy = false
    ∧ b.planK .run b.ds.sew ≠ 0

/-- The run has entered RUNNING, the shaft turning through the cycle of the record at S (R72, R50). -/
def runsOn (b t : Blocks) : Prop :=
  t.rc.runState = .running ∧ t.rc.resume = none ∧ t.sc.state = .turning ∧ t.sc.plan = some .run
    ∧ t.sc.cycle.map (·.index) = some b.ds.sew ∧ t.ds = b.ds

/-- The base state a run state at rest is kept as (R91). -/
def baseOf (b : Blocks) : BaseState :=
  match b.rc.runState with
  | .idle => .idle
  | .ended => .ended
  | .halted => .halted
  | _ => .paused b.rc.pauseCause

/-- The run state and pause cause are replaced, and a change raises STATE (R67). -/
def inState (b : Blocks) (rs : RunState) (c : Option PauseCause) : Blocks :=
  if b.rc.runState = rs ∧ b.rc.pauseCause = c then b
  else { b with rc.runState := rs, rc.pauseCause := c
                ru.pend := b.ru.pend ||| (0b000010#6 &&& ~~~b.ru.kindMask) }

end Sys2Proof.Claims

open Sys2Proof.Claims

/-! ## The machine as a whole -/

/-- A step with a command waiting is the meaning of the command at the front, on the rest.
The queue of waiting commands is the model's own (log 29). -/
def Obligations.StepTakesTheFrontCommand : Prop :=
  ∀ (c : Instr) (rest : List Instr) (s : State), s.pending = c :: rest →
    step s = exec c { s with pending := rest }

/-- The model's choice (log 3): a step with nothing waiting moves only axes that are stepping, each by
itself: an axis that is not stepping stays as it is beside one that is, and under a stop asked for
neither moves. A MOVING axis comes not past its target nor onto it. -/
def Obligations.EmptyQueueOnlyMovesAxes : Prop :=
  ∀ s : State, s.pending = [] → ∃ t : State, step s = .next t
    ∧ t.pl = s.pl ∧ t.pending = []
    ∧ { t.blk with fc := s.blk.fc, draws := s.blk.draws } = s.blk
    ∧ { t.blk.fc with x := s.blk.fc.x, y := s.blk.fc.y } = s.blk.fc
    ∧ (s.blk.fc.x.steps = false → s.blk.fc.y.steps = false → t = s)
    ∧ (s.blk.fc.stopAsked = true → t = s)
    ∧ ∀ ax : Axis,
        ((s.blk.fc.axis ax).steps = false → t.blk.fc.axis ax = s.blk.fc.axis ax)
        ∧ { (t.blk.fc.axis ax) with
              pos := (s.blk.fc.axis ax).pos
              homingUnits := (s.blk.fc.axis ax).homingUnits } = s.blk.fc.axis ax
        ∧ ((s.blk.fc.axis ax).state ≠ .moving →
            (t.blk.fc.axis ax).pos = (s.blk.fc.axis ax).pos)
        ∧ ((s.blk.fc.axis ax).state ≠ .homing →
            (t.blk.fc.axis ax).homingUnits = (s.blk.fc.axis ax).homingUnits)
        ∧ ∀ p q : Int, (s.blk.fc.axis ax).state = .moving → (s.blk.fc.axis ax).pos = some p →
            (s.blk.fc.axis ax).target = some q →
            ∃ r : Int, (t.blk.fc.axis ax).pos = some r ∧ min p q ≤ r ∧ r ≤ max p q
              ∧ (p ≠ q → r ≠ q)

/-- What reset leaves, of the values the rules give. -/
def Obligations.ResetLeavesThePowerOnValues : Prop :=
  State.reset.blk.rc.runState = .unconfigured ∧ State.reset.blk.rc.runExists = false
    ∧ State.reset.blk.cf.lock = false
    ∧ State.reset.blk.ds.tail = 0 ∧ State.reset.blk.ds.sew = 0 ∧ State.reset.blk.ds.load = 0
    ∧ State.reset.blk.ds.free = 16384 ∧ State.reset.blk.ds.channel = .closed
    ∧ State.reset.blk.fc.x.state = .unhomed ∧ State.reset.blk.fc.y.state = .unhomed
    ∧ State.reset.blk.fc.active = none ∧ State.reset.blk.fc.offPosition = false
    ∧ State.reset.blk.sc.state = .off ∧ State.reset.blk.sc.cycleCount = 0#32
    ∧ State.reset.blk.tp = [] ∧ State.reset.blk.rt = Eight.const []
    ∧ State.reset.blk.fl.log = [] ∧ State.reset.blk.fl.nextSeq = 1#32
    ∧ State.reset.blk.fl.overflow = false ∧ State.reset.blk.fl.capture = none
    ∧ State.reset.blk.fl.estop = false
    ∧ State.reset.blk.ru.pend = 0b000010#6 ∧ State.reset.blk.ru.kindMask = 0#6
    ∧ State.reset.blk.ru.headMask = 0#8 ∧ State.reset.blk.ru.eventMask = 0#4
    ∧ State.reset.pl.rx = .hunt ∧ State.reset.pl.slots = [] ∧ State.reset.pl.replies = []
    ∧ State.reset.pl.tx = none ∧ State.reset.pl.errs = ⟨false, false, false, false, false⟩
    ∧ State.reset.pl.ready = true ∧ State.reset.pending = []

/-- Every law a step keeps holds after reset. -/
def Obligations.ResetKeepsEveryLaw : Prop :=
  State.reset.pl.lawful ∧ State.reset.blk.ds.lawful ∧ State.reset.blk.fl.lawful
    ∧ State.reset.blk.ru.lawful ∧ State.reset.blk.filtersLawful

/-- The link keeps its law: the part is ready between steps, it has four slots and four places, READY is
high while a slot is free and low while none is, and no frame is left waiting that may be taken. -/
def Obligations.EveryStepKeepsTheLinkLaw : Prop :=
  ∀ s t : State, s.pl.lawful → step s = .next t → t.pl.lawful

/-- T ≤ S ≤ L, within the ring, and an empty store while the channel is CLOSED. -/
def Obligations.EveryStepKeepsTheStoreLaw : Prop :=
  ∀ s t : State, s.blk.ds.lawful → step s = .next t → t.blk.ds.lawful

/-- The log holds at most 32 entries with consecutive sequence numbers; no masked kind is pending; a
filter of E-STOP times only what its state waits for. -/
def Obligations.EveryStepKeepsTheLogReportAndFilterLaws : Prop :=
  (∀ s t : State, s.blk.fl.lawful → step s = .next t → t.blk.fl.lawful)
  ∧ (∀ s t : State, s.blk.ru.lawful → step s = .next t → t.blk.ru.lawful)
  ∧ (∀ s t : State, s.blk.filtersLawful → step s = .next t → t.blk.filtersLawful)

/-- A power-on from any state: every block takes its power-on values, the line rate is that of the
straps, and the inputs keep their levels; an asserted E-STOP input is timed at once. READY is low while
the part makes itself ready, and high once it is. That the inputs keep their levels (log 2) and that a
break recognised before is forgotten (log 27) are the model's choices. -/
def Obligations.PowerOnReturnsEveryBlock : Prop :=
  ∀ (rate : LineRate) (s : State),
    exec (.powerOn rate) s = .next
      { s with
        pl := ⟨rate, .hunt, false, [], [], none, ⟨false, false, false, false, false⟩, false, false⟩
        blk := { Blocks.reset with
          pins := s.blk.pins, draws := s.blk.draws
          fl := { Blocks.reset.fl with assertTiming := s.blk.pins.estop } } }
    ∧ exec (.powerOn rate) s = .next (s.powerUp rate).becomeReady
    ∧ (s.powerUp rate).pl.ready = false ∧ (s.powerUp rate).becomeReady.pl.ready = true

/-! ## The link -/

namespace Sys2Proof.Claims

/-- Bytes without framing errors, taken one after another. -/
def bytesIn (l : List Byte) (s : State) : Host.Outcome State Fault Refusal :=
  match l with
  | [] => .next s
  | b :: rest =>
    match exec (.lrxByte b false) s with
    | .next t => bytesIn rest t
    | .fault r => .fault r
    | .refused r => .refused r

/-- A LINK_ERROR frame joins a queue that has a place (R172). -/
def queued (l : List Outbound) (kind tag : Byte) : List Outbound :=
  if l.length < 4 then l ++ [⟨⟨0xEF#8, tag, [kind]⟩, .linkError⟩] else l

end Sys2Proof.Claims

/-- The bytes of a command's frame, start byte to CRC, taken in HUNT, do what the command's row
does. That a command's row is the arrival of its
frame is log 6. -/
def Obligations.BytesOfACommandDoItsRow : Prop :=
  ∀ (i : Instr) (f : Frame) (s : State), i.WellFormed = true → frameOf i = some f →
    s.pl.rx = .hunt → s.pl.lineLow = false → bytesIn (frameWire f) s = exec i s

/-- The frame of a well-formed command names that command; and words of the table of TYPE values, with
the commands they name. -/
def Obligations.FramesNameTheirCommands : Prop :=
  (∀ (i : Instr) (f : Frame), i.WellFormed = true → frameOf i = some f → commandOf f = i)
  ∧ (commandOf ⟨0x01#8, 0x07#8, []⟩ = .ident 0x07#8 []
    ∧ commandOf ⟨0x11#8, 0x07#8, [1#8]⟩ = .ddata 0x07#8 [1#8]
    ∧ commandOf ⟨0x1B#8, 0x07#8, []⟩ = .move 0x07#8 []
    ∧ commandOf ⟨0x21#8, 0x07#8, []⟩ = .run 0x07#8 []
    ∧ commandOf ⟨0x33#8, 0x07#8, [2#8]⟩ = .mclr 0x07#8 [2#8]
    ∧ commandOf ⟨0x3B#8, 0x07#8, []⟩ = .patch 0x07#8 []
    ∧ commandOf ⟨0x43#8, 0x07#8, []⟩ = .crel 0x07#8 []
    ∧ commandOf ⟨0x0C#8, 0x07#8, []⟩ = .unknownType 0x0C#8 0x07#8 []
    ∧ commandOf ⟨0x88#8, 0x07#8, []⟩ = .unknownType 0x88#8 0x07#8 [])

/-- The receiver's table: what each byte without a framing error does before the last CRC byte. -/
def Obligations.ReceiverTakesBytesByItsState : Prop :=
  ∀ (s : State) (b : Byte), s.pl.lineLow = false →
    (s.pl.rx = .hunt → exec (.lrxByte b false) s =
      .next (if b = 0xA5#8 then { s with pl.rx := .header [] } else s))
    ∧ (s.pl.rx = .header [] → b.toNat ≤ 248 →
        exec (.lrxByte b false) s = .next { s with pl.rx := .header [b] })
    ∧ (∀ len, s.pl.rx = .header [len] →
        exec (.lrxByte b false) s = .next { s with pl.rx := .header [len, b] })
    ∧ (∀ type, s.pl.rx = .header [0#8, type] →
        exec (.lrxByte b false) s = .next { s with pl.rx := .crc 0#8 type b [] none })
    ∧ (∀ len type, s.pl.rx = .header [len, type] → len ≠ 0#8 →
        exec (.lrxByte b false) s = .next { s with pl.rx := .payload len type b [] })
    ∧ (∀ len type tag got, s.pl.rx = .payload len type tag got → got.length + 1 < len.toNat →
        exec (.lrxByte b false) s = .next { s with pl.rx := .payload len type tag (got ++ [b]) })
    ∧ (∀ len type tag got, s.pl.rx = .payload len type tag got → got.length + 1 = len.toNat →
        exec (.lrxByte b false) s = .next { s with pl.rx := .crc len type tag (got ++ [b]) none })
    ∧ (∀ len type tag got, s.pl.rx = .crc len type tag got none →
        exec (.lrxByte b false) s = .next { s with pl.rx := .crc len type tag got (some b) })

/-- The four receive errors: the partial frame is dropped, the flag set, and a LINK_ERROR frame queued
where there is a place, with the TAG where it was received. -/
def Obligations.ReceiveErrorsAreFlaggedAndQueued : Prop :=
  ∀ (s : State) (b : Byte), s.pl.lineLow = false →
    (s.pl.rx = .header [] → 248 < b.toNat → exec (.lrxByte b false) s = .next
      { s with pl.rx := .hunt, pl.errs.length := true
               pl.replies := queued s.pl.replies 3#8 0#8 })
    ∧ (∀ got, s.pl.rx = .header got →
        exec (.lrxByte b true) s = .next
          { s with pl.rx := .hunt, pl.errs.framing := true
                   pl.replies := queued s.pl.replies 2#8 0#8 }
        ∧ exec .gapTimeout s = .next
          { s with pl.rx := .hunt, pl.errs.gap := true
                   pl.replies := queued s.pl.replies 1#8 0#8 })
    ∧ (∀ len type tag got, s.pl.rx = .payload len type tag got →
        exec (.lrxByte b true) s = .next
          { s with pl.rx := .hunt, pl.errs.framing := true
                   pl.replies := queued s.pl.replies 2#8 tag }
        ∧ exec .gapTimeout s = .next
          { s with pl.rx := .hunt, pl.errs.gap := true
                   pl.replies := queued s.pl.replies 1#8 tag })
    ∧ (∀ len type tag got low, s.pl.rx = .crc len type tag got low →
        exec (.lrxByte b true) s = .next
          { s with pl.rx := .hunt, pl.errs.framing := true
                   pl.replies := queued s.pl.replies 2#8 tag }
        ∧ exec .gapTimeout s = .next
          { s with pl.rx := .hunt, pl.errs.gap := true
                   pl.replies := queued s.pl.replies 1#8 tag })
    ∧ (∀ len type tag got low, s.pl.rx = .crc len type tag got (some low) →
        crc16 (len :: type :: tag :: got) ≠ b ++ low →
        exec (.lrxByte b false) s = .next
          { s with pl.rx := .hunt, pl.errs.crc := true
                   pl.replies := queued s.pl.replies 4#8 tag })
    ∧ (s.pl.rx = .hunt → exec (.lrxByte b true) s = .next s ∧ exec .gapTimeout s = .next s)

/-- A good frame that may not be taken yet is held; one that finds all four slots full is lost to
OVERRUN. READY is high while a slot is free, and falls with the frame that takes the last. -/
def Obligations.FramesAreHeldOrOverrun : Prop :=
  (∀ s : State, s.pl.makingReady = false → (s.pl.ready = true ↔ s.pl.slots.length < 4))
  ∧ (∀ (i : Instr) (f : Frame) (s : State), frameOf i = some f → s.pl.slots.length = 3 →
    (s.pl.replies.length = 4 ∨ s.pl.rstTaken = true) →
    ∃ t : State, exec i s = .next t ∧ t.pl.slots.length = 4 ∧ t.pl.ready = false)
  ∧ ∀ (i : Instr) (f : Frame) (s : State), frameOf i = some f →
    (s.pl.slots.length < 4 → (s.pl.replies.length = 4 ∨ s.pl.rstTaken = true) →
      exec i s = .next { s with pl.slots := s.pl.slots ++ [f] })
    ∧ (s.pl.slots.length = 4 →
      exec i s = .next { s with pl.errs.overrun := true
                                pl.replies := queued s.pl.replies 5#8 f.tag })

/-- A command that its owner does not take changes nothing but the reply queue: every row of a command
frame but DDATA, whose records are taken one at a time. -/
def Obligations.RefusedCommandsChangeNothing : Prop :=
  ∀ (i : Instr) (f : Frame) (s : State), frameOf i = some f → f.type ≠ 0x11#8 → s.linkFree →
    (answer s.pl.errs f s.blk).2.head? ≠ some 0x00#8 →
    exec i s = .next (answered s f.type f.tag (s.blk, (answer s.pl.errs f s.blk).2))

/-- Before configuration every command but IDENT, STAT, DREAD, CFG, FREAD, CREAD, MASK and RST is
answered UNCONFIGURED and changes nothing; a TYPE that names no command is answered UNKNOWN. -/
def Obligations.UnconfiguredAndUnknownAreAnswered : Prop :=
  (∀ (i : Instr) (f : Frame) (s : State), frameOf i = some f → f.type ∈ commandTypes →
    f.type ∉ [0x01#8, 0x08#8, 0x14#8, 0x02#8, 0x40#8, 0x42#8, 0x0A#8, 0x05#8] →
    s.linkFree → s.blk.cf.lock = false →
    ∃ rest : List Byte, exec i s = .next (answered s f.type f.tag (s.blk, 0x05#8 :: rest)))
  ∧ (∀ (type tag : Byte) (p : List Byte) (s : State), s.linkFree → typeUnknown type = true →
    exec (.unknownType type tag p) s = .next (answered s type tag (s.blk, [0x01#8])))

namespace Sys2Proof.Claims

/-- The flags a HEAD report can carry of a head: those set whose kind is unmasked (R178). -/
def carried (b : Blocks) (h : HeadId) : BitVec 4 :=
  (b.ru.heads.get h).flags &&& ~~~b.ru.eventMask

/-- A head contributes to HEAD: it is not OFF, not masked, and a flag of an unmasked kind is set that
is not marked in report (R178). -/
def contributing (b : Blocks) (h : HeadId) : Bool :=
  decide ((b.hu.get h).state ≠ .off) && !(b.ru.headMask.getLsbD (h.num - 1))
    && decide (carried b h &&& ~~~(b.ru.heads.get h).marks ≠ 0#4)

end Sys2Proof.Claims

/-- An idle transmitter sends the oldest queued frame, and a report only when none is queued; the report
of a kind leaves the pending set as its sending begins, and maskings count from then on. A HEAD report
carries each contributing head with its unmasked flags, which it marks in report; that the heads stand
in rising number is the model's choice (log 11). A frame held behind a
full reply queue is decoded when a place is freed, and READY is then high: an example with STAT, whose
reply carries the flags as they stand then. -/
def Obligations.TransmitterSendsRepliesFirst : Prop :=
  (∀ s : State,
    (∀ o rest, s.pl.tx = none → s.pl.replies = o :: rest → s.pl.slots = [] →
      exec .sendStart s = .next { s with pl.tx := some o, pl.replies := rest })
    ∧ (∀ k, s.pl.tx = none → s.pl.replies = [] → k ≠ .head →
        firstPending (s.blk.ru.pendingSet s.blk.offHeads) = some k →
        exec .sendStart s = .next
          { s with pl.tx := some ⟨⟨k.type, 0#8, s.blk.snapshot k⟩, .report k⟩
                   blk.ru.pend := s.blk.ru.pend &&& ~~~k.bit
                   blk.ru.maskedSince := 0#6 })
    ∧ (s.pl.tx = none → s.pl.replies = [] →
        firstPending (s.blk.ru.pendingSet s.blk.offHeads) = some .head →
        exec .sendStart s = .next
          { s with
            pl.tx := some ⟨⟨0xE3#8, 0#8, Id8.all.flatMap (fun h =>
              if contributing s.blk h then [byteOf h.num, (carried s.blk h).setWidth 8] else [])⟩,
              .report .head⟩
            blk.ru.pend := s.blk.ru.pend &&& ~~~0b001000#6
            blk.ru.maskedSince := 0#6
            blk.ru.heads := Eight.tabulate (fun h =>
              if contributing s.blk h then
                { s.blk.ru.heads.get h with marks := carried s.blk h }
              else s.blk.ru.heads.get h) })
    ∧ (s.pl.tx = none → s.pl.replies = [] →
        firstPending (s.blk.ru.pendingSet s.blk.offHeads) = none →
        exec .sendStart s = .next s))
  ∧ (∀ (s : State) (o : Outbound) (rest : List Outbound) (tag : Byte), s.pl.tx = none →
    s.pl.replies = o :: rest → rest.length < 4 → s.pl.rstTaken = false →
    s.pl.slots = [⟨0x08#8, tag, []⟩] →
    (s.pl.makingReady = false → ∃ t : State, exec .sendStart s = .next t ∧ t.pl.ready = true)
    ∧ exec .sendStart s = .next
      { s with pl.tx := some o
               pl.slots := []
               pl.errs := ⟨false, false, false, false, false⟩
               pl.replies := rest ++
                 [⟨⟨0x88#8, tag, 0x00#8 :: s.blk.statBytes s.pl.errs⟩, .reply⟩] })

namespace Sys2Proof.Claims

/-- The link after a controller reset; LRX keeps its level (R175). -/
def resetLink (p : Pl) (low : Bool) : Pl :=
  ⟨p.rate, .hunt, low, [], [], none, ⟨false, false, false, false, false⟩, false, false⟩

/-- The blocks after a controller reset that finds no drive-fault input to watch (R166). -/
def resetBlocks (b : Blocks) : Blocks :=
  { Blocks.reset with
    cf := ⟨b.cf.lock, b.cf.config, Settings.default b.cf.config.headCount⟩
    rc := Rc.reset (if b.cf.lock then .idle else .unconfigured)
    hu := Eight.tabulate (fun h =>
      if h.num ≤ b.cf.config.headCount then Head.fresh else Head.absent)
    fl := b.fl
    pins := b.pins
    draws := b.draws }

/-- No drive-fault input is watched and asserted (R42). -/
def drivesQuiet (b : Blocks) : Prop :=
  b.cf.lock = false ∨ (b.pins.driveFaultX = false ∧ b.pins.driveFaultY = false)

end Sys2Proof.Claims

/-- RST: a reserved byte other than zero is refused; otherwise the reply OK is queued, the decoder takes
no further frame, and nothing else changes yet. The last byte of a frame: the transmitter is idle; a
HEAD report clears the flags still marked; RST's reply makes the controller reset, which keeps the
lock, the configuration, the log, the capture and the E-STOP recognition; a drive-fault input found
asserted then puts its axis in FAULT and halts the part, with an entry. With nothing being sent the
event changes nothing (log 5). -/
def Obligations.TheLastByteOfAFrame : Prop :=
  (∀ (s : State) (f : Frame),
    (s.pl.tx = none → exec .transmitComplete s = .next s)
    ∧ (∀ p, p = .reply ∨ p = .linkError ∨ (∃ k, k ≠ .head ∧ p = .report k) →
        s.pl.tx = some ⟨f, p⟩ → exec .transmitComplete s = .next { s with pl.tx := none })
    ∧ (s.pl.tx = some ⟨f, .report .head⟩ → exec .transmitComplete s = .next
        { s with pl.tx := none
                 blk.ru.heads := Eight.tabulate (fun h =>
                   ⟨(s.blk.ru.heads.get h).flags &&& ~~~(s.blk.ru.heads.get h).marks, 0#4⟩) })
    ∧ (s.pl.tx = some ⟨f, .rstReply⟩ → s.blk.fl.waiting = [] → drivesQuiet s.blk →
        exec .transmitComplete s = .next
          { s with pl := resetLink s.pl s.pl.lineLow, blk := resetBlocks s.blk })
    ∧ (∀ x y, s.pl.tx = some ⟨f, .rstReply⟩ → s.blk.fl.waiting = [] → s.blk.cf.lock = true →
        s.blk.pins.driveFaultX = x → s.blk.pins.driveFaultY = y → x = true ∨ y = true →
        ∃ t : State, exec .transmitComplete s = .next t
          ∧ t.pl = resetLink s.pl s.pl.lineLow ∧ t.pending = s.pending
          ∧ t.blk.cf = (resetBlocks s.blk).cf ∧ t.blk.ds = Ds.empty ∧ t.blk.rt = Eight.const []
          ∧ t.blk.rc.runState = .halted ∧ t.blk.sc.state = .off
          ∧ t.blk.fc.x.state = (if x then .fault else .unhomed)
          ∧ t.blk.fc.y.state = (if y then .fault else .unhomed)
          ∧ (x = true → y = false → t.blk.fl = s.blk.fl.write
              ⟨s.blk.fl.nextSeq, .axisDrive, .halt, .idle, 0#32, some .x, none, none, none, none,
                none, none, none⟩)
          ∧ (x = false → y = true → t.blk.fl = s.blk.fl.write
              ⟨s.blk.fl.nextSeq, .axisDrive, .halt, .idle, 0#32, some .y, none, none, none, none,
                none, none, none⟩)
          ∧ (x = true → y = true → t.blk.fl.nextSeq = s.blk.fl.nextSeq + 2))
    )
  ∧ (∀ (tag n : Byte) (s : State), s.linkFree →
    exec (.rst tag [n]) s =
      if n = 0#8 then .next
        { s with pl.replies := s.pl.replies ++ [⟨⟨0x85#8, tag, [0x00#8]⟩, .rstReply⟩]
                 pl.rstTaken := true }
      else .next (answered s 0x05#8 tag (refused s.blk 0x03#8)))

/-- A break: the receiver hunts, slots and replies are emptied, so that READY is high, the frame in
sending is abandoned, and an abandoned report is pending again unless its kind is masked or has been
masked since the sending began; every block else is kept. A break after an RST has been taken makes the
controller reset with the link reset. After a break no byte is assembled until the line has returned
high. -/
def Obligations.ABreakMakesALinkReset : Prop :=
  (∀ s : State, s.pl.rstTaken = false →
    let pl' : Pl :=
      { s.pl with rx := .hunt, lineLow := true, slots := [], replies := [], tx := none }
    (∀ k f, k ≠ .head → s.pl.tx = some ⟨f, .report k⟩ → exec .linkBreak s = .next
        { s with
          pl := pl'
          blk.ru.pend := s.blk.ru.pend ||| (k.bit &&& ~~~(s.blk.ru.kindMask ||| s.blk.ru.maskedSince)) })
    ∧ (∀ f, s.pl.tx = some ⟨f, .report .head⟩ → exec .linkBreak s = .next
        { s with pl := pl'
                 blk.ru.heads := Eight.tabulate (fun h =>
                   { s.blk.ru.heads.get h with marks := 0#4 }) })
    ∧ ((∀ f k, s.pl.tx ≠ some ⟨f, .report k⟩) → exec .linkBreak s = .next { s with pl := pl' })
    ∧ (s.pl.makingReady = false → pl'.ready = true))
  ∧ (∀ s : State, s.pl.rstTaken = true → s.blk.fl.waiting = [] → drivesQuiet s.blk →
    exec .linkBreak s = .next
      { s with pl := resetLink s.pl true, blk := resetBlocks s.blk })
  ∧ (∀ (s : State) (b : Byte) (e : Bool),
    (s.pl.lineLow = true → exec (.lrxByte b e) s = .next s)
    ∧ exec .lrxReturnedHigh s = .next { s with pl.lineLow := false })

/-! ## Start-up, settings, reports -/

namespace Sys2Proof.Claims

/-- A flag in one byte. -/
def flagByte (v : Bool) : Byte := if v then 1#8 else 0#8

/-- A number that is 0 when absent, in one byte. -/
def byteOr (n : Option Nat) : Byte := byteOf (n.getD 0)

/-- The bit `v` where a value is present. -/
def markIf {α : Type} (o : Option α) (v : Nat) : Nat := if o.isSome then v else 0

/-- An optional field behind its presence byte (R185). -/
def behindPresence (width : Nat) (enc : Nat → List Byte) (o : Option Nat) : List Byte :=
  match o with
  | some n => 1#8 :: enc n
  | none => 0#8 :: List.replicate width 0#8

/-- The pending set with HEAD judged (R178, R181). -/
def pendingNow (b : Blocks) : BitVec 6 :=
  if b.ru.kindMask &&& 0b001000#6 = 0#6 ∧ Id8.all.any (contributing b) = true then
    b.ru.pend ||| 0b001000#6
  else b.ru.pend

/-- The four event flags of a head as STAT shows them (R181). -/
def shownFlags (b : Blocks) (h : HeadId) : Nat :=
  if (b.hu.get h).state = .off then 0 else (b.ru.heads.get h).flags.toNat

/-- The bytes 1 to 7 of the status snapshot (12.7). -/
def runLayout (b : Blocks) : List Byte :=
  [byteOf b.rc.runState.code, byteOf (pauseCode b.rc.pauseCause), flagByte b.fc.offPosition]
    ++ enc32 b.ds.sew

/-- The bytes 1 to 50 of the status snapshot (12.7). -/
def statLayout (b : Blocks) (e : LinkFlags) : List Byte :=
  runLayout b ++ enc32 b.ds.load ++ enc32 b.ds.tail ++ enc16 b.ds.free
    ++ [byteOf b.ds.channel.code, byteOr b.rc.slotInEffect, byteOf b.fc.x.state.code,
        byteOf b.fc.y.state.code]
    ++ encS16 ((axisAt b.fc.x).getD 0) ++ encS16 ((axisAt b.fc.y).getD 0)
    ++ [byteOf (markIf (axisAt b.fc.x) 1 + markIf (axisAt b.fc.y) 2 + markIf b.e 4),
        byteOf b.sc.state.code]
    ++ enc16 b.sc.demanded ++ enc16 b.sc.measured
    ++ Id8.all.map (fun h =>
        if h.num ≤ b.cf.config.headCount then byteOf (b.hu.get h).state.code else 0xFF#8)
    ++ [byteOf ((Id8.all.map (fun h => (b.rt.get h).length)).sum)] ++ enc24 (b.e.getD 0)
    ++ [byteOf b.fl.log.length, (pendingNow b).setWidth 8,
        byteOf (shownFlags b .n1 + 16 * shownFlags b .n2),
        byteOf (shownFlags b .n3 + 16 * shownFlags b .n4),
        byteOf (shownFlags b .n5 + 16 * shownFlags b .n6),
        byteOf (shownFlags b .n7 + 16 * shownFlags b .n8),
        byteOf (e.gap.toNat + 2 * e.framing.toNat + 4 * e.length.toNat + 8 * e.crc.toNat
          + 16 * e.overrun.toNat)]

/-- The code and the needle byte of a selector state (12.5, R185). -/
def selectorLayout : Selector → List Byte
  | .unknown => [0#8, 0#8]
  | .atNeedle n => [1#8, byteOf n]
  | .moving target _ _ => [2#8, byteOf target]
  | .homing => [3#8, 0#8]
  | .jammed => [4#8, 0#8]

/-- What HSTAT shows of a head that is not OFF (R182). -/
def headLayout (b : Blocks) (h : HeadId) : List Byte :=
  let u := b.hu.get h
  let m := b.tm.get h
  [byteOf u.state.code, flagByte u.faultFlag, flagByte u.rest] ++ selectorLayout u.selector
    ++ behindPresence 2 enc16 u.bobbin ++ [flagByte u.lowLatch, byteOf m.state.code]
    ++ (match m.state with
        | .off => [0#8, 0#8]
        | .settling => [byteOf m.k, byteOf m.bigK]
        | .armed => [byteOf m.bigK, byteOf m.bigK])
    ++ [byteOf m.low, byteOf m.high] ++ behindPresence 4 enc32 m.breakStart ++ enc16 m.soft
    ++ [flagByte m.warnLatch, byteOf (b.rt.get h).length]

/-- The 28 bytes of a fault entry (12.6). -/
def entryLayout (e : Entry) : List Byte :=
  enc32 e.seq.toNat ++ [byteOf e.kind.code, byteOf e.action.code, byteOf e.runState.code,
      byteOf (markIf e.part 1 + markIf e.head 2 + markIf e.needle 4 + markIf e.slot 8
        + markIf e.index 16 + markIf e.breakStart 32 + markIf e.frameX 64 + markIf e.frameY 128)]
    ++ enc32 e.cycleCount.toNat
    ++ [byteOr (e.part.map Part.code), byteOr (e.head.map Id8.num), byteOr e.needle, byteOr e.slot]
    ++ enc32 (e.index.getD 0) ++ enc24 (e.breakStart.getD 0) ++ [0#8]
    ++ encS16 (e.frameX.getD 0) ++ encS16 (e.frameY.getD 0)

end Sys2Proof.Claims

/-- IDENT gives the part code 740, revision 1, 16,384 records, 8 heads, 15 needles, 32 slots, 8 hoops,
8 ranges a head, 32 log entries, and the lock; STAT the snapshot of 12.7, with the link error flags,
which it clears; HSTAT by its table, an OFF head with every value clear. Nothing else changes. The codes
are those of 12.5, an entry has the 28 bytes of 12.6, and a report carries the snapshot of R177.
The bobbin field of an OFF head is placed as log 11 says. -/
def Obligations.ReadsGiveTheStateAsItStands : Prop :=
  (∀ (tag : Byte) (s : State), s.linkFree → exec (.ident tag []) s = .next (answered s 0x01#8 tag
    (s.blk, [0x00#8, 0xE4#8, 0x02#8, 0x01#8, 0x00#8, 0x40#8, 8#8, 15#8, 32#8, 8#8, 8#8, 32#8,
      if s.blk.cf.lock then 1#8 else 0#8])))
  ∧ (∀ (tag : Byte) (s : State), s.linkFree → exec (.stat tag []) s = .next
    { s with
      pl.errs := ⟨false, false, false, false, false⟩
      pl.replies := s.pl.replies ++
        [⟨⟨0x88#8, tag, 0x00#8 :: statLayout s.blk s.pl.errs⟩, .reply⟩] }
    ∧ (statLayout s.blk s.pl.errs).length = 50)
  ∧ (∀ (tag n : Byte) (s : State), s.linkFree →
    exec (.hstat tag [n]) s = .next (answered s 0x09#8 tag (headNamed s.blk n (fun h =>
      (s.blk, 0x00#8 ::
        (if (s.blk.hu.get h).state = .off then
          [0#8, 0#8, 0#8, 0#8, 0#8, 1#8, 0#8, 0#8, 0#8, 0#8, 0#8, 0#8, 0#8, 0#8, 0#8, 0#8, 0#8, 0#8,
           0#8, 0#8, 0#8, 0#8, 0#8]
         else headLayout s.blk h))))))
  ∧ (∀ e : Entry, e.bytes = entryLayout e ∧ (entryLayout e).length = 28)
  ∧ (∀ b : Blocks,
    b.snapshot .fault = behindPresence 4 enc32 (b.fl.log.getLast?.map (fun e => e.seq.toNat))
        ++ [byteOf b.fl.log.length, flagByte b.fl.overflow]
    ∧ b.snapshot .state = runLayout b ++ enc32 b.sc.cycleCount.toNat
    ∧ b.snapshot .opdone =
        [byteOf (opKindCode b.rc.opRecord.kind), b.rc.opRecord.tag,
          byteOf (opResultCode b.rc.opRecord.result),
          byteOf (b.rc.opRecord.failures.shaft.toNat + 2 * b.rc.opRecord.failures.x.toNat
            + 4 * b.rc.opRecord.failures.y.toNat),
          byteOf (headSet b.rc.opRecord.failures.heads)] ++ enc16 b.rc.opRecord.counter.toNat
    ∧ b.snapshot .color = byteOr b.rc.slotInEffect :: enc32 b.ds.sew
    ∧ b.snapshot .load = enc16 b.ds.free ++ enc32 b.ds.load)
  ∧ ([.unconfigured, .idle, .travel, .changing, .running, .stopping, .held, .paused, .reposition,
      .moving, .homing, .patch, .ended, .halted] : List RunState).map RunState.code = List.range 14
  ∧ ([none, some .host, some .mark, some .fault, some .pinLimit, some .noPlan, some .halt] :
      List (Option PauseCause)).map pauseCode = List.range 7
  ∧ ([.closed, .opened, .stalled, .finished] : List Channel).map Channel.code = List.range 4
  ∧ ([.unhomed, .homing, .ready, .moving, .fault] : List AxisState).map AxisState.code
      = List.range 5
  ∧ ([.off, .finding, .stopped, .turning, .stopping] : List ShaftState).map ShaftState.code
      = List.range 5
  ∧ ([.off, .standby, .sewing, .isolated] : List HeadState).map HeadState.code = List.range 4
  ∧ ([.off, .settling, .armed] : List MonitorState).map MonitorState.code = List.range 3
  ∧ ([.threadBreak, .tensionLoose, .bobbinEmpty, .selectorTimeout, .noPlan, .moveLate, .pinLimit,
      .homeFail, .shaftStall, .axisDrive, .estop] : List FaultKind).map FaultKind.code
      = (List.range 11).map (· + 1)
  ∧ ([.stopAll, .isolate, .none, .halt, .failed] : List Action).map Action.code
      = (List.range 5).map (· + 1)
  ∧ ([.x, .y, .shaft] : List Part).map Part.code = (List.range 3).map (· + 1)
  ∧ ([none, some .home, some .hhome, some .move, some .back, some .fwd, some .patch] :
      List (Option OpKind)).map opKindCode = List.range 7
  ∧ ([none, some .ok, some .stopped, some .failed, some .halted] :
      List (Option OpResult)).map opResultCode = List.range 5
  ∧ (∀ e : Eight Bool, headSet e = (Id8.all.map (fun h =>
      if e.get h then 2 ^ (h.num - 1) else 0)).sum)

namespace Sys2Proof.Claims

/-- The ranges of one axis's configuration (R161). -/
def axisInRange (a : AxisConfig) : Prop :=
  1 ≤ a.stepsPerUnit ∧ a.stepsPerUnit ≤ 64 ∧ 1 ≤ a.maxRate ∧ a.maxRate ≤ 200
    ∧ a.travelMin < a.travelMax ∧ a.travelMin ≤ a.homeOffset ∧ a.homeOffset ≤ a.travelMax

/-- The ranges of the configuration (R161). -/
def configInRange (c : MachineConfig) : Prop :=
  1 ≤ c.headCount ∧ c.headCount ≤ 8 ∧ 1 ≤ c.needleCount ∧ c.needleCount ≤ 15 ∧ axisInRange c.x
    ∧ axisInRange c.y ∧ 128 ≤ c.entryAngle ∧ c.entryAngle ≤ 384 ∧ c.entryAngle < c.trimAngle
    ∧ c.trimAngle ≤ 511

/-- The payload of CFG that carries a configuration (R185). -/
def configBytes (c : MachineConfig) : List Byte :=
  enc8 c.headCount ++ enc8 c.needleCount ++ enc8 c.x.stepsPerUnit ++ enc8 c.y.stepsPerUnit
    ++ enc8 c.x.maxRate ++ enc8 c.y.maxRate ++ encS16 c.x.travelMin ++ encS16 c.x.travelMax
    ++ encS16 c.y.travelMin ++ encS16 c.y.travelMax ++ encS16 c.x.homeOffset
    ++ encS16 c.y.homeOffset ++ enc16 c.entryAngle ++ enc16 c.trimAngle ++ enc16 0

/-- The coordinates of an axis are signed 16-bit units (R161). -/
def axisWide (a : AxisConfig) : Prop := -32768 ≤ a.travelMin ∧ a.travelMax ≤ 32767

/-- A speed of a settings field (R163). -/
def speedIn (lo hi v : Nat) : Prop := lo ≤ v ∧ v ≤ hi ∧ v % 50 = 0

/-- A time of a settings field (R163). -/
def timeIn (lo hi v : Nat) : Prop := lo ≤ v ∧ v ≤ hi ∧ v % 100 = 0

/-- The ranges of the settings record, against the head count, the history and the number of ISOLATED
heads (R163). -/
def settingsInRange (b : Blocks) (x : Settings) : Prop :=
  speedIn 100 1200 x.hostSpeed ∧ speedIn 100 1200 x.mediumCap ∧ speedIn 100 1200 x.longCap
    ∧ speedIn 100 1200 x.jumpCap ∧ speedIn 100 600 x.startSpeed ∧ x.settleCode ≤ 7
    ∧ 1 ≤ x.breakFloor ∧ x.breakFloor ≤ 15 ∧ 1 ≤ x.breakCount ∧ x.breakCount ≤ 15
    ∧ 1 ≤ x.looseShort ∧ x.looseShort ≤ 255 ∧ 1 ≤ x.looseMedium ∧ x.looseMedium ≤ 255
    ∧ 1 ≤ x.looseLong ∧ x.looseLong ≤ 255 ∧ 1 ≤ x.looseCount ∧ x.looseCount ≤ 15
    ∧ 1 ≤ x.warnThreshold ∧ x.warnThreshold ≤ 65535 ∧ x.bobbinLow ≤ 65535 ∧ x.retention ≤ 4096
    ∧ x.retention ≤ x.pinLimit ∧ x.pinLimit ≤ 12288 ∧ b.ds.sew - b.ds.tail ≤ x.pinLimit
    ∧ 1 ≤ x.resumeMark ∧ x.resumeMark ≤ 1024 ∧ 80 ≤ x.loadMark ∧ x.loadMark ≤ 16384
    ∧ x.isolationLimit ≤ 7 ∧ x.isolationLimit < b.cf.config.headCount
    ∧ b.countState .isolated ≤ x.isolationLimit
    ∧ timeIn 100 2000 x.selectorTimeout ∧ timeIn 100 1000 x.stallTime

end Sys2Proof.Claims

/-- CFG with a configuration in its ranges, while the lock is clear: it is kept and locked, the
settings take their defaults, every configured head is SEWING with its selector UNKNOWN, and the run
state is IDLE; with a drive-fault input asserted, that axis is in FAULT and the part is HALTED. A CFG
with the lock set is refused with LOCKED.
That LOCKED is tested before the payload's length is log 9. -/
def Obligations.CfgConfiguresOnce : Prop :=
  (∀ (tag : Byte) (c : MachineConfig) (s : State), s.linkFree → s.blk.cf.lock = false →
    configInRange c → axisWide c.x → axisWide c.y → s.blk.fl.waiting = [] →
    ∃ t : State, exec (.cfg tag (configBytes c)) s = .next t
      ∧ t.pl.replies = okReply s 0x02#8 tag
      ∧ t.blk.cf = ⟨true, c, Settings.default c.headCount⟩
      ∧ t.blk.hu = Eight.tabulate (fun h => if h.num ≤ c.headCount then Head.fresh else Head.absent)
      ∧ t.blk.tp = [] ∧ t.blk.rt = Eight.const [] ∧ t.blk.ds = s.blk.ds
      ∧ (s.blk.pins.driveFaultX = false → s.blk.pins.driveFaultY = false →
          t.blk.rc.runState = .idle ∧ t.blk.rc.pauseCause = none ∧ t.blk.fc = s.blk.fc
            ∧ t.blk.fl = s.blk.fl)
      ∧ (s.blk.pins.driveFaultX = true →
          t.blk.rc.runState = .halted ∧ t.blk.fc.x.state = .fault)
      ∧ (s.blk.pins.driveFaultY = true →
          t.blk.rc.runState = .halted ∧ t.blk.fc.y.state = .fault))
  ∧ (∀ (tag : Byte) (p : List Byte) (s : State), s.linkFree → s.blk.cf.lock = true →
      exec (.cfg tag p) s = .next (answered s 0x02#8 tag (refused s.blk 0x06#8)))

/-- SETW of a settings record in its ranges, in a run state that takes it: the record is replaced whole,
and the machine configuration stays; a held run then goes on by itself where the resume condition holds
and a start may be made. SETR shows the record as it stands; SPEED replaces the host speed alone, in
every run state after configuration. -/
def Obligations.SettingsAreReplacedAndShown : Prop :=
  (∀ (tag : Byte) (x : Settings) (s : State), s.linkFree → s.blk.cf.lock = true →
    runIsOf s.blk [.idle, .paused, .held, .ended, .halted] → settingsInRange s.blk x →
    ∃ t : State, exec (.setw tag x.bytes) s = .next t
      ∧ t.pl.replies = okReply s 0x03#8 tag
      ∧ t.blk.cf = { s.blk.cf with settings := x }
      ∧ t.blk.ds.load = s.blk.ds.load
      ∧ (¬ runIsOf s.blk [.held] →
          t.blk.ds.sew = s.blk.ds.sew ∧ t.blk.rc = s.blk.rc ∧ t.blk.hu = s.blk.hu
            ∧ t.blk.fc = s.blk.fc ∧ t.blk.sc = s.blk.sc ∧ t.blk.tm = s.blk.tm
            ∧ t.blk.rt = s.blk.rt ∧ t.blk.fl = s.blk.fl)
      ∧ (s.blk.rc.runState = .held →
          let b := ({ s.blk with cf.settings := x } : Blocks).releaseTest
          (x.resumeMark ≤ s.blk.ds.load - s.blk.ds.sew ∨ s.blk.ds.channel = .finished →
            s.blk.rc.resume = none → mayStart b → runsOn b t.blk)
          ∧ (s.blk.ds.load - s.blk.ds.sew < x.resumeMark → s.blk.ds.channel ≠ .finished →
            t.blk = b)))
  ∧ (∀ (tag : Byte) (v : Nat) (s : State), s.linkFree → v < 65536 →
    exec (.setr tag []) s = .next (answered s 0x04#8 tag
      (if s.blk.cf.lock = false then refused s.blk 0x05#8
       else (s.blk, 0x00#8 :: s.blk.cf.settings.bytes)))
    ∧ exec (.speed tag (enc16 v)) s = .next (answered s 0x23#8 tag
      (if s.blk.cf.lock = false then refused s.blk 0x05#8
       else if v < 100 ∨ 1200 < v ∨ v % 50 ≠ 0 then refused s.blk 0x03#8
       else ({ s.blk with cf.settings.hostSpeed := v }, [0x00#8]))))

/-- MASK: the masks are replaced, each kind now masked leaves the pending set and counts as masked since
the sending in progress began, and the reply carries the masks. EVCLR: the named flags of the head are
cleared, with their marks. -/
def Obligations.MaskAndEvclrByTheirTables : Prop :=
  (∀ (tag a b c d : Byte) (s : State), s.linkFree →
    exec (.mask tag [a, b, c, d]) s = .next (answered s 0x0A#8 tag
      (if 64 ≤ a.toNat ∨ 16 ≤ c.toNat ∨ d ≠ 0#8 then refused s.blk 0x03#8
       else ({ s.blk with ru := { s.blk.ru with
                kindMask := a.setWidth 6, headMask := b, eventMask := c.setWidth 4
                maskedSince := s.blk.ru.maskedSince ||| a.setWidth 6
                pend := s.blk.ru.pend &&& ~~~(a.setWidth 6) } },
             [0x00#8, a, b, c]))))
  ∧ (∀ (tag n m : Byte) (s : State), s.linkFree →
    exec (.evclr tag [n, m]) s = .next (answered s 0x0B#8 tag (headNamedOn s.blk n (fun h =>
      if 16 ≤ m.toNat then refused s.blk 0x03#8
      else
        let f := s.blk.ru.heads.get h
        let f' : HeadFlags := ⟨f.flags &&& ~~~(m.setWidth 4), f.marks &&& ~~~(m.setWidth 4)⟩
        ({ s.blk with ru.heads := s.blk.ru.heads.set h f' },
          [0x00#8, BitVec.setWidth 8 f'.flags])))))

/-! ## The design store -/

/-- DOPEN: the store is opened empty, with the declared count. DABT: the store is emptied, the slot in
effect becomes absent, every head's consecutive counts become 0, and LOAD is raised when free crosses
the load mark. -/
def Obligations.DopenAndDabtEmptyTheStore : Prop :=
  (∀ (tag : Byte) (n : Nat) (s : State), s.linkFree → n < 4294967296 →
    exec (.dopen tag (enc32 n)) s = .next (answered s 0x10#8 tag
      (if s.blk.cf.lock = false then refused s.blk 0x05#8
       else if s.blk.rc.runState ≠ .idle ∨ s.blk.ds.channel ≠ .closed then refused s.blk 0x04#8
       else if n ≠ 0 ∧ (n < 2 ∨ 16777216 < n) then refused s.blk 0x03#8
       else if s.blk.fc.active = none then refused s.blk 0x0A#8
       else ({ s.blk with
          ds := ⟨0, 0, [], ⟨0, 0⟩, none, ⟨0, 0⟩, none, none, n, .opened⟩ }, [0x00#8]))))
  ∧ (∀ (tag : Byte) (s : State), s.linkFree →
    exec (.dabt tag []) s = .next (answered s 0x13#8 tag
      (if s.blk.cf.lock = false then refused s.blk 0x05#8
       else if s.blk.rc.runState ≠ .idle then refused s.blk 0x04#8
       else ({ s.blk with
          ds := ⟨0, 0, [], ⟨0, 0⟩, none, ⟨0, 0⟩, none, none, 0, .closed⟩
          rc.slotInEffect := none
          tm := Eight.tabulate (fun h =>
            { s.blk.tm.get h with low := 0, high := 0, breakStart := none })
          ru := if s.blk.ds.free < s.blk.cf.settings.loadMark
                    ∧ s.blk.cf.settings.loadMark ≤ 16384 then
                  { s.blk.ru with
                    pend := s.blk.ru.pend ||| (0b100000#6 &&& ~~~s.blk.ru.kindMask) }
                else s.blk.ru }, [0x00#8]))))

namespace Sys2Proof.Claims

/-- The answer to a DDATA frame of which no record is taken (R9, R12). -/
def noneTaken (b : Blocks) (code : Byte) : Answer :=
  (b, [code, 0x00#8] ++ enc32 b.ds.load ++ enc16 b.ds.free)

/-- A record, as a DDATA frame carries it, passes FORMAT at an index as a kind with a displacement and
a slot (R13, R184). -/
def formed (index : Nat) (code d1 d2 : Byte) (kind : RecordKind) (dx dy : Int) (slot : Nat) : Prop :=
  (kind = .color ∧ code = 4#8 ∧ 1 ≤ d1.toNat ∧ d1.toNat ≤ 32 ∧ d2 = 0#8 ∧ dx = 0 ∧ dy = 0
    ∧ slot = d1.toNat)
  ∨ (1 ≤ index ∧ slot = 0
    ∧ ((kind = .stitch ∧ code = 1#8 ∧ dx = d1.toInt ∧ dy = d2.toInt ∧ -121 ≤ dx ∧ dx ≤ 121
          ∧ -121 ≤ dy ∧ dy ≤ 121)
      ∨ (kind = .jump ∧ code = 2#8 ∧ dx = d1.toInt ∧ dy = d2.toInt ∧ -127 ≤ dx ∧ -127 ≤ dy)
      ∨ (dx = 0 ∧ dy = 0 ∧ d1 = 0#8 ∧ d2 = 0#8
        ∧ ((kind = .trim ∧ code = 3#8) ∨ (kind = .mark ∧ code = 5#8)
          ∨ (kind = .endDesign ∧ code = 6#8)))))

/-- A record of a kind passes COUNT at L (R14). -/
def counted (d : Ds) (kind : RecordKind) : Prop :=
  (d.load = 16777215 → kind = .endDesign)
    ∧ (d.declared ≠ 0 → (kind = .endDesign ↔ d.load + 1 = d.declared))

/-- A relative position passes FIELD (R15). -/
def inField (b : Blocks) (p : Pos) : Prop :=
  ∃ f, b.activeField = some f ∧ f.xMin ≤ b.fc.origin.x + p.x ∧ b.fc.origin.x + p.x ≤ f.xMax
    ∧ f.yMin ≤ b.fc.origin.y + p.y ∧ b.fc.origin.y + p.y ≤ f.yMax

/-- The position after a record taken at L (R2). -/
def posAfter (d : Ds) (dx dy : Int) : Pos := ⟨d.loadPos.x + dx, d.loadPos.y + dy⟩

/-- The store with a record taken (R2, R12, R16, R21). -/
def withRecord (d : Ds) (kind : RecordKind) (dx dy : Int) (slot : Nat) : Ds :=
  let p := posAfter d dx dy
  let after := if kind = .color then some slot else d.loadSlot
  { d with
    records := d.records ++ [⟨kind, dx, dy, slot, p, after⟩]
    loadPos := p
    loadSlot := after
    box := match d.box with
      | none => some ⟨p.x, p.x, p.y, p.y⟩
      | some r => some ⟨min r.xMin p.x, max r.xMax p.x, min r.yMin p.y, max r.yMax p.y⟩
    channel := if kind = .endDesign then .finished else d.channel }

end Sys2Proof.Claims

/-- DDATA frames of which no record is taken. A frame refused by the tests of R9, in their order, with
the code, 0 taken, L and free. In OPEN: records already held are skipped, so a frame that ends at or
below L is taken with nothing done; a frame whose first index lies above L is refused with GAP; and a
full store answers FULL. In FINISHED: a frame wholly held is passed over with OK, and one that reaches
beyond END is answered AFTER_END. The store is unchanged by each. -/
def Obligations.FramesThatTakeNoRecord : Prop :=
  (∀ (tag : Byte) (f n : Nat) (recs : List Byte) (s : State), s.linkFree → s.blk.cf.lock = true →
    f < 16777216 → 1 ≤ n → n ≤ 80 → recs.length = 3 * n → s.blk.ds.channel = .opened →
    f + n ≤ s.blk.ds.load →
    exec (.ddata tag (enc24 f ++ enc8 n ++ recs)) s = .next (answered s 0x11#8 tag
      (s.blk, [0x00#8, 0x00#8] ++ enc32 s.blk.ds.load ++ enc16 s.blk.ds.free)))
  ∧ (∀ (tag : Byte) (f n : Nat) (recs : List Byte) (s : State), s.linkFree → s.blk.cf.lock = true →
    f < 16777216 → 1 ≤ n → n ≤ 80 → recs.length = 3 * n → s.blk.ds.channel = .opened →
    s.blk.ds.load < f →
    exec (.ddata tag (enc24 f ++ enc8 n ++ recs)) s = .next (answered s 0x11#8 tag
      (s.blk, [0x0F#8, 0x00#8] ++ enc32 s.blk.ds.load ++ enc16 s.blk.ds.free)))
  ∧ (∀ (tag : Byte) (f n : Nat) (recs : List Byte) (s : State), s.linkFree → s.blk.cf.lock = true →
    f < 16777216 → 1 ≤ n → n ≤ 80 → recs.length = 3 * n →
    let frame := enc24 f ++ enc8 n ++ recs
    (s.blk.ds.channel = .opened → f ≤ s.blk.ds.load → s.blk.ds.load < f + n → s.blk.ds.free = 0 →
      exec (.ddata tag frame) s = .next (answered s 0x11#8 tag (noneTaken s.blk 0x0E#8)))
    ∧ (s.blk.ds.channel = .finished → exec (.ddata tag frame) s = .next (answered s 0x11#8 tag
        (noneTaken s.blk (if f + n - 1 < s.blk.ds.load then 0x00#8 else 0x13#8))))
    ∧ (s.blk.ds.channel = .closed →
      exec (.ddata tag frame) s = .next (answered s 0x11#8 tag (noneTaken s.blk 0x0D#8)))
    ∧ (s.blk.ds.channel = .stalled →
      exec (.ddata tag frame) s = .next (answered s 0x11#8 tag (noneTaken s.blk 0x14#8))))
  ∧ (∀ (tag : Byte) (p : List Byte) (s : State), s.linkFree →
    let n := (p.getD 3 0#8).toNat
    (s.blk.cf.lock = false →
      exec (.ddata tag p) s = .next (answered s 0x11#8 tag (noneTaken s.blk 0x05#8)))
    ∧ (s.blk.cf.lock = true → p.length < 4 →
      exec (.ddata tag p) s = .next (answered s 0x11#8 tag (noneTaken s.blk 0x02#8)))
    ∧ (s.blk.cf.lock = true → 4 ≤ p.length → (n < 1 ∨ 80 < n) →
      exec (.ddata tag p) s = .next (answered s 0x11#8 tag (noneTaken s.blk 0x03#8)))
    ∧ (s.blk.cf.lock = true → 4 ≤ p.length → 1 ≤ n → n ≤ 80 → p.length ≠ 4 + 3 * n →
      exec (.ddata tag p) s = .next (answered s 0x11#8 tag (noneTaken s.blk 0x02#8))))

/-- Taking a record that passes its checks, of each kind, and a STITCH spelled out: it is stored at L
with the position and the slot after it, the load position, the load slot and the extents box move, L
grows by one, and END makes the channel FINISHED; records behind END are answered AFTER_END. A run that
is not HELD is not touched; a HELD run goes on by itself where its resume condition then holds and a
start may be made. -/
def Obligations.AStitchIsTaken : Prop :=
  (∀ (tag dx dy : Byte) (fld : Rect) (s : State), s.linkFree → s.blk.cf.lock = true →
    s.blk.ds.channel = .opened → ¬ runIsOf s.blk [.held] →
    1 ≤ s.blk.ds.load → s.blk.ds.load < 16777215 → s.blk.ds.records.length < 16384 →
    (s.blk.ds.declared = 0 ∨ s.blk.ds.load + 1 ≠ s.blk.ds.declared) →
    -121 ≤ dx.toInt → dx.toInt ≤ 121 → -121 ≤ dy.toInt → dy.toInt ≤ 121 →
    s.blk.activeField = some fld →
    let p : Pos := ⟨s.blk.ds.loadPos.x + dx.toInt, s.blk.ds.loadPos.y + dy.toInt⟩
    fld.xMin ≤ s.blk.fc.origin.x + p.x → s.blk.fc.origin.x + p.x ≤ fld.xMax →
    fld.yMin ≤ s.blk.fc.origin.y + p.y → s.blk.fc.origin.y + p.y ≤ fld.yMax →
    exec (.ddata tag (enc24 s.blk.ds.load ++ [1#8, 0x01#8, dx, dy])) s =
      .next (answered s 0x11#8 tag
        ({ s.blk with ds := { s.blk.ds with
            records := s.blk.ds.records ++ [⟨.stitch, dx.toInt, dy.toInt, 0, p, s.blk.ds.loadSlot⟩]
            loadPos := p
            box := match s.blk.ds.box with
              | none => some ⟨p.x, p.x, p.y, p.y⟩
              | some r => some ⟨min r.xMin p.x, max r.xMax p.x, min r.yMin p.y, max r.yMax p.y⟩ } },
          [0x00#8, 0x01#8] ++ enc32 (s.blk.ds.load + 1)
            ++ enc16 (16384 - (s.blk.ds.records.length + 1)))))
  ∧ (∀ (tag code d1 d2 : Byte) (kind : RecordKind) (dx dy : Int) (slot : Nat) (s : State),
    s.linkFree → s.blk.cf.lock = true → s.blk.ds.channel = .opened → s.blk.ds.load < 16777216 →
    s.blk.ds.records.length < 16384 → formed s.blk.ds.load code d1 d2 kind dx dy slot →
    counted s.blk.ds kind → inField s.blk (posAfter s.blk.ds dx dy) →
    let b : Blocks := { s.blk with ds := withRecord s.blk.ds kind dx dy slot }
    let fields := enc32 (s.blk.ds.load + 1) ++ enc16 (16384 - (s.blk.ds.records.length + 1))
    let frame := enc24 s.blk.ds.load ++ [1#8, code, d1, d2]
    let resumes := kind = .endDesign
      ∨ s.blk.cf.settings.resumeMark ≤ s.blk.ds.load + 1 - s.blk.ds.sew
    (¬ runIsOf s.blk [.held] ∨ ¬ resumes →
      exec (.ddata tag frame) s =
        .next (answered s 0x11#8 tag (b, [0x00#8, 0x01#8] ++ fields)))
    ∧ (s.blk.rc.runState = .held → resumes → s.blk.rc.resume = none → mayStart b →
      ∃ t : State, exec (.ddata tag frame) s = .next t ∧ runsOn b t.blk
        ∧ t.pl.replies = s.pl.replies ++
            [⟨⟨0x91#8, tag, [0x00#8, 0x01#8] ++ fields⟩, .reply⟩])
    ∧ (kind = .endDesign → ¬ runIsOf s.blk [.held] → ∀ x y z : Byte,
      exec (.ddata tag (enc24 s.blk.ds.load ++ [2#8, code, d1, d2, x, y, z])) s =
        .next (answered s 0x11#8 tag (b, [0x13#8, 0x01#8] ++ fields))))

/-- A record that fails FORMAT, COUNT or FIELD, judged in this order, is not taken and stalls the
channel; DUNST opens it again, and is refused unless it is STALLED. -/
def Obligations.AFailedCheckStallsUntilDunst : Prop :=
  (∀ (tag code d1 d2 : Byte) (s : State), s.linkFree → s.blk.cf.lock = true →
    s.blk.ds.channel = .opened → s.blk.ds.load < 16777216 → s.blk.ds.records.length < 16384 →
    let stalled (result : Byte) : Prop :=
      exec (.ddata tag (enc24 s.blk.ds.load ++ [1#8, code, d1, d2])) s =
        .next (answered s 0x11#8 tag
          ({ s.blk with ds.channel := .stalled },
            [result, 0x00#8] ++ enc32 s.blk.ds.load ++ enc16 s.blk.ds.free))
    ((∀ kind dx dy slot, ¬ formed s.blk.ds.load code d1 d2 kind dx dy slot) → stalled 0x10#8)
    ∧ (∀ kind dx dy slot, formed s.blk.ds.load code d1 d2 kind dx dy slot →
      (¬ counted s.blk.ds kind → stalled 0x12#8)
      ∧ (counted s.blk.ds kind → ¬ inField s.blk (posAfter s.blk.ds dx dy) → stalled 0x11#8)))
  ∧ (∀ (tag : Byte) (s : State), s.linkFree →
    exec (.dunst tag []) s = .next (answered s 0x12#8 tag
      (if s.blk.cf.lock = false then refused s.blk 0x05#8
       else if s.blk.ds.channel ≠ .stalled then refused s.blk 0x04#8
       else ({ s.blk with ds.channel := .opened }, [0x00#8]))))

/-- DREAD: `m` entries from an index; each says HISTORY, PENDING or NOT_HELD and gives the record. -/
def Obligations.DreadReadsByIndex : Prop :=
  ∀ (tag m : Byte) (i : Nat) (s : State), s.linkFree → i < 16777216 →
    exec (.dread tag (enc24 i ++ [m])) s = .next (answered s 0x14#8 tag
      (if m.toNat < 1 ∨ 8 < m.toNat then refused s.blk 0x03#8
       else (s.blk, 0x00#8 :: (List.range m.toNat).flatMap (fun k =>
          enc32 (i + k) ++
            (match s.blk.ds.record (i + k) with
             | some r =>
               [if i + k < s.blk.ds.sew then 0x01#8 else 0x02#8, BitVec.ofNat 8 r.kind.code]
                 ++ encS8 r.dx ++ encS8 r.dy ++ enc8 r.slot ++ encS32 r.relAfter.x
                 ++ encS32 r.relAfter.y ++ enc8 (r.slotAfter.getD 0)
             | none => 0x15#8 :: List.replicate 13 0#8)))))

/-- The release test: S, L and the channel stay; T only grows, never past E; and it stops only where
history is at most H or T has reached E. The tail position and the tail slot become those after the last
record released, so the position and the slot before every index still held stay what they were. -/
def Obligations.TheReleaseTestFreesTheTail : Prop :=
  ∀ (h : Nat) (e : Option Nat) (mark : Nat) (d : Ds), d.tail ≤ d.sew → d.sew ≤ d.load →
    let d' := (d.release h e mark).1
    d'.sew = d.sew ∧ d'.load = d.load ∧ d'.channel = d.channel ∧ d.tail ≤ d'.tail
      ∧ d'.tail ≤ d'.sew
      ∧ (d'.sew - d'.tail ≤ h ∨ ∃ x, e = some x ∧ x ≤ d'.tail)
      ∧ (∀ x, e = some x → d.tail ≤ x → d'.tail ≤ x)
      ∧ d'.records = d.records.drop (d'.tail - d.tail)
      ∧ (d'.tail = d.tail → d'.tailPos = d.tailPos ∧ d'.tailSlot = d.tailSlot)
      ∧ (∀ r, d.tail < d'.tail → d.records[d'.tail - 1 - d.tail]? = some r →
          d'.tailPos = r.relAfter ∧ d'.tailSlot = r.slotAfter)
      ∧ (∀ i, d'.tail ≤ i → i ≤ d'.load →
          d'.posBefore i = d.posBefore i ∧ d'.slotBefore i = d.slotBefore i)
      ∧ ((d.release h e mark).2 = true ↔ d.free < mark ∧ mark ≤ d'.free)

/-! ## The frame -/

/-- HOOPDEF, HOOPSEL and PLACE in IDLE with nothing open: the definition, the selection and the origin
are set, and the reply carries the frame setup; nothing else changes. PLACE with a design open is taken
when the placed extents box lies in the active field, and refused with FIELD when it does not.
The place of the presence byte in the frame setup is log 11. -/
def Obligations.FrameSetupIsTakenInIdle : Prop :=
  (∀ (tag : Byte) (h : HoopId) (r : Rect) (o : Pos) (s : State), s.linkFree →
    s.blk.cf.lock = true → s.blk.rc.runState = .idle → s.blk.ds.channel = .closed →
    (-32768 ≤ r.xMin ∧ r.xMax ≤ 32767 ∧ -32768 ≤ r.yMin ∧ r.yMax ≤ 32767) →
    (-32768 ≤ o.x ∧ o.x ≤ 32767 ∧ -32768 ≤ o.y ∧ o.y ≤ 32767) →
    (s.blk.cf.config.x.travelMin ≤ r.xMin ∧ r.xMin < r.xMax
      ∧ r.xMax ≤ s.blk.cf.config.x.travelMax ∧ s.blk.cf.config.y.travelMin ≤ r.yMin
      ∧ r.yMin < r.yMax ∧ r.yMax ≤ s.blk.cf.config.y.travelMax →
      let b' := { s.blk with fc.hoops := s.blk.fc.hoops.set h (some r) }
      exec (.hoopdef tag ([numByte h, 0#8] ++ encS16 r.xMin ++ encS16 r.xMax ++ encS16 r.yMin
          ++ encS16 r.yMax)) s = .next (answered s 0x18#8 tag (b', 0x00#8 :: b'.setupBytes)))
    ∧ (s.blk.fc.hoops.get h ≠ none →
      let b' := { s.blk with fc.active := some h }
      exec (.hoopsel tag [numByte h]) s = .next (answered s 0x19#8 tag (b', 0x00#8 :: b'.setupBytes)))
    ∧ (s.blk.fc.hoops.get h = none →
      exec (.hoopsel tag [numByte h]) s
        = .next (answered s 0x19#8 tag (s.blk, 0x0A#8 :: s.blk.setupBytes)))
    ∧ (let b' := { s.blk with fc.active := none }
      exec (.hoopsel tag [0#8]) s = .next (answered s 0x19#8 tag (b', 0x00#8 :: b'.setupBytes)))
    ∧ (let b' := { s.blk with fc.origin := o }
      exec (.place tag (encPos16 o)) s = .next (answered s 0x1A#8 tag (b', 0x00#8 :: b'.setupBytes))))
  ∧ (∀ (tag : Byte) (o : Pos) (fld box : Rect) (s : State), s.linkFree → s.blk.cf.lock = true →
    s.blk.rc.runState = .idle → s.blk.ds.channel ≠ .closed → s.blk.ds.box = some box →
    s.blk.activeField = some fld →
    (-32768 ≤ o.x ∧ o.x ≤ 32767 ∧ -32768 ≤ o.y ∧ o.y ≤ 32767) →
    exec (.place tag (encPos16 o)) s = .next (answered s 0x1A#8 tag
      (if fld.xMin ≤ o.x + box.xMin ∧ o.x + box.xMax ≤ fld.xMax ∧ fld.yMin ≤ o.y + box.yMin
          ∧ o.y + box.yMax ≤ fld.yMax then
        ({ s.blk with fc.origin := o }, 0x00#8 :: ({ s.blk with fc.origin := o } : Blocks).setupBytes)
       else (s.blk, 0x11#8 :: s.blk.setupBytes))))

/-- MOVE at rest, with both axes READY, to a place within the limits where the frame does not stand:
the run state is MOVING over its base state, both axes are sent, the off-position flag is set outside
IDLE, and nothing else changes. At the place where it stands the move ends at once with OK. -/
def Obligations.MoveSendsTheFrame : Prop :=
  ∀ (tag : Byte) (p : Pos) (s : State), s.linkFree → s.blk.cf.lock = true →
    runIsOf s.blk [.idle, .paused, .ended] → axesReady s.blk →
    (-32768 ≤ p.x ∧ p.x ≤ 32767 ∧ -32768 ≤ p.y ∧ p.y ≤ 32767) →
    s.blk.cf.config.x.travelMin ≤ p.x → p.x ≤ s.blk.cf.config.x.travelMax →
    s.blk.cf.config.y.travelMin ≤ p.y → p.y ≤ s.blk.cf.config.y.travelMax →
    (standsOff s.blk p → exec (.move tag (encPos16 p)) s = .next (answered s 0x1B#8 tag
      ({ inState { s.blk with rc.op := some ⟨tag, s.blk.baseState, .move⟩ } .moving none with
          fc := { frameSent s.blk.fc .manual p with
            offPosition := s.blk.fc.offPosition || decide (s.blk.rc.runState ≠ .idle) } },
        [0x00#8])))
    ∧ (¬ standsOff s.blk p → ∃ t, exec (.move tag (encPos16 p)) s = .next t
        ∧ t.pl.replies = okReply s 0x1B#8 tag ∧ t.blk.rc.runState = s.blk.rc.runState
        ∧ t.blk.rc.opRecord = ⟨some .move, tag, some .ok, OpFailures.none,
            s.blk.rc.opRecord.counter + 1⟩)

/-! ## The run -/

namespace Sys2Proof.Claims

/-- The first tests of RUN: the run state, and from IDLE the channel and L (R69). -/
def runOpen (b : Blocks) : Prop :=
  b.cf.lock = true ∧ runIsOf b [.idle, .paused, .held]
    ∧ (b.rc.runState = .idle →
        b.ds.channel ≠ .closed ∧ b.ds.channel ≠ .stalled ∧ 1 ≤ b.ds.load)

/-- From IDLE and PAUSED the shaft is STOPPED and both axes are READY (R69). -/
def runHomed (b : Blocks) : Prop :=
  runIsOf b [.idle, .paused] → b.sc.state = .stopped ∧ axesReady b

/-- A configured head that is SEWING. -/
def sews (b : Blocks) (h : HeadId) : Prop :=
  h.num ≤ b.cf.config.headCount ∧ (b.hu.get h).state = .sewing

/-- No SEWING head has its fault flag set (R69). -/
def runUnflagged (b : Blocks) : Prop := ∀ h : HeadId, sews b h → (b.hu.get h).faultFlag = false

/-- From IDLE and PAUSED no SEWING head has its selector UNKNOWN or JAMMED (R69). -/
def runAtNeedles (b : Blocks) : Prop :=
  runIsOf b [.idle, .paused] → ∀ h : HeadId, sews b h →
    (b.hu.get h).selector ≠ .unknown ∧ (b.hu.get h).selector ≠ .jammed

/-- From PAUSED and HELD, S is below E + P while a missed range exists (R69). -/
def runBelowPin (b : Blocks) : Prop :=
  runIsOf b [.paused, .held] → ∀ e, b.e = some e → b.ds.sew < e + b.cf.settings.pinLimit

/-- From PAUSED and HELD, pending is 1 or more, or END is loaded (R69). -/
def runLoaded (b : Blocks) : Prop :=
  runIsOf b [.paused, .held] → 1 ≤ b.ds.load - b.ds.sew ∨ b.ds.channel = .finished

/-- The tests of RUN, in their order (R69). -/
def runTests (b : Blocks) : Prop :=
  runOpen b ∧ runHomed b ∧ (∃ h, sews b h) ∧ runUnflagged b ∧ runAtNeedles b ∧ runBelowPin b
    ∧ runLoaded b

/-- The record at S is of a kind. -/
def recordAtSew (b : Blocks) (k : RecordKind) : Prop := ∃ r, b.ds.record b.ds.sew = some r ∧ r.kind = k

end Sys2Proof.Claims

/-- RUN is taken whenever its tests hold: the reply is OK; from IDLE a run exists and the cycle count
is 0; from PAUSED and HELD the run and the cycle count are kept. Otherwise it is refused by the first
test of its table that fails, from each run state the table names, and changes nothing. -/
def Obligations.RunIsTakenWhenItsTestsHold : Prop :=
  (∀ (tag : Byte) (s : State), s.linkFree → runTests s.blk →
    ∃ t : State, exec (.run tag []) s = .next t ∧ t.pl.replies = okReply s 0x21#8 tag
      ∧ t.blk.cf = s.blk.cf ∧ t.blk.tp = s.blk.tp
      ∧ (s.blk.rc.runState = .idle →
          t.blk.rc.runExists = true ∧ t.blk.sc.cycleCount = 0#32)
      ∧ (s.blk.rc.runState ≠ .idle →
          t.blk.rc.runExists = s.blk.rc.runExists ∧ t.blk.sc.cycleCount = s.blk.sc.cycleCount))
  ∧ (∀ (tag : Byte) (s : State), s.linkFree → s.blk.cf.lock = true →
    (s.blk.rc.runState = .halted → exec (.run tag []) s = .next (answered s 0x21#8 tag
      (refused s.blk (if s.blk.fl.estop then 0x0C#8 else 0x04#8))))
    ∧ (¬ runIsOf s.blk [.idle, .paused, .held, .halted] →
      exec (.run tag []) s = .next (answered s 0x21#8 tag (refused s.blk 0x04#8)))
    ∧ (s.blk.rc.runState = .idle → s.blk.ds.channel = .closed →
      exec (.run tag []) s = .next (answered s 0x21#8 tag (refused s.blk 0x0D#8)))
    ∧ (s.blk.rc.runState = .idle → s.blk.ds.channel = .stalled →
      exec (.run tag []) s = .next (answered s 0x21#8 tag (refused s.blk 0x14#8)))
    ∧ (s.blk.rc.runState = .idle → s.blk.ds.channel = .opened → s.blk.ds.load = 0 →
      exec (.run tag []) s = .next (answered s 0x21#8 tag (refused s.blk 0x19#8)))
    ∧ (s.blk.rc.runState = .paused → (s.blk.sc.state ≠ .stopped ∨ ¬ axesReady s.blk) →
      exec (.run tag []) s = .next (answered s 0x21#8 tag (refused s.blk 0x0B#8)))
    ∧ (runOpen s.blk →
      let refusedWith (code : Byte) : Prop :=
        exec (.run tag []) s = .next (answered s 0x21#8 tag (refused s.blk code))
      (¬ runHomed s.blk → refusedWith 0x0B#8)
      ∧ (runHomed s.blk → (¬ ∃ h, sews s.blk h) → refusedWith 0x17#8)
      ∧ (runHomed s.blk → (∃ h, sews s.blk h) → ¬ runUnflagged s.blk → refusedWith 0x16#8)
      ∧ (runHomed s.blk → (∃ h, sews s.blk h) → runUnflagged s.blk →
        (¬ runAtNeedles s.blk → refusedWith 0x0B#8)
        ∧ (runAtNeedles s.blk → ¬ runBelowPin s.blk → refusedWith 0x18#8)
        ∧ (runAtNeedles s.blk → runBelowPin s.blk → ¬ runLoaded s.blk → refusedWith 0x19#8))))

/-- RUN from IDLE with the frame off the position before S, and neither END nor MARK at S: return
travel is begun in TRAVEL with the off-position flag set; the resume kind is START.
That it waits in TRAVEL is log 12. -/
def Obligations.RunFromIdleBeginsReturnTravel : Prop :=
  ∀ (tag : Byte) (p : Pos) (s : State), s.linkFree → runTests s.blk → s.blk.rc.runState = .idle →
    ¬ recordAtSew s.blk .endDesign → ¬ recordAtSew s.blk .mark →
    s.blk.ds.posBefore s.blk.ds.sew = some p → standsOff s.blk (s.blk.fc.origin.add p) →
    exec (.run tag []) s = .next (answered s 0x21#8 tag
      ({ inState { s.blk with
            rc.runExists := true, rc.resume := some .start, sc.cycleCount := 0#32 } .travel none with
          fc := { frameSent s.blk.fc .returnTravel (s.blk.fc.origin.add p) with offPosition := true } },
        [0x00#8]))

/-- PAUSE by its table: what it does in each run state that takes it, and STATE in the others. A move
whose axes have both issued their last steps is completed, and a stop then changes nothing of it; a
second PAUSE under a stop changes nothing, wherever the axes have come to rest.
That the run state stays TRAVEL until the frame has stopped is log 12. -/
def Obligations.PauseByRunState : Prop :=
  ∀ (tag : Byte) (s : State), s.linkFree → s.blk.cf.lock = true →
    (s.blk.rc.runState = .running → s.blk.sc.state = .turning →
      exec (.pause tag []) s = .next (answered s 0x22#8 tag
        (inState { s.blk with rc.causes.host := true, sc.state := .stopping } .stopping none,
          [0x00#8])))
    ∧ (s.blk.rc.runState = .stopping → exec (.pause tag []) s = .next (answered s 0x22#8 tag
        ({ s.blk with rc.causes.host := true }, [0x00#8])))
    ∧ (s.blk.rc.runState = .held → exec (.pause tag []) s = .next (answered s 0x22#8 tag
        (inState s.blk .paused (some .host), [0x00#8])))
    ∧ (∀ c, s.blk.rc.runState = .changing → s.blk.rc.change = some c →
        exec (.pause tag []) s = .next (answered s 0x22#8 tag
          ({ s.blk with rc.change := some { c with paused := true } }, [0x00#8])))
    ∧ (∀ o, runIsOf s.blk [.travel, .moving] → ¬ axesReady s.blk → s.blk.fc.move = some ⟨o, false⟩ →
        ∃ t, exec (.pause tag []) s = .next t ∧ t.pl.replies = okReply s 0x22#8 tag
          ∧ t.blk.fc = { s.blk.fc with move := some ⟨o, true⟩ }
          ∧ t.blk.rc.runState = s.blk.rc.runState)
    ∧ (∀ o, runIsOf s.blk [.travel, .moving] → s.blk.fc.move = some ⟨o, true⟩ →
        ∃ t, exec (.pause tag []) s = .next t ∧ t.pl.replies = okReply s 0x22#8 tag
          ∧ t.blk.fc = s.blk.fc ∧ t.blk.rc.runState = s.blk.rc.runState
          ∧ t.blk.rc.op = s.blk.rc.op ∧ t.blk.rc.opRecord = s.blk.rc.opRecord)
    ∧ (∀ old base, s.blk.rc.runState = .moving → axesReady s.blk →
        s.blk.fc.move = some ⟨.manual, false⟩ → s.blk.rc.op = some ⟨old, base, .move⟩ →
        ∃ t, exec (.pause tag []) s = .next t ∧ t.pl.replies = okReply s 0x22#8 tag
          ∧ t.blk.fc = { s.blk.fc with move := none }
          ∧ t.blk.rc.runState = base.target.1 ∧ t.blk.rc.op = none
          ∧ t.blk.rc.opRecord = ⟨some .move, old, some .ok, OpFailures.none,
              s.blk.rc.opRecord.counter + 1⟩)
    ∧ (s.blk.rc.runState = .travel → axesReady s.blk →
        s.blk.fc.move = some ⟨.returnTravel, false⟩ →
        exec (.pause tag []) s = .next (answered s 0x22#8 tag
          (inState { s.blk with
              fc.move := none, fc.offPosition := false, rc.resume := none
              rc.causes := ⟨false, false⟩ } .paused
            (some (if s.blk.rc.causes.fault then .fault else .host)), [0x00#8])))
    ∧ (∀ asked, s.blk.rc.runState = .reposition →
        (∃ op w, s.blk.rc.op = some op ∧ op.work = .repo w) →
        s.blk.fc.move = some ⟨.returnTravel, asked⟩ → asked = true ∨ ¬ axesReady s.blk →
        exec (.pause tag []) s = .next (answered s 0x22#8 tag
          ({ s.blk with fc.move := some ⟨.returnTravel, true⟩ }, [0x00#8])))
    ∧ (∀ op w, s.blk.rc.runState = .reposition → s.blk.rc.op = some op → op.work = .repo w →
        s.blk.fc.move = some ⟨.step, false⟩ →
        exec (.pause tag []) s = .next (answered s 0x22#8 tag
          ({ s.blk with rc.op := some { op with work := .repo { w with pauseAsked := true } } },
            [0x00#8])))
    ∧ (∀ op w, s.blk.rc.runState = .patch → s.blk.rc.op = some op → op.work = .patch w →
        s.blk.fc.move = none → s.blk.rc.change = none → s.blk.sc.state = .turning →
        exec (.pause tag []) s = .next (answered s 0x22#8 tag
          ({ s.blk with
              rc.op := some { op with work := .patch { w with causes := ⟨true, w.causes.fault⟩ } }
              sc.state := .stopping }, [0x00#8])))
    ∧ (runIsOf s.blk [.idle, .paused, .ended, .homing, .halted] →
        exec (.pause tag []) s = .next (answered s 0x22#8 tag (refused s.blk 0x04#8)))

namespace Sys2Proof.Claims

/-- An axis as a homing begins: in FAULT it stays so, at an asserted home switch it is homed at once,
and otherwise it homes (R40, R41). -/
def homingBegun (r : AxisRec) (switch : Bool) (offset : Int) : AxisRec :=
  if r.state = .fault then r
  else if switch then ⟨.ready, some offset, none, 0⟩ else ⟨.homing, none, none, 0⟩

/-- The outcome an axis has already as its homing begins (R40, R41). -/
def outcomeBegun (r : AxisRec) (switch : Bool) : Option AxisOutcome :=
  if r.state = .fault then some .driveFault else if switch then some .homed else none

/-- HOME homes the selector of a head: configured and not OFF (R87). -/
def homedByHome (b : Blocks) (h : HeadId) : Prop :=
  h.num ≤ b.cf.config.headCount ∧ (b.hu.get h).state ≠ .off

end Sys2Proof.Claims

/-- HOME with the shaft OFF: HOMING over the base state, with its tag, and the needle-up find at 60 spm;
with the shaft STOPPED, the selectors and both axes begin at once, and HOME goes on while one of the axes
homes. It is refused with ESTOP while E-STOP is asserted, in every run state. -/
def Obligations.HomeBeginsWithTheShaft : Prop :=
  ∀ (tag : Byte) (s : State), s.linkFree → s.blk.cf.lock = true →
    (s.blk.fl.estop = true →
      exec (.home tag []) s = .next (answered s 0x20#8 tag (refused s.blk 0x0C#8)))
    ∧ (s.blk.fl.estop = false → runIsOf s.blk [.idle, .paused, .ended, .halted] →
      (s.blk.sc.state = .off → ∃ t, exec (.home tag []) s = .next t
        ∧ t.pl.replies = okReply s 0x20#8 tag ∧ t.blk.rc.runState = .homing
        ∧ t.blk.rc.pauseCause = none
        ∧ t.blk.rc.op = some ⟨tag, baseOf s.blk,
            .home ⟨false, Eight.const false, none, none, Eight.const false⟩⟩
        ∧ t.blk.sc = { s.blk.sc with state := .finding, angle := some 0, demanded := 60
                                     stallTimer := some s.blk.cf.settings.stallTime }
        ∧ t.blk.hu = s.blk.hu ∧ t.blk.fc = s.blk.fc ∧ t.blk.ds = s.blk.ds ∧ t.blk.fl = s.blk.fl)
      ∧ (s.blk.sc.state = .stopped →
        (s.blk.pins.homeSwitchX = false ∧ s.blk.fc.x.state ≠ .fault)
          ∨ (s.blk.pins.homeSwitchY = false ∧ s.blk.fc.y.state ≠ .fault) →
        ∃ (t : State) (await : Eight Bool), exec (.home tag []) s = .next t
        ∧ t.pl.replies = okReply s 0x20#8 tag ∧ t.blk.rc.runState = .homing
        ∧ t.blk.rc.pauseCause = none
        ∧ t.blk.rc.op = some ⟨tag, baseOf s.blk, .home ⟨true, await,
            outcomeBegun s.blk.fc.x s.blk.pins.homeSwitchX,
            outcomeBegun s.blk.fc.y s.blk.pins.homeSwitchY, Eight.const false⟩⟩
        ∧ t.blk.fc.x = homingBegun s.blk.fc.x s.blk.pins.homeSwitchX s.blk.cf.config.x.homeOffset
        ∧ t.blk.fc.y = homingBegun s.blk.fc.y s.blk.pins.homeSwitchY s.blk.cf.config.y.homeOffset
        ∧ t.blk.sc = s.blk.sc
        ∧ t.blk.fc.offPosition = (s.blk.fc.offPosition || decide (s.blk.rc.runState ≠ .idle))
        ∧ ∀ h : HeadId, (homedByHome s.blk h →
              (t.blk.hu.get h).selector
                = (if s.blk.pins.selIndex.get h then .atNeedle 1 else .homing)
              ∧ await.get h = !s.blk.pins.selIndex.get h)
            ∧ (¬ homedByHome s.blk h →
              t.blk.hu.get h = s.blk.hu.get h ∧ await.get h = false)))

namespace Sys2Proof.Claims

/-- The largest n FWD takes: up to L, or to END, and to the pin stop point (R82). -/
def forwardMost (b : Blocks) : Nat :=
  let ahead := if b.ds.channel = .finished then b.ds.load - 1 - b.ds.sew else b.ds.load - b.ds.sew
  match b.e with
  | some e => min ahead (e + b.cf.settings.pinLimit - b.ds.sew)
  | none => ahead

end Sys2Proof.Claims

/-- BACK and FWD: VALUE carries the largest n, which for FWD ends before END and at the pin stop point;
taken with the flag clear and the frame off the next position, S moves by one, the slot in effect
follows, and the step's travel is in flight. -/
def Obligations.BackAndFwdStepTheSewPoint : Prop :=
  ∀ (tag : Byte) (n : Nat) (s : State), s.linkFree → s.blk.cf.lock = true → n < 65536 →
    s.blk.rc.runState = .paused → axesReady s.blk →
    (s.blk.ds.sew - s.blk.ds.tail < 65536 → (n < 1 ∨ s.blk.ds.sew - s.blk.ds.tail < n) →
      exec (.back tag (enc16 n)) s = .next (answered s 0x24#8 tag
        (s.blk, 0x03#8 :: enc16 (s.blk.ds.sew - s.blk.ds.tail))))
    ∧ (∀ p, 1 ≤ n → n ≤ s.blk.ds.sew - s.blk.ds.tail → s.blk.fc.offPosition = false →
      s.blk.ds.posBefore (s.blk.ds.sew - 1) = some p → standsOff s.blk (s.blk.fc.origin.add p) →
      ∃ t, exec (.back tag (enc16 n)) s = .next t ∧ t.pl.replies = okReply s 0x24#8 tag
        ∧ t.blk.rc.runState = .reposition
        ∧ t.blk.rc.op = some ⟨tag, .paused s.blk.rc.pauseCause, .repo ⟨false, n - 1, false⟩⟩
        ∧ t.blk.ds = { s.blk.ds with sew := s.blk.ds.sew - 1 }
        ∧ t.blk.rc.slotInEffect = s.blk.ds.slotBefore (s.blk.ds.sew - 1)
        ∧ t.blk.fc = frameSent s.blk.fc .step (s.blk.fc.origin.add p)
        ∧ t.blk.sc = s.blk.sc ∧ t.blk.hu = s.blk.hu ∧ t.blk.rt = s.blk.rt ∧ t.blk.tm = s.blk.tm)
    ∧ (forwardMost s.blk < 65536 → (n < 1 ∨ forwardMost s.blk < n) →
      exec (.fwd tag (enc16 n)) s = .next (answered s 0x25#8 tag
        (s.blk, 0x03#8 :: enc16 (forwardMost s.blk))))
    ∧ (∀ p, 1 ≤ n → n ≤ forwardMost s.blk →
      s.blk.fc.offPosition = false → s.blk.ds.tail ≤ s.blk.ds.sew →
      s.blk.ds.posBefore (s.blk.ds.sew + 1) = some p → standsOff s.blk (s.blk.fc.origin.add p) →
      ∃ t, exec (.fwd tag (enc16 n)) s = .next t ∧ t.pl.replies = okReply s 0x25#8 tag
        ∧ t.blk.rc.runState = .reposition
        ∧ t.blk.rc.op = some ⟨tag, .paused s.blk.rc.pauseCause, .repo ⟨true, n - 1, false⟩⟩
        ∧ t.blk.ds.sew = s.blk.ds.sew + 1 ∧ t.blk.ds.load = s.blk.ds.load
        ∧ t.blk.rc.slotInEffect = s.blk.ds.slotBefore (s.blk.ds.sew + 1)
        ∧ t.blk.fc = frameSent s.blk.fc .step (s.blk.fc.origin.add p)
        ∧ t.blk.sc = s.blk.sc ∧ t.blk.hu = s.blk.hu ∧ t.blk.rt = s.blk.rt ∧ t.blk.tm = s.blk.tm)

/-- CLOSE: refused with RANGES_LEFT while a range exists and the flag is clear; taken, every range is
dropped, ISOLATED heads become STANDBY, the store is empty, no run exists, and the run state is IDLE,
or HALTED where it stood; the off-position flag, the cycle count and the log stay.
That a discard flag above 1 is refused with VALUE before RANGES_LEFT is tested is log 10. -/
def Obligations.CloseEndsTheRun : Prop :=
  ∀ (tag d : Byte) (s : State), s.linkFree → s.blk.cf.lock = true →
    runIsOf s.blk [.paused, .ended, .halted] →
    (1 < d.toNat → exec (.close tag [d]) s = .next (answered s 0x26#8 tag (refused s.blk 0x03#8)))
    ∧ (d = 0#8 → (∃ h : HeadId, s.blk.rt.get h ≠ []) →
      exec (.close tag [d]) s = .next (answered s 0x26#8 tag (refused s.blk 0x1A#8)))
    ∧ (d = 1#8 ∨ (d = 0#8 ∧ ∀ h : HeadId, s.blk.rt.get h = []) →
      ∃ t, exec (.close tag [d]) s = .next t ∧ t.pl.replies = okReply s 0x26#8 tag
        ∧ (∀ h : HeadId, t.blk.rt.get h = []) ∧ t.blk.ds = Ds.empty
        ∧ (∀ h : HeadId, t.blk.hu.get h =
            if (s.blk.hu.get h).state = .isolated then { s.blk.hu.get h with state := .standby }
            else s.blk.hu.get h)
        ∧ t.blk.rc.runExists = false ∧ t.blk.rc.slotInEffect = none
        ∧ t.blk.rc.causes = ⟨false, false⟩ ∧ t.blk.rc.pauseCause = none
        ∧ t.blk.rc.runState = (if s.blk.rc.runState = .halted then .halted else .idle)
        ∧ t.blk.rc.opRecord = s.blk.rc.opRecord ∧ t.blk.fc = s.blk.fc ∧ t.blk.sc = s.blk.sc
        ∧ t.blk.fl = s.blk.fl ∧ t.blk.tp = s.blk.tp ∧ t.blk.cf = s.blk.cf)

/-! ## Heads and the thread plan -/

/-- HJOIN, and HLEAVE of a SEWING head, by their table. HDIS: a SEWING or STANDBY head at rest is gated
with its state kept, its foot up, its bar disengaged and its trimmer off; an ISOLATED head's open range
closes too, and STANDBY is kept; HEN gives it the kept state back. -/
def Obligations.HeadsJoinLeaveAndAreGated : Prop :=
  (∀ (tag n : Byte) (s : State), s.linkFree →
    exec (.hjoin tag [n]) s = .next (answered s 0x2A#8 tag (headNamedOn s.blk n (fun h =>
      if ¬ runIsOf s.blk [.idle, .paused, .ended] ∨ (s.blk.hu.get h).state ≠ .standby then
        refused s.blk 0x04#8
      else (withHead s.blk h { s.blk.hu.get h with state := .sewing }, [0x00#8]))))
    ∧ (∀ h : HeadId, n = numByte h → s.blk.cf.lock = true → h.num ≤ s.blk.cf.config.headCount →
      (s.blk.hu.get h).state = .sewing → runIsOf s.blk [.idle, .paused, .ended] →
      s.blk.sc.cycle = none →
      exec (.hleave tag [n]) s = .next (answered s 0x2B#8 tag
        (withMonitor (withHead s.blk h { s.blk.hu.get h with state := .standby }) h
          { s.blk.tm.get h with state := .off, k := 0, bigK := 0 }, [0x00#8]))))
  ∧ (∀ (tag : Byte) (h : HeadId) (s : State), s.linkFree → s.blk.cf.lock = true →
    h.num ≤ s.blk.cf.config.headCount → runIsOf s.blk [.idle, .paused, .ended, .halted] →
    (((s.blk.hu.get h).state = .sewing ∨ (s.blk.hu.get h).state = .standby) →
      (s.blk.hu.get h).selector.busy = false → s.blk.sc.cycle = none →
      exec (.hdis tag [numByte h]) s = .next (answered s 0x29#8 tag
        (withMonitor (withHead s.blk h
            { s.blk.hu.get h with state := .off, kept := some (s.blk.hu.get h).state
                                  footDown := false, engaged := false, trimmer := false }) h
          { s.blk.tm.get h with state := .off, k := 0, bigK := 0 }, [0x00#8])))
    ∧ ((s.blk.hu.get h).state = .isolated →
      (s.blk.hu.get h).selector.busy = false → s.blk.sc.cycle = none →
      exec (.hdis tag [numByte h]) s = .next (answered s 0x29#8 tag
        (withMonitor (withHead (s.blk.closeRange h s.blk.ds.sew) h
            { s.blk.hu.get h with state := .off, kept := some .standby
                                  footDown := false, engaged := false, trimmer := false }) h
          { s.blk.tm.get h with state := .off, k := 0, bigK := 0 }, [0x00#8])))
    ∧ ((s.blk.hu.get h).state ≠ .off → (s.blk.hu.get h).selector.busy = true →
      exec (.hdis tag [numByte h]) s = .next (answered s 0x29#8 tag (refused s.blk 0x07#8)))
    ∧ (∀ k, (s.blk.hu.get h).state = .off → (s.blk.hu.get h).kept = some k →
      exec (.hen tag [numByte h]) s = .next (answered s 0x28#8 tag
        (withHead s.blk h { s.blk.hu.get h with state := k, kept := none }, [0x00#8])))
    ∧ ((s.blk.hu.get h).state ≠ .off →
      exec (.hen tag [numByte h]) s = .next (answered s 0x28#8 tag (refused s.blk 0x04#8))))

/-- HCLR: the fault flag alone is cleared, and a JAMMED or UNKNOWN selector refuses. BOB and MCLR by
their tables. That BOB tests its form after HEAD_OFF is log 10, and that a non-zero count with the form
OFF is refused with VALUE is the model's choice (log 32). -/
def Obligations.HclrBobAndMclrByTheirTables : Prop :=
  (∀ (tag n : Byte) (s : State), s.linkFree →
    exec (.hclr tag [n]) s = .next (answered s 0x2C#8 tag (headNamedOn s.blk n (fun h =>
      if ¬ runIsOf s.blk [.idle, .paused, .ended, .halted]
          ∨ (s.blk.hu.get h).selector = .jammed ∨ (s.blk.hu.get h).selector = .unknown then
        refused s.blk 0x04#8
      else (withHead s.blk h { s.blk.hu.get h with faultFlag := false }, [0x00#8])))))
  ∧ (∀ (tag n form : Byte) (c : Nat) (s : State), s.linkFree → c < 65536 →
    exec (.bob tag ([n, form] ++ enc16 c)) s = .next (answered s 0x2F#8 tag
      (headNamedOn s.blk n (fun h =>
        if 1 < form.toNat ∨ (form = 1#8 ∧ c ≠ 0) then refused s.blk 0x03#8
        else (withHead s.blk h { s.blk.hu.get h with
                bobbin := if form = 1#8 then none else some c, lowLatch := false }, [0x00#8]))))
    ∧ exec (.mclr tag [n]) s = .next (answered s 0x33#8 tag (headNamedOn s.blk n (fun h =>
        (withMonitor s.blk h { s.blk.tm.get h with soft := 0, warnLatch := false }, [0x00#8])))))

/-- HRST of a head in any state: the fault flag, the counts, the bobbin and the event flags are
cleared and its ranges dropped; an ISOLATED head becomes STANDBY; selector and rest flag stay, and so
does every other head. -/
def Obligations.HrstResetsOneHead : Prop :=
  ∀ (tag : Byte) (h : HeadId) (s : State), s.linkFree → s.blk.cf.lock = true →
    h.num ≤ s.blk.cf.config.headCount → runIsOf s.blk [.idle, .paused, .ended, .halted] →
    (s.blk.hu.get h).selector.busy = false →
    ∃ t, exec (.hrst tag [numByte h]) s = .next t ∧ t.pl.replies = okReply s 0x2D#8 tag
      ∧ t.blk.hu = s.blk.hu.set h { s.blk.hu.get h with
          faultFlag := false, bobbin := none, lowLatch := false
          state := if (s.blk.hu.get h).state = .isolated then .standby else (s.blk.hu.get h).state }
      ∧ t.blk.tm = s.blk.tm.set h { s.blk.tm.get h with
          low := 0, high := 0, breakStart := none, soft := 0, warnLatch := false }
      ∧ t.blk.rt = s.blk.rt.set h [] ∧ t.blk.ru.heads = s.blk.ru.heads.set h ⟨0#4, 0#4⟩
      ∧ t.blk.ds.sew = s.blk.ds.sew ∧ t.blk.ds.load = s.blk.ds.load ∧ t.blk.rc = s.blk.rc
      ∧ t.blk.fc = s.blk.fc ∧ t.blk.sc = s.blk.sc ∧ t.blk.fl = s.blk.fl ∧ t.blk.cf = s.blk.cf
      ∧ t.blk.tp = s.blk.tp

/-- HHOME at rest with the shaft STOPPED and the index not asserted: HOMING for this head, its
selector HOMING with its timer started; with the shaft elsewhere it is refused with NOT_HOMED. -/
def Obligations.HhomeHomesOneSelector : Prop :=
  ∀ (tag : Byte) (h : HeadId) (s : State), s.linkFree → s.blk.cf.lock = true →
    h.num ≤ s.blk.cf.config.headCount → (s.blk.hu.get h).state ≠ .off →
    runIsOf s.blk [.idle, .paused, .ended] →
    (s.blk.sc.state ≠ .stopped →
      exec (.hhome tag [numByte h]) s = .next (answered s 0x2E#8 tag (refused s.blk 0x0B#8)))
    ∧ (s.blk.sc.state = .stopped → s.blk.pins.selIndex.get h = false →
      exec (.hhome tag [numByte h]) s = .next (answered s 0x2E#8 tag
        (withHead (inState { s.blk with rc.op := some ⟨tag, s.blk.baseState, .hhome h⟩ } .homing none)
          h { s.blk.hu.get h with selector := .homing
                                  selTimer := some s.blk.cf.settings.selectorTimeout }, [0x00#8])))
    ∧ (s.blk.sc.state = .stopped → s.blk.pins.selIndex.get h = true →
      ∃ t, exec (.hhome tag [numByte h]) s = .next t ∧ t.pl.replies = okReply s 0x2E#8 tag
        ∧ t.blk.hu = s.blk.hu.set h { s.blk.hu.get h with selector := .atNeedle 1, selTimer := none }
        ∧ t.blk.rc.runState = s.blk.rc.runState ∧ t.blk.rc.opRecord = ⟨some .hhome, tag, some .ok,
            OpFailures.none, s.blk.rc.opRecord.counter + 1⟩)

/-- The thread plan: PSET enters one slot's needles, PCLR removes them, PREAD reads them, and every
other slot's entry stays. -/
def Obligations.ThePlanIsSetClearedAndRead : Prop :=
  ∀ (tag : Byte) (slot : Nat) (needles : List Byte) (s : State), s.linkFree →
    s.blk.cf.lock = true → 1 ≤ slot → slot ≤ 32 →
    (needles.length = s.blk.cf.config.headCount →
      (∀ b ∈ needles, 1 ≤ b.toNat ∧ b.toNat ≤ s.blk.cf.config.needleCount) →
      s.blk.rc.runExists = false → ¬ runIsOf s.blk [.changing, .patch] →
      ∃ t, exec (.pset tag (enc8 slot ++ needles)) s = .next t
        ∧ t.blk = { s.blk with tp := t.blk.tp }
        ∧ planEntry t.blk.tp slot = some ⟨slot, needles.map BitVec.toNat⟩
        ∧ (∀ other, other ≠ slot → planEntry t.blk.tp other = planEntry s.blk.tp other)
        ∧ t.pl.replies = s.pl.replies ++
            [⟨⟨0xB0#8, tag, 0x00#8 :: enc8 t.blk.tp.length⟩, .reply⟩])
    ∧ (s.blk.rc.runExists = false → ¬ runIsOf s.blk [.changing, .patch] →
      ∃ t, exec (.pclr tag (enc8 slot)) s = .next t
        ∧ t.blk = { s.blk with tp := t.blk.tp } ∧ planEntry t.blk.tp slot = none
        ∧ (∀ other, other ≠ slot → planEntry t.blk.tp other = planEntry s.blk.tp other)
        ∧ t.pl.replies = s.pl.replies ++
            [⟨⟨0xB1#8, tag, 0x00#8 :: enc8 t.blk.tp.length⟩, .reply⟩])
    ∧ exec (.pread tag (enc8 slot)) s = .next (answered s 0x32#8 tag
        (s.blk, match planEntry s.blk.tp slot with
          | some e => [0x00#8] ++ enc8 s.blk.tp.length ++ [1#8] ++ e.needles.flatMap enc8
          | none => [0x00#8] ++ enc8 s.blk.tp.length ++ [0#8]))
    ∧ (∀ e, s.blk.rc.runExists = true → s.blk.rc.slotInEffect = some slot →
        planEntry s.blk.tp slot = some e →
        exec (.pclr tag (enc8 slot)) s = .next (answered s 0x31#8 tag (refused s.blk 0x04#8)))

/-! ## Missed ranges -/

namespace Sys2Proof.Claims

/-- The faults that name a head and whose outcome follows the fault policy (R134). -/
def policyFault (b : Blocks) (h : HeadId) : Condition → Prop
  | .threadBreak g _ _ _ _ => g = h
  | .tensionLoose g _ _ _ => g = h ∧ b.cf.settings.looseAction = .stop
  | .bobbinEmpty g _ _ _ => g = h
  | .selectorChange g _ _ _ => g = h
  | _ => False

/-- The start a fault gives its range (R135). -/
def faultStart (b : Blocks) : Condition → Nat
  | .threadBreak _ _ _ _ a => a
  | .tensionLoose _ _ _ i => i + 1
  | .bobbinEmpty _ _ _ i => i + 1
  | .selectorChange _ _ _ (.recordDriven i) => i
  | _ => b.ds.sew

/-- The start, not below T, and above the cycle's record less P in a cycle of a run (R25, R135). -/
def rangeStart (b : Blocks) (c : Condition) : Nat :=
  let a := max (faultStart b c) b.ds.tail
  match b.sc.plan, b.sc.cycle with
  | some .run, some r => max a (r.index + 1 - b.cf.settings.pinLimit)
  | _, _ => a

/-- The ranges of a head that a new one from `a` leaves in its list: those that end at or below it
(R135). -/
def keptRanges (b : Blocks) (h : HeadId) (a : Nat) : List Range :=
  (b.rt.get h).filter (fun r => r.b.any (fun e => decide (e ≤ a)))

/-- A fault is answered with ISOLATE (R134). -/
def isolates (b : Blocks) (h : HeadId) (c : Condition) : Prop :=
  b.cf.settings.policy = .isolate ∧ b.countState .isolated < b.cf.settings.isolationLimit
    ∧ (∃ g : HeadId, g ≠ h ∧ g.num ≤ b.cf.config.headCount ∧ (b.hu.get g).state = .sewing)
    ∧ (keptRanges b h (rangeStart b c)).length < 8 ∧ b.rc.runState ≠ .patch

/-- The start of a new range that absorbs those of a list which end above `a`: the least of `a` and
their starts (R135). -/
def leastStart (l : List Range) (a m : Nat) : Prop :=
  m ≤ a ∧ (∀ r ∈ l, r.b.any (fun e => decide (e ≤ a)) = false → m ≤ r.a)
    ∧ (m = a ∨ ∃ r ∈ l, r.b.any (fun e => decide (e ≤ a)) = false ∧ m = r.a)

/-- The list of the patch head with the patched range's start moved, or without the range when nothing
is left of it (R146, R147). -/
def shrunk (w : PatchWork) (start : Nat) (l : List Range) : List Range :=
  l.filterMap (fun r => if r.a = w.a ∧ r.b = some w.b then
    (if start = w.b then none else some ⟨start, some w.b⟩) else some r)

/-- The new start of a patch ended FAILED: p, or a break start below it (R146). -/
def failedStart (w : PatchWork) : Nat :=
  match w.breakStart with
  | some a => if a < w.p then a else w.p
  | none => w.p

/-- A patch run has ended with a result, its range shrunk to a start, in its base state (R146). -/
def patchEnded (b t : Blocks) (tag : Byte) (base : BaseState) (w : PatchWork) (result : OpResult)
    (start : Nat) : Prop :=
  t.rc.runState = base.target.1 ∧ t.rc.pauseCause = base.target.2 ∧ t.rc.op = none
    ∧ t.rc.stop = none ∧ t.rc.change = none
    ∧ t.rc.opRecord = ⟨some .patch, tag, some result, OpFailures.none, b.rc.opRecord.counter + 1⟩
    ∧ t.fc = { b.fc with offPosition := true } ∧ (∀ h : HeadId, (t.hu.get h).rest = false)
    ∧ (∀ h : HeadId, h ≠ w.head → t.rt.get h = b.rt.get h)
    ∧ t.rt.get w.head = shrunk w start (b.rt.get w.head)

/-- What a STOP_ALL makes of a patch run, by its stage: `w` carries the causes with FAULT, and the break
start of a THREAD_BREAK (R144). -/
def patchStopsAll (b t : Blocks) (tag : Byte) (base : BaseState) (w : PatchWork) : Prop :=
  let rc' := { b.rc with op := some ⟨tag, base, .patch w⟩ }
  let travels := ∃ asked, b.fc.move = some ⟨.patchTravel, asked⟩
  let turns := b.sc.state ∈ [.turning, .stopping]
  (travels → ¬ (axesReady b ∧ b.fc.stopAsked = false) →
    t.rc = rc' ∧ t.sc = b.sc ∧ t.fc = { b.fc with move := some ⟨.patchTravel, true⟩ })
  ∧ (travels → axesReady b → b.fc.stopAsked = false →
    patchEnded { b with fc.move := none } t tag base w .failed (failedStart w) ∧ t.sc = b.sc)
  ∧ (∀ x, ¬ travels → b.rc.change = some x →
    t.rc = { rc' with change := some { x with stopAll := true } } ∧ t.sc = b.sc ∧ t.fc = b.fc)
  ∧ (¬ travels → b.rc.change = none →
    (turns → t.rc = rc' ∧ t.fc = b.fc ∧ t.sc = { b.sc with state := .stopping })
    ∧ (¬ turns → b.rc.stop ≠ none ∨ b.fc.busy = true → t.rc = rc' ∧ t.fc = b.fc ∧ t.sc = b.sc)
    ∧ (¬ turns → b.rc.stop = none → b.fc.busy = false →
      patchEnded b t tag base w .failed (failedStart w) ∧ t.sc = b.sc))

end Sys2Proof.Claims

/-- Closing an open range at the sew point: it ends at S, or is removed when it would hold nothing;
closed ranges stay, and E and the other heads' lists with them, when the range stays. A fault that names
a head is answered with ISOLATE when every test of R134 holds, and with STOP_ALL otherwise. ISOLATE
opens a range, which absorbs those ending above its start, and makes the head ISOLATED with its fault
flag set; in ENDED the range closes at once at the END record. STOP_ALL sets the flag and meets the run
by its state: in TRAVEL the travel is stopped, or counts as completed, and in PATCH it meets the patch run
by its stage, ending it at rest. A fault of a head whose flag is set already writes its entry and changes
nothing more. That a head which is ISOLATED already, its flag cleared, absorbs its open range is log 16;
that stopped travel stays in TRAVEL is log 12; that axes with their last steps issued count as completed
is log 14; that a cause in a patch run at rest waits for the resolution is log 33; the break start of a
patch that ends FAILED is log 35. -/
def Obligations.AnOpenRangeClosesAtTheSewPoint : Prop :=
  (∀ (h : HeadId) (a sew : Nat) (l : List Range) (b : Blocks), b.rt.get h = l ++ [⟨a, none⟩] →
    (∀ r ∈ l, r.b ≠ none) →
    (b.closeRange h sew).rt.get h = (if a < sew then l ++ [⟨a, some sew⟩] else l)
    ∧ (∀ g : HeadId, g ≠ h → (b.closeRange h sew).rt.get g = b.rt.get g)
    ∧ (a < sew → (b.closeRange h sew).e = b.e ∧ (b.closeRange h sew).ds = b.ds))
  ∧ (∀ (b : Blocks) (h : HeadId) (c : Condition), policyFault b h c →
    let a := rangeStart b c
    let kept := keptRanges b h a
    let t := b.take c
    (isolates b h c → b.action c = .isolate) ∧ (¬ isolates b h c → b.action c = .stopAll)
    ∧ t.fl = b.fl.write (b.entry c)
    ∧ ((b.hu.get h).faultFlag = true →
        t.rt = b.rt ∧ t.hu = b.hu ∧ t.rc = b.rc ∧ t.sc = b.sc ∧ t.ru.heads = b.ru.heads)
    ∧ ((b.hu.get h).faultFlag = false → isolates b h c →
        t.rc = b.rc ∧ t.sc = b.sc ∧ t.fc = b.fc
        ∧ (∀ g : HeadId, g ≠ h → t.rt.get g = b.rt.get g)
        ∧ (t.ru.heads.get h).flags = (b.ru.heads.get h).flags ||| 0b0001#4
        ∧ t.hu = b.hu.set h { b.hu.get h with
            state := if b.rc.runState = .ended then .standby else .isolated, faultFlag := true }
        ∧ ∃ m, leastStart (b.rt.get h) a m
          ∧ t.rt.get h =
            (if b.rc.runState = .ended then
              (if m < b.ds.load - 1 then kept ++ [⟨m, some (b.ds.load - 1)⟩] else kept)
             else kept ++ [⟨m, none⟩]))
    ∧ ((b.hu.get h).faultFlag = false → ¬ isolates b h c → b.rc.runState ≠ .patch →
        b.patchWork = none →
        t.rt = b.rt ∧ t.hu = b.hu.set h { b.hu.get h with faultFlag := true }
        ∧ (t.ru.heads.get h).flags = (b.ru.heads.get h).flags ||| 0b0010#4
        ∧ (b.rc.runState = .running → t.rc.runState = .stopping ∧ t.rc.causes.fault = true
            ∧ (b.sc.state = .turning → t.sc = { b.sc with state := .stopping }))
        ∧ (b.rc.runState = .stopping →
            t.rc = { b.rc with causes := ⟨b.rc.causes.host, true⟩ } ∧ t.sc = b.sc)
        ∧ (b.rc.runState = .held →
            t.rc = { b.rc with runState := .paused, pauseCause := some .fault } ∧ t.sc = b.sc)
        ∧ (∀ x, b.rc.runState = .changing → b.rc.change = some x →
            t.rc = { b.rc with change := some { x with stopAll := true } })
        ∧ (runIsOf b [.idle, .paused, .ended, .halted] → t.rc = b.rc ∧ t.sc = b.sc)
        ∧ (b.rc.runState = .travel → t.sc = b.sc
            ∧ (axesReady b → b.fc.stopAsked = false →
                t.fc = { b.fc with move := none, offPosition := false }
                ∧ t.rc = { b.rc with
                    runState := .paused, pauseCause := some .fault
                    resume := none, causes := ⟨false, false⟩ })
            ∧ (∀ m, ¬ (axesReady b ∧ b.fc.stopAsked = false) → b.fc.move = some m →
                t.fc = { b.fc with move := some { m with stopAsked := true } }
                ∧ t.rc = { b.rc with causes := ⟨b.rc.causes.host, true⟩ })))
    ∧ (∀ tag base w, (b.hu.get h).faultFlag = false → b.rc.runState = .patch →
        b.rc.op = some ⟨tag, base, .patch w⟩ →
        let w' : PatchWork := { w with
          causes := ⟨w.causes.host, true⟩
          breakStart := match c with
            | .threadBreak g _ _ _ a => if g = w.head then some a else w.breakStart
            | _ => w.breakStart }
        (t.hu.get h).faultFlag = true
          ∧ (t.ru.heads.get h).flags = (b.ru.heads.get h).flags ||| 0b0010#4
          ∧ patchStopsAll b t tag base w'))

/-- REJOIN of an ISOLATED head with its selector AT(n), in PAUSED: its range closes, its fault flag is
cleared and it is SEWING; HLEAVE leads it out as STANDBY with its flag kept, in PAUSED too. -/
def Obligations.IsolatedHeadsReturnOrLeave : Prop :=
  ∀ (tag : Byte) (h : HeadId) (needle : Nat) (s : State), s.linkFree → s.blk.cf.lock = true →
    h.num ≤ s.blk.cf.config.headCount → (s.blk.hu.get h).state = .isolated →
    s.blk.rc.runState = .paused →
    ((s.blk.hu.get h).selector = .atNeedle needle →
      let b' := withHead (s.blk.closeRange h s.blk.ds.sew) h
        { s.blk.hu.get h with state := .sewing, faultFlag := false }
      exec (.rejoin tag [numByte h]) s = .next (answered s 0x38#8 tag
        (b', 0x00#8 :: enc8 (b'.rt.get h).length ++ b'.eBytes)))
    ∧ ((s.blk.hu.get h).selector.lost = true →
      exec (.rejoin tag [numByte h]) s = .next (answered s 0x38#8 tag (refused s.blk 0x04#8)))
    ∧ (s.blk.sc.cycle = none →
      exec (.hleave tag [numByte h]) s = .next (answered s 0x2B#8 tag
        (withMonitor (withHead (s.blk.closeRange h s.blk.ds.sew) h
            { s.blk.hu.get h with state := .standby }) h
          { s.blk.tm.get h with state := .off, k := 0, bigK := 0 }, [0x00#8])))

/-- RREAD reads a head's list and E; RDROP removes one closed range, and refuses an open one with STATE
and a position with no range with NO_RANGE. -/
def Obligations.RangesAreReadAndDropped : Prop :=
  ∀ (tag : Byte) (h : HeadId) (r : Nat) (s : State), s.linkFree → s.blk.cf.lock = true →
    h.num ≤ s.blk.cf.config.headCount → (s.blk.hu.get h).state ≠ .off → 1 ≤ r → r ≤ 8 →
    exec (.rread tag [numByte h]) s = .next (answered s 0x39#8 tag (s.blk,
      0x00#8 :: enc8 (s.blk.rt.get h).length
        ++ (s.blk.rt.get h).zipIdx.flatMap (fun x =>
            enc8 (x.2 + 1) ++ enc32 x.1.a ++ enc32 (x.1.b.getD 0))
        ++ s.blk.eBytes))
    ∧ ((s.blk.rt.get h).length < r → exec (.rdrop tag ([numByte h] ++ enc8 r)) s
        = .next (answered s 0x3A#8 tag (refused s.blk 0x1B#8)))
    ∧ (∀ a, (s.blk.rt.get h)[r - 1]? = some ⟨a, none⟩ →
        exec (.rdrop tag ([numByte h] ++ enc8 r)) s
          = .next (answered s 0x3A#8 tag (refused s.blk 0x04#8)))
    ∧ (∀ a b, (s.blk.rt.get h)[r - 1]? = some ⟨a, some b⟩ → s.blk.patchWork = none →
        let b' := s.blk.setRanges (s.blk.rt.set h ((s.blk.rt.get h).eraseIdx (r - 1)))
        exec (.rdrop tag ([numByte h] ++ enc8 r)) s = .next (answered s 0x3A#8 tag
          (b', 0x00#8 :: enc8 (b'.rt.get h).length ++ b'.eBytes)))

/-- PATCH of a closed range of a fit head, with the frame off the range's start: the patch run holds
the range with p at its start and the slot before it, the other configured heads rest, and patch travel
is in flight; S and the slot in effect stay. -/
def Obligations.PatchTravelsToTheRange : Prop :=
  ∀ (tag : Byte) (h : HeadId) (r a b needle : Nat) (p : Pos) (s : State), s.linkFree →
    s.blk.cf.lock = true → h.num ≤ s.blk.cf.config.headCount →
    runIsOf s.blk [.paused, .ended] → 1 ≤ r → r ≤ 8 →
    (s.blk.rt.get h)[r - 1]? = some ⟨a, some b⟩ →
    ((s.blk.hu.get h).state = .sewing ∨ (s.blk.hu.get h).state = .standby) →
    (s.blk.hu.get h).faultFlag = false → (s.blk.hu.get h).selector = .atNeedle needle →
    s.blk.sc.state = .stopped → axesReady s.blk → s.blk.ds.posBefore a = some p →
    standsOff s.blk (s.blk.fc.origin.add p) →
    exec (.patch tag ([numByte h] ++ enc8 r)) s = .next (answered s 0x3B#8 tag
      ({ inState { s.blk with rc.op := some ⟨tag, s.blk.baseState,
            .patch ⟨h, a, b, a, s.blk.ds.slotBefore a, ⟨false, false⟩, none⟩⟩ } .patch none with
          hu := Eight.tabulate (fun g =>
            if g.num ≤ s.blk.cf.config.headCount ∧ g ≠ h then { s.blk.hu.get g with rest := true }
            else s.blk.hu.get g)
          fc := frameSent s.blk.fc .patchTravel (s.blk.fc.origin.add p) }, [0x00#8]))

/-! ## The fault log -/

/-- FREAD, CREAD and CREL: the log and the capture are read as they stand, and CREL empties the capture
alone. FDROP: the n oldest entries are removed and the overflow indicator cleared, when the oldest
carries the sequence number given. -/
def Obligations.TheLogAndTheCaptureAreRead : Prop :=
  (∀ (tag m : Byte) (s : State), s.linkFree →
    exec (.fread tag [m]) s = .next (answered s 0x40#8 tag
      (if m.toNat < 1 ∨ 4 < m.toNat then refused s.blk 0x03#8
       else (s.blk, 0x00#8 :: enc8 s.blk.fl.log.length
          ++ [if s.blk.fl.overflow then 1#8 else 0#8] ++ enc32 s.blk.fl.nextSeq.toNat
          ++ (s.blk.fl.log.take m.toNat).flatMap Entry.bytes)))
    ∧ exec (.cread tag []) s = .next (answered s 0x42#8 tag (s.blk,
        match s.blk.fl.capture with
        | some e => 0x00#8 :: 1#8 :: e.bytes
        | none => [0x00#8, 0#8]))
    ∧ exec (.crel tag []) s = .next (answered s 0x43#8 tag
        (if s.blk.cf.lock = false then refused s.blk 0x05#8
         else ({ s.blk with fl.capture := none }, [0x00#8]))))
  ∧ (∀ (tag n : Byte) (q : Nat) (s : State), s.linkFree → q < 4294967296 →
    exec (.fdrop tag (n :: enc32 q)) s = .next (answered s 0x41#8 tag
      (if s.blk.cf.lock = false then refused s.blk 0x05#8
       else if n.toNat < 1 ∨ 32 < n.toNat then refused s.blk 0x03#8
       else if s.blk.fl.log = [] then refused s.blk 0x19#8
       else if s.blk.fl.log.length < n.toNat then refused s.blk 0x03#8
       else if s.blk.fl.log.head?.map (fun e => e.seq.toNat) ≠ some q then refused s.blk 0x04#8
       else
        let rest := s.blk.fl.log.drop n.toNat
        ({ s.blk with fl.log := rest, fl.overflow := false },
          0x00#8 :: enc8 rest.length
            ++ (match rest with
                | e :: _ => 1#8 :: enc32 e.seq.toNat
                | [] => [0#8, 0#8, 0#8, 0#8, 0#8])))))

/-- Writing an entry: it takes the counter's value, a full log loses its oldest and says so, and an
unlocked capture copies it. The entry of a condition carries the kind, the action decided, and the run
state and the cycle count as they stand; FAULT is raised, and the counts of the head it names are 0. -/
def Obligations.AnEntryIsWritten : Prop :=
  (∀ (b : Blocks) (c : Condition),
    let e := b.entry c
    let t := b.writeEntry c
    e.seq = b.fl.nextSeq ∧ e.kind = c.kind ∧ e.action = b.action c ∧ e.head = c.head
    ∧ e.runState = b.rc.runState ∧ e.cycleCount = b.sc.cycleCount
    ∧ t.fl = b.fl.write e ∧ t.fl.log.getLast? = some e ∧ t.fl.nextSeq = e.seq + 1
    ∧ t.ru = { b.ru with pend := b.ru.pend ||| (0b000001#6 &&& ~~~b.ru.kindMask) }
    ∧ (∀ h : HeadId, t.tm.get h =
        if c.head = some h then { b.tm.get h with low := 0, high := 0, breakStart := none }
        else b.tm.get h))
  ∧ ∀ (f : Fl) (e : Entry),
    (f.log.length < 32 → (f.write e).log = f.log ++ [e] ∧ (f.write e).overflow = f.overflow)
    ∧ (32 ≤ f.log.length →
        (f.write e).log = f.log.drop 1 ++ [e] ∧ (f.write e).overflow = true)
    ∧ (f.write e).nextSeq = f.nextSeq + 1
    ∧ (f.capture = none → (f.write e).capture = some e)
    ∧ (∀ c, f.capture = some c → (f.write e).capture = some c)

/-! ## The machine's events -/

namespace Sys2Proof.Claims

/-- The entry of a condition that names no head (R156); its slot in PATCH, where that is the slot in
effect, is log 38. -/
def entryOf (b : Blocks) (kind : FaultKind) (action : Action) (part : Option Part)
    (index : Option Nat) : Entry :=
  { seq := b.fl.nextSeq, kind := kind, action := action, runState := b.rc.runState
    cycleCount := b.sc.cycleCount, part := part, head := none, needle := none
    slot := b.rc.slotInEffect, index := if b.ds.channel = .closed then none else index
    breakStart := none, frameX := axisAt b.fc.x, frameY := axisAt b.fc.y }

/-- The shaft OFF (R64, R48). -/
def shaftOff (s : Sc) : Sc :=
  { s with state := .off, angle := none, plan := none, cycle := none, demanded := 0, previous := 0,
           measured := 0, stallTimer := none }

/-- The shaft STOPPED at count 0 (R48, R57). -/
def shaftAtRest (s : Sc) : Sc :=
  { s with state := .stopped, angle := some 0, plan := none, cycle := none, demanded := 0,
           previous := 0, measured := 0, stallTimer := none }

/-- What the halt makes of every block, from `b` to `t` (R153, and the rules it names). -/
def halted (b t : Blocks) : Prop :=
  t.rc.runState = .halted ∧ t.rc.pauseCause = none ∧ t.rc.causes = ⟨false, false⟩
    ∧ t.rc.resume = none ∧ t.rc.stop = none ∧ t.rc.change = none ∧ t.rc.op = none
    ∧ t.rc.runExists = b.rc.runExists ∧ t.rc.slotInEffect = b.rc.slotInEffect
    ∧ (b.rc.op = none → t.rc.opRecord = b.rc.opRecord)
    ∧ (∀ op, b.rc.op = some op → t.rc.opRecord =
        ⟨some op.work.kind, op.tag, some .halted, OpFailures.none, b.rc.opRecord.counter + 1⟩)
    ∧ t.sc = shaftOff b.sc
    ∧ t.fc.x = haltedAxis b.fc.x ∧ t.fc.y = haltedAxis b.fc.y ∧ t.fc.move = none
    ∧ t.fc.waiting = [] ∧ t.fc.hoops = b.fc.hoops ∧ t.fc.active = b.fc.active
    ∧ t.fc.origin = b.fc.origin
    ∧ (∀ h : HeadId,
        { t.hu.get h with rest := (b.hu.get h).rest } =
          { b.hu.get h with
            trimmer := false, footDown := false, engaged := false, takesPart := false
            selTimer := none
            selector := if (b.hu.get h).selector.busy then .unknown else (b.hu.get h).selector }
        ∧ t.tm.get h = { b.tm.get h with window := none })
    ∧ t.cf = b.cf ∧ t.tp = b.tp ∧ t.pins = b.pins ∧ t.ds.sew = b.ds.sew ∧ t.ds.load = b.ds.load
    ∧ t.ds.channel = b.ds.channel ∧ t.ru.heads = b.ru.heads ∧ t.ru.kindMask = b.ru.kindMask
    ∧ ((∀ op w, b.rc.op = some op → op.work ≠ .patch w) →
        t.rt = b.rt ∧ t.ds = b.ds ∧ t.fc.offPosition = b.fc.offPosition
          ∧ ∀ h : HeadId, (t.hu.get h).rest = (b.hu.get h).rest)
    ∧ (∀ tag base w, b.rc.op = some ⟨tag, base, .patch w⟩ →
        t.fc.offPosition = true ∧ (∀ h : HeadId, (t.hu.get h).rest = false)
          ∧ (∀ h : HeadId, h ≠ w.head → t.rt.get h = b.rt.get h)
          ∧ t.rt.get w.head = shrunk w w.p (b.rt.get w.head))

/-- An event raises a fault whose action is HALT: `b` is the state it finds, `e` the entry. -/
def haltsWith (i : Instr) (s : State) (b : Blocks) (e : Entry) : Prop :=
  ∃ t : State, exec i s = .next t ∧ t.pl = s.pl ∧ t.pending = s.pending ∧ halted b t.blk
    ∧ t.blk.fl = b.fl.write e
    ∧ t.blk.ru.pend &&& (0b000001#6 &&& ~~~b.ru.kindMask) = 0b000001#6 &&& ~~~b.ru.kindMask

/-- The blocks are replaced. -/
def withBlocks (s : State) (b : Blocks) : State := { s with blk := b }

end Sys2Proof.Claims

/-- E-STOP: a change of the input starts the filter of the present state, or ends it; an assertion is
recognised at once before configuration with no halt, and after it with an entry and the halt; a
release is recognised as such. An event whose filter does not run changes nothing (log 5). That the entry
carries S and the slot in effect also in PATCH is log 38. -/
def Obligations.EstopIsRecognisedAndReleased : Prop :=
  ∀ s : State,
    (∀ a : Bool, exec (.estopInputChange a) s = .next
      { s with blk.pins.estop := a
               blk.fl.assertTiming := !s.blk.fl.estop && a
               blk.fl.releaseTiming := s.blk.fl.estop && !a })
    ∧ (s.blk.fl.assertTiming = false → exec .estopRecognised s = .next s)
    ∧ (s.blk.fl.assertTiming = true → s.blk.cf.lock = false → exec .estopRecognised s = .next
        { s with blk.fl.estop := true, blk.fl.assertTiming := false })
    ∧ (s.blk.fl.assertTiming = true → s.blk.cf.lock = true → s.blk.fl.waiting = [] →
        let b : Blocks := { s.blk with fl.estop := true, fl.assertTiming := false }
        haltsWith .estopRecognised s b (entryOf b .estop .halt none (some b.ds.sew)))
    ∧ (s.blk.fl.releaseTiming = true → exec .estopReleaseRecognised s = .next
        { s with blk.fl.estop := false, blk.fl.releaseTiming := false })
    ∧ (s.blk.fl.releaseTiming = false → exec .estopReleaseRecognised s = .next s)

/-- The drive demand output is disabled in OFF, holds in STOPPED and drives at the demanded speed in the
turning states. SHAFT_STALL: the stall timer's expiry while the shaft is driven, and the 1,024th count
without an index in TURNING and STOPPING, write an entry naming the shaft and halt the part; in other
states these events change nothing (log 5). That the entry carries the slot in effect also in PATCH is
log 38. -/
def Obligations.ShaftFaultsHaltThePart : Prop :=
  (∀ c : Sc, (c.state = .off → c.driveDemand = .disabled) ∧ (c.state = .stopped → c.driveDemand = .hold)
    ∧ (c.state ∈ [.finding, .turning, .stopping] → c.driveDemand = .turn c.demanded))
  ∧ ∀ s : State, s.blk.fl.waiting = [] →
    let e := entryOf s.blk .shaftStall .halt (some .shaft) (s.blk.sc.cycle.map (·.index))
    (s.blk.sc.state ∈ [.finding, .turning, .stopping] → s.blk.sc.stallTimer ≠ none →
      haltsWith .stallTimerExpiry s s.blk e)
    ∧ (s.blk.sc.state ∈ [.off, .stopped] → exec .stallTimerExpiry s = .next s)
    ∧ (s.blk.sc.state ∈ [.turning, .stopping] → s.blk.sc.angle = some 1023 →
      haltsWith .angleCountOverflow s s.blk e ∧ haltsWith .encoderCount s s.blk e)
    ∧ (s.blk.sc.state ∉ [.turning, .stopping] ∨ s.blk.sc.angle ≠ some 1023 →
      exec .angleCountOverflow s = .next s)

/-- An encoder count: none in OFF; the angle grows by one, up to 1,023; at the entry angle the entry
event is given, once a cycle, and a STITCH whose move has not completed then raises MOVE_LATE; at the
trim angle of a TRIM the trimmers of the heads that take part fire and those heads owe a settle.
That the angle stays at 1,023 in STOPPED is log 21. -/
def Obligations.EncoderCountsMoveTheAngle : Prop :=
  ∀ s : State,
    (s.blk.sc.state = .off → exec .encoderCount s = .next s)
    ∧ (∀ a, s.blk.sc.state = .stopped → s.blk.sc.angle = some a →
        exec .encoderCount s = .next { s with blk.sc.angle := some (min 1023 (a + 1)) })
    ∧ (∀ a, s.blk.sc.state = .finding → s.blk.sc.angle = some a → a < 1023 →
        exec .encoderCount s = .next { s with blk.sc.angle := some (a + 1) })
    ∧ (∀ a c, s.blk.sc.state ∈ [.turning, .stopping] → s.blk.sc.angle = some a → a < 1023 →
        s.blk.sc.cycle = some c →
        (a + 1 ≠ s.blk.cf.config.entryAngle ∨ c.entryGiven = true →
          a + 1 ≠ s.blk.cf.config.trimAngle ∨ c.kind ≠ .trim ∨ c.trimGiven = true →
          exec .encoderCount s = .next { s with blk.sc.angle := some (a + 1) })
        ∧ (a + 1 = s.blk.cf.config.entryAngle → c.entryGiven = false →
          c.kind ≠ .stitch ∨ s.blk.fc.notDone c.index = false →
          exec .encoderCount s = .next
            { s with blk.sc.angle := some (a + 1), blk.sc.cycle := some { c with entryGiven := true } })
        ∧ (a + 1 = s.blk.cf.config.entryAngle → c.entryGiven = false → c.kind = .stitch →
          s.blk.fc.notDone c.index = true → s.blk.fl.waiting = [] →
          s.blk.rc.runState = .running → s.blk.sc.state = .turning → s.blk.patchWork = none →
          ∃ t : State, exec .encoderCount s = .next t
            ∧ t.blk.sc = { s.blk.sc with angle := some (a + 1), state := .stopping
                                         cycle := some { c with entryGiven := true } }
            ∧ t.blk.rc.runState = .stopping ∧ t.blk.rc.causes.fault = true
            ∧ t.blk.fl = s.blk.fl.write (entryOf s.blk .moveLate .stopAll none (some c.index))
            ∧ t.blk.fc = s.blk.fc ∧ t.blk.hu = s.blk.hu ∧ t.blk.ds = s.blk.ds
            ∧ t.blk.tm = s.blk.tm ∧ t.blk.rt = s.blk.rt)
        ∧ (a + 1 = s.blk.cf.config.trimAngle → c.kind = .trim → c.trimGiven = false →
          a + 1 ≠ s.blk.cf.config.entryAngle ∨ c.entryGiven = true →
          exec .encoderCount s = .next
            { s with
              blk.sc.angle := some (a + 1)
              blk.sc.cycle := some { c with trimGiven := true }
              blk.hu := Eight.tabulate (fun h =>
                if (s.blk.hu.get h).takesPart then { s.blk.hu.get h with trimmer := true }
                else s.blk.hu.get h)
              blk.tm := Eight.tabulate (fun h =>
                if (s.blk.hu.get h).takesPart then { s.blk.tm.get h with owed := true }
                else s.blk.tm.get h) }))

namespace Sys2Proof.Claims

/-- Every selector homing and both axes have an outcome (R87). -/
def allHomed (w : HomeWork) : Prop :=
  w.second = true ∧ w.await = Eight.const false ∧ w.xOutcome ≠ none ∧ w.yOutcome ≠ none

/-- HOME has ended: its result names its failures, and the run state is that of the table of R88. -/
def homeEnded (b t : Blocks) (tag : Byte) (base : BaseState) (w : HomeWork) : Prop :=
  let fails (o : Option AxisOutcome) : Bool := decide (o ∈ [some .homeFail, some .driveFault])
  let f : OpFailures := ⟨false, fails w.xOutcome, fails w.yOutcome, w.failed⟩
  let recovers := base = .halted ∧ b.sc.state = .stopped ∧ axesReady b
  t.rc.op = none
    ∧ t.rc.opRecord = ⟨some .home, tag, some (if f = OpFailures.none then .ok else .failed), f,
        b.rc.opRecord.counter + 1⟩
    ∧ (base ≠ .halted → t.rc.runState = base.target.1 ∧ t.rc.pauseCause = base.target.2
        ∧ t.fc = b.fc)
    ∧ (recovers → b.rc.runExists = true → t.rc.runState = .paused
        ∧ t.rc.pauseCause = some .halt ∧ t.fc = { b.fc with offPosition := true })
    ∧ (recovers → b.rc.runExists = false → t.rc.runState = .idle ∧ t.rc.pauseCause = none
        ∧ t.fc = b.fc)
    ∧ (base = .halted → ¬ recovers → t.rc.runState = .halted ∧ t.rc.pauseCause = none
        ∧ t.fc = b.fc)

/-- HOME has collected one more outcome: it goes on, or ends with the last of them (R87). -/
def homeCollected (b t : Blocks) (tag : Byte) (base : BaseState) (w : HomeWork) : Prop :=
  (¬ allHomed w → t.rc = { b.rc with op := some ⟨tag, base, .home w⟩ } ∧ t.fc = b.fc)
    ∧ (allHomed w → homeEnded b t tag base w)

end Sys2Proof.Claims

/-- HOME_FAIL: the 1,024th count of a find ends HOME with FAILED naming the shaft, the shaft OFF; the
homing distance of an axis ends that axis's homing, UNHOMED, while HOME goes on for the others, or ends
with the last outcome by the table of R88. Each writes an entry. An event of a homing that is not in
progress changes nothing (log 5). -/
def Obligations.HomingFailuresAreCounted : Prop :=
  ∀ s : State, s.blk.fl.waiting = [] →
    (∀ tag base w, s.blk.sc.state = .finding → s.blk.sc.angle = some 1023 →
      s.blk.rc.op = some ⟨tag, base, .home w⟩ →
      ∃ t : State, exec .findCountsExhausted s = .next t ∧ exec .encoderCount s = .next t
        ∧ t.blk.sc = shaftOff s.blk.sc ∧ t.blk.rc.op = none
        ∧ t.blk.rc.runState = base.target.1 ∧ t.blk.rc.pauseCause = base.target.2
        ∧ t.blk.rc.opRecord = ⟨some .home, tag, some .failed,
            ⟨true, false, false, Eight.const false⟩, s.blk.rc.opRecord.counter + 1⟩
        ∧ t.blk.fl = s.blk.fl.write
            (entryOf s.blk .homeFail .failed (some .shaft) (some s.blk.ds.sew))
        ∧ t.blk.hu = s.blk.hu ∧ t.blk.fc = s.blk.fc ∧ t.blk.ds = s.blk.ds)
    ∧ (s.blk.sc.state ≠ .finding ∨ s.blk.sc.angle ≠ some 1023 →
      exec .findCountsExhausted s = .next s)
    ∧ (∀ (ax : Axis) tag base w, (s.blk.fc.axis ax).state = .homing →
      s.blk.rc.op = some ⟨tag, base, .home w⟩ → w.await ≠ Eight.const false →
      let b : Blocks := { s.blk with fc := s.blk.fc.setAxis ax ⟨.unhomed, none, none, 0⟩ }
      ∃ t : State, exec (.homingDistanceExhausted ax) s = .next t
        ∧ t.blk.fc = b.fc
        ∧ t.blk.rc.op = some ⟨tag, base, .home (w.setAxis ax .homeFail)⟩
        ∧ t.blk.rc.runState = s.blk.rc.runState ∧ t.blk.sc = s.blk.sc ∧ t.blk.hu = s.blk.hu
        ∧ t.blk.fl = s.blk.fl.write
            (entryOf b .homeFail .failed (some (partOf ax)) (some s.blk.ds.sew)))
    ∧ (∀ (ax : Axis) tag base w, (s.blk.fc.axis ax).state = .homing →
      s.blk.rc.op = some ⟨tag, base, .home w⟩ →
      let b : Blocks := { s.blk with fc := s.blk.fc.setAxis ax ⟨.unhomed, none, none, 0⟩ }
      ∃ t : State, exec (.homingDistanceExhausted ax) s = .next t
        ∧ t.blk.hu = s.blk.hu ∧ t.blk.sc = s.blk.sc
        ∧ t.blk.fl = s.blk.fl.write
            (entryOf b .homeFail .failed (some (partOf ax)) (some s.blk.ds.sew))
        ∧ homeCollected b t.blk tag base (w.setAxis ax .homeFail))
    ∧ (∀ ax : Axis, (s.blk.fc.axis ax).state ≠ .homing →
      exec (.homingDistanceExhausted ax) s = .next s)

/-- An index pulse: none in OFF; count 0 in STOPPED; the end of a find in FINDING; the end of the cycle
in progress in TURNING and STOPPING, which is counted, in whatever order FL takes its conditions (log 4).
In a run it passes the record; in a patch run p moves to the next record, past MARKs, and S stays. In
STOPPING, at no more than 200 spm, the shaft comes to rest and the stop is handed to RC, with the stop
points that stand at the next index. The end of a JUMP is the deadline of its move: MOVE_LATE, taken
then or not before the stop is resolved; a TRIM, or a JUMP whose move is done, raises nothing. -/
def Obligations.TheIndexEndsACycle : Prop :=
  ∀ (d : Nat) (s : State),
    (s.blk.sc.state = .off → exec (.indexPulse d) s = .next s)
    ∧ (s.blk.sc.state = .stopped →
        exec (.indexPulse d) s = .next { s with blk.sc.angle := some 0 })
    ∧ (s.blk.sc.state = .finding → ∃ t : State, exec (.indexPulse d) s = .next t
        ∧ t.blk.sc = shaftAtRest s.blk.sc ∧ t.blk.ds = s.blk.ds ∧ t.blk.fl = s.blk.fl)
    ∧ (∀ plan c, s.blk.sc.state ∈ [.turning, .stopping] → s.blk.sc.plan = some plan →
        s.blk.sc.cycle = some c →
        let n := c.index + 1
        let rests := s.blk.sc.state = .stopping ∧ s.blk.sc.demanded ≤ 200 ∧ s.blk.fl.waiting = []
        let rest := { shaftAtRest s.blk.sc with cycleCount := s.blk.sc.cycleCount + 1 }
        let late := { entryOf s.blk .moveLate .stopAll none (some c.index) with
          cycleCount := s.blk.sc.cycleCount + 1 }
        ∃ t : State, exec (.indexPulse d) s = .next t ∧ t.pl = s.pl ∧ t.pending = s.pending
          ∧ t.blk.sc.cycleCount = s.blk.sc.cycleCount + 1
          ∧ t.blk.ds.load = s.blk.ds.load ∧ t.blk.cf = s.blk.cf ∧ t.blk.tp = s.blk.tp
          ∧ t.blk.rc.runExists = s.blk.rc.runExists
          ∧ (plan = .run → s.blk.ds.sew < s.blk.ds.load → t.blk.ds.sew = s.blk.ds.sew + 1)
          ∧ (plan = .run → rests → runIsOf s.blk [.running, .stopping] → s.blk.patchWork = none →
              t.blk.sc = rest
                ∧ ∃ points, t.blk.rc.stop = some ⟨some c.index, n, true, points⟩
                  ∧ (c.index = s.blk.ds.sew → s.blk.ds.tail ≤ s.blk.ds.sew →
                    s.blk.ds.sew < s.blk.ds.load →
                    points.color = s.blk.ds.hasKind n .color
                    ∧ points.mark = s.blk.ds.hasKind n .mark
                    ∧ points.endRec = s.blk.ds.hasKind n .endDesign
                    ∧ points.endOfPending
                      = decide (n = s.blk.ds.load ∧ s.blk.ds.channel ≠ .finished)
                    ∧ points.rangeEnd = false
                    ∧ (c.kind ≠ .stitch ∨ s.blk.cf.settings.policy = .stopAll →
                      points.pin = decide (s.blk.pinStop = some n))))
          ∧ (∀ tag base w, plan = .patch w.b → s.blk.rc.op = some ⟨tag, base, .patch w⟩ →
              s.blk.rc.runState = .patch → s.blk.fl.waiting = [] →
              (∀ asked, s.blk.fc.move ≠ some ⟨.patchTravel, asked⟩) → s.blk.rc.change = none →
              t.blk.ds = s.blk.ds ∧ t.blk.rt = s.blk.rt
                ∧ ∃ w' : PatchWork, t.blk.rc.op = some ⟨tag, base, .patch w'⟩
                  ∧ w'.head = w.head ∧ w'.a = w.a ∧ w'.b = w.b ∧ w'.slot = w.slot
                  ∧ w'.p = s.blk.pastMarks w.b n
                  ∧ (rests → t.blk.sc = rest ∧ t.blk.rc.stop
                      = some ⟨some c.index, w'.p, true, s.blk.points plan w'.p⟩))
          ∧ (plan = .run → c.kind = .jump → s.blk.fc.notDone c.index = true →
              s.blk.fl.waiting = [] → runIsOf s.blk [.running, .stopping] →
              s.blk.patchWork = none →
              (t.blk.fl = s.blk.fl.write late ∧ t.blk.rc.causes.fault = true)
              ∨ (t.blk.sc.state = .stopped ∧ t.blk.fl = { s.blk.fl with
                  waiting := [.moveLate s.blk.rc.slotInEffect c.index (axisAt s.blk.fc.x)
                    (axisAt s.blk.fc.y)] }))
          ∧ (c.kind ≠ .stitch → (c.kind = .jump → s.blk.fc.notDone c.index = false) →
              s.blk.fl.waiting = [] → t.blk.fl = s.blk.fl))

namespace Sys2Proof.Claims

/-- A head takes part in a cycle that starts now (R93). -/
def takesIn (b : Blocks) (plan : PlanMode) (h : HeadId) : Bool :=
  match plan with
  | .run => decide (h.num ≤ b.cf.config.headCount ∧ (b.hu.get h).state = .sewing
      ∧ (b.hu.get h).rest = false)
  | .patch _ => decide (b.patchWork.map (·.head) = some h)

/-- A monitor at a cycle start: a settle begins on one that owes it or is OFF, the counting window of a
STITCH opens, and that of a head which does not take part is OFF (R116, R118, R121). -/
def monitorStarted (m : Monitor) (code : Nat) (part : Bool) (window : Option Window) : Monitor :=
  let k := [0, 1, 2, 3, 4, 6, 8, 12].getD code 12
  if part then
    if m.owed = true ∨ m.state = .off then
      { m with owed := false, low := 0, high := 0, breakStart := none, k := 0, bigK := k
               state := if 0 < k then .settling else .armed, window := window }
    else { m with window := window }
  else { m with state := .off, k := 0, bigK := 0 }

/-- What a cycle start makes of the heads, the monitors and the frame (R50, R111, R118, R121). -/
def cycleStarts (b t : Blocks) (plan : PlanMode) (i : Nat) (r : StoredRecord) : Prop :=
  (∀ h : HeadId,
    t.hu.get h = { b.hu.get h with
      takesPart := takesIn b plan h, footDown := takesIn b plan h
      engaged := takesIn b plan h && decide (r.kind = .stitch) }
    ∧ t.tm.get h = monitorStarted (b.tm.get h) b.cf.settings.settleCode (takesIn b plan h)
        (if r.kind = .stitch then some ⟨0, classOf r.dx r.dy⟩ else none))
  ∧ t.fc = (if r.kind = .stitch ∨ r.kind = .jump then
      b.fc.cycleMove i (b.fc.origin.add r.relAfter) else b.fc)

end Sys2Proof.Claims

/-- The speed of a cycle is the least of its terms. The decision at a cycle's end: the next cycle at
the planned speed, in STOPPING stepping down by at least 200 spm, or the shaft at rest, every foot up,
where no cycle may follow; a patch run passes MARKs. A start request is answered by its first test that
fails, naming the shaft state or the stop points, and a cycle start sets feet, needle bars, settles and
windows. RC enters RUNNING on STARTED, resolves AT_STOP, and pauses on the other answers; a RUN from
IDLE or PAUSED first gives every participating head a settle. The angle stays as it is (log 31). The
move of a cycle begins at once where the frame is at rest, and waits behind the others where a move is in
flight; one in flight is until its completion is taken (log 14). -/
def Obligations.TheNextCycleIsPlanned : Prop :=
  (∀ (b : Blocks) (plan : PlanMode) (i : Nat) (r : StoredRecord),
    let v := b.planSpeed plan i r
    let cls := max r.dx.natAbs r.dy.natAbs
    let terms : List (Bool × Nat) :=
      [(true, b.cf.settings.hostSpeed), (true, b.sc.previous + 200), (true, 200 * b.planK plan i),
       (decide (r.kind = .stitch ∧ 30 < cls ∧ cls ≤ 70), b.cf.settings.mediumCap),
       (decide (r.kind = .stitch ∧ 70 < cls), b.cf.settings.longCap),
       (decide (r.kind = .jump), b.cf.settings.jumpCap),
       (decide (r.kind = .trim), 200),
       (Id8.all.any (fun h => b.partakes plan h
          && (b.tm.get h).countsAsSettling b.cf.settings.settleCode), b.cf.settings.startSpeed)]
    (∀ x ∈ terms, x.1 = true → v ≤ x.2) ∧ ∃ x ∈ terms, x.1 = true ∧ v = x.2)
  ∧ (∀ (b : Blocks) (plan : PlanMode) (c : Cycle),
    let i := c.index + 1
    let j := b.cycleIndex plan i
    let t := b.decideNext plan c
    ((b.sc.state = .stopping ∧ b.sc.previous ≤ 200) ∨ b.planK plan i = 0 →
      t.sc = shaftAtRest b.sc ∧ t.fc = b.fc ∧ t.ds = b.ds ∧ t.tm = b.tm
        ∧ (∀ h : HeadId, t.hu.get h = { b.hu.get h with
            trimmer := false, footDown := false, engaged := false, takesPart := false })
        ∧ t.rc = { b.rc with stop := some ⟨some c.index, j, decide (b.sc.state = .stopping),
            b.points plan j⟩ })
    ∧ (∀ r, ¬ (b.sc.state = .stopping ∧ b.sc.previous ≤ 200) → b.planK plan i ≠ 0 →
      b.ds.record j = some r →
      t.sc = { b.sc with
        demanded := if b.sc.state = .stopping then
            min (b.planSpeed plan i r) (b.sc.previous - 200) else b.planSpeed plan i r
        cycle := some ⟨j, r.kind, false, false⟩ }
      ∧ t.rc = b.rc ∧ t.ds = b.ds ∧ cycleStarts b t plan j r))
  ∧ (∀ (b : Blocks) (i : Nat), b.cycleIndex .run i = i
    ∧ ∀ e, let j := b.cycleIndex (.patch e) i
      i ≤ j ∧ (i ≤ e → j ≤ e) ∧ (∀ k, i ≤ k → k < j → b.ds.hasKind k .mark = true)
        ∧ (j < e → b.ds.hasKind j .mark = false))
  ∧ (∀ (b : Blocks) (plan : PlanMode) (i : Nat),
    let j := b.cycleIndex plan i
    let r := b.startRequest plan i
    (b.sc.state ≠ .stopped → r = (b, .notReady b.sc.state))
    ∧ (b.sc.state = .stopped →
      (b.selectorMoving = true → r = (b, .selectorBusy))
      ∧ (b.selectorMoving = false → (¬ axesReady b ∨ b.fc.busy = true) → r = (b, .frameNotReady))
      ∧ (b.selectorMoving = false → axesReady b → b.fc.busy = false →
        (b.planK plan i = 0 → r = (b, .atStop (b.points plan i)))
        ∧ (∀ x, b.planK plan i ≠ 0 → b.ds.record j = some x →
          r.2 = .started
          ∧ r.1.sc = { b.sc with
              state := .turning, plan := some plan, previous := 0
              stallTimer := some b.cf.settings.stallTime
              demanded := ({ b with sc.previous := 0 } : Blocks).planSpeed plan i x
              cycle := some ⟨j, x.kind, false, false⟩ }
          ∧ r.1.rc = b.rc ∧ r.1.ds = b.ds ∧ cycleStarts b r.1 plan j x))))
  ∧ (∀ b : Blocks,
    let r := b.startRequest .run b.ds.sew
    (b.rc.resume = none →
      (r.2 = .started → b.startPhase = (inState r.1 .running none, none))
      ∧ (∀ p, r.2 = .atStop p → b.startPhase = (b, some (.resolve ⟨false, false⟩ p)))
      ∧ (r.2 ≠ .started → (∀ p, r.2 ≠ .atStop p) →
        b.startPhase = (inState b .paused (some .host), none)))
    ∧ (b.rc.resume ≠ none → b.startPhase = ({ b with
        rc.resume := none
        tm := Eight.tabulate (fun h =>
          if takesIn b .run h then { b.tm.get h with owed := true } else b.tm.get h) } :
      Blocks).startPhase))
  ∧ (∀ (f : Fc) (i : Nat) (p : Pos),
    (f.x.state = .ready → f.y.state = .ready → f.move = none → f.waiting = [] →
      (f.x.pos ≠ some p.x ∨ f.y.pos ≠ some p.y → f.cycleMove i p = frameSent f (.cycle i) p)
      ∧ (f.x.pos = some p.x → f.y.pos = some p.y → f.cycleMove i p = f))
    ∧ (f.x.state ≠ .ready ∨ f.y.state ≠ .ready ∨ f.move ≠ none →
      f.cycleMove i p = { f with waiting := f.waiting ++ [⟨i, p⟩] }))

namespace Sys2Proof.Claims

/-- What identifies a condition and the entry it becomes: the kind, and the head, needle, slot, design
index and break-start index it names (R156). -/
abbrev Key : Type :=
  FaultKind × Option HeadId × Option Nat × Option Nat × Option Nat × Option Nat

/-- The key of an entry. -/
def entryKey (e : Entry) : Key := (e.kind, e.head, e.needle, e.slot, e.index, e.breakStart)

/-- The key of a condition that names its slot and its index. -/
def conditionKey (x : Condition) : Key :=
  (x.kind, x.head, x.needle, x.slot none, x.index 0, x.breakStart)

/-- The MOVE_LATE of a cycle end: of a STITCH whose needle entry is given there, and of a JUMP (R35). -/
def lateAtEnd (b : Blocks) (c : Cycle) : List Key :=
  if (c.kind = .stitch ∧ c.entryGiven = false ∨ c.kind = .jump) ∧ b.fc.notDone c.index = true then
    [(.moveLate, none, none, b.sewSlot, some c.index, none)]
  else []

/-- The BOBBIN_EMPTY of a head at the end of a STITCH (R114). -/
def emptyAtEnd (b : Blocks) (c : Cycle) (h : HeadId) : List Key :=
  if c.kind = .stitch ∧ (b.hu.get h).takesPart = true ∧ (b.hu.get h).bobbin = some 1 then
    [(.bobbinEmpty, some h, (b.hu.get h).selector.needle, b.sewSlot, some c.index, none)]
  else []

/-- The judgement of a head at the end of a STITCH: that of one that takes part, ARMED, its flag clear
(R122). -/
def judgedAtEnd (b : Blocks) (c : Cycle) (h : HeadId) : Option Verdict :=
  if c.kind = .stitch ∧ (b.hu.get h).takesPart = true ∧ (b.tm.get h).state = .armed
      ∧ (b.hu.get h).faultFlag = false then
    (b.tm.get h).window.map ((b.tm.get h).judge b.cf.settings c.index)
  else none

/-- The faults of a judgement (R124, R125). -/
def judgedKeys (b : Blocks) (c : Cycle) (h : HeadId) : Option Verdict → List Key
  | none => []
  | some v =>
    (match v.threadBreak with
      | some a =>
        [(.threadBreak, some h, (b.hu.get h).selector.needle, b.sewSlot, some c.index, some a)]
      | none => [])
    ++ (if v.loose then
        [(.tensionLoose, some h, (b.hu.get h).selector.needle, b.sewSlot, some c.index, none)]
      else [])

/-- The window of a head closes; the monitor of a head that left SEWING during a cycle of a run becomes
OFF (R116, R122). -/
def windowClosed (plan : PlanMode) (u : Head) (m : Monitor) : Monitor :=
  if plan = .run ∧ u.state ≠ .sewing then { m with state := .off, k := 0, bigK := 0, window := none }
  else { m with window := none }

/-- The monitor of a head after the end of a cycle, the judgement of its window given: the trim point
not yet given gives a settle owed, a STITCH advances a settle, and the window closes (R112, R119, R122). -/
def monitorEnded (b : Blocks) (plan : PlanMode) (c : Cycle) (h : HeadId) (v : Option Verdict) :
    Monitor :=
  let m := b.tm.get h
  let m' : Monitor := if c.kind = .trim ∧ c.trimGiven = false then { m with owed := true } else m
  if (b.hu.get h).takesPart = false then m
  else windowClosed plan (b.hu.get h) (match v with
    | some v => v.monitor
    | none => if c.kind = .stitch ∧ m.state = .settling then
        { m with k := m.k + 1, state := if m.bigK ≤ m.k + 1 then .armed else .settling }
      else m')

/-- What an index pulse that ends a cycle makes of the heads and the monitors, and the conditions it
raises: each is written, in an order that is free, or waits (R52, R114, R119, R122; log 4). `v` is the
judgement of each head; a head that runs empty may be met by its fault before it is judged (log 4). -/
def cycleEnds (b t : Blocks) (plan : PlanMode) (c : Cycle) : Prop :=
  ∃ (l : List Entry) (v : HeadId → Option Verdict),
    { t.fl with waiting := [] } = l.foldl Fl.write b.fl
    ∧ (l.map entryKey ++ t.fl.waiting.map conditionKey).Perm
        (lateAtEnd b c ++ Id8.all.flatMap (fun h => emptyAtEnd b c h ++ judgedKeys b c h (v h)))
    ∧ ∀ h : HeadId,
      (v h = judgedAtEnd b c h ∨ (v h = none ∧ emptyAtEnd b c h ≠ []))
      ∧ (c.kind = .stitch → (b.hu.get h).takesPart = true → ∀ n, (b.hu.get h).bobbin = some (n + 1) →
        let low := decide (n ≤ b.cf.settings.bobbinLow)
        (t.hu.get h).bobbin = some n ∧ (t.hu.get h).lowLatch = ((b.hu.get h).lowLatch || low)
        ∧ (low = true → (b.hu.get h).lowLatch = false →
            (t.ru.heads.get h).flags &&& 0b1000#4 = 0b1000#4))
      ∧ (c.kind ≠ .stitch ∨ (b.hu.get h).takesPart = false ∨ (b.hu.get h).bobbin = none
          ∨ (b.hu.get h).bobbin = some 0 →
        (t.hu.get h).bobbin = (b.hu.get h).bobbin ∧ (t.hu.get h).lowLatch = (b.hu.get h).lowLatch)
      ∧ (∀ x, v h = some x → x.warn = true →
        (t.ru.heads.get h).flags &&& 0b0100#4 = 0b0100#4)
      ∧ (emptyAtEnd b c h = [] → judgedKeys b c h (v h) = [] →
        let m := monitorEnded b plan c h (v h)
        (t.sc.state = .stopped → t.tm.get h = m)
        ∧ (t.sc.state ≠ .stopped → ∃ window : Option Window,
          t.tm.get h = monitorStarted m b.cf.settings.settleCode (t.hu.get h).takesPart window
          ∧ (∀ x, window = some x → x.pulses = 0)
          ∧ (window ≠ none ↔ t.sc.cycle.map (·.kind) = some .stitch)))

end Sys2Proof.Claims

/-- A thread-feed pulse counts in the open window of a configured head that is not OFF, and nowhere
else; a closed window is judged: below the floor it is low, above the ceiling of its class high, and
otherwise both counts are 0; a low or high one adds to the soft count, which raises TENSION_WARN once.
The end of a cycle for one head: a STITCH advances a settle, an ARMED head without its flag is judged,
and any other window closes unjudged; a STITCH lowers the bobbin count, with BOBBIN_LOW once and
BOBBIN_EMPTY at 0. The index pulse that ends a cycle does so for every head that takes part, and the
conditions raised, MOVE_LATE among them, are each written or wait, in whatever order FL takes them; one
that waits for the resolution of the stop, and one of a head met before it is judged, is log 4. -/
def Obligations.FeedPulsesAreCountedAndJudged : Prop :=
  (∀ (h : HeadId) (s : State),
    (∀ w, h.num ≤ s.blk.cf.config.headCount → (s.blk.hu.get h).state ≠ .off →
      (s.blk.tm.get h).window = some w →
      exec (.threadFeedPulse h) s = .next (withBlocks s (withMonitor s.blk h
        { s.blk.tm.get h with window := some { w with pulses := min 65535 (w.pulses + 1) } })))
    ∧ ((s.blk.tm.get h).window = none ∨ (s.blk.hu.get h).state = .off
        ∨ s.blk.cf.config.headCount < h.num → exec (.threadFeedPulse h) s = .next s))
  ∧ (∀ (m : Monitor) (x : Settings) (index : Nat) (w : Window),
    let v := m.judge x index w
    let top := match w.cls with
      | .short => x.looseShort
      | .medium => x.looseMedium
      | .long => x.looseLong
    (w.pulses < x.breakFloor →
      v.monitor.low = m.low + 1 ∧ v.monitor.high = 0 ∧ v.monitor.soft = min 65535 (m.soft + 1)
        ∧ v.loose = false ∧ (v.threadBreak ≠ none ↔ x.breakCount ≤ m.low + 1)
        ∧ v.warn = (decide (x.warnThreshold ≤ min 65535 (m.soft + 1)) && !m.warnLatch)
        ∧ v.monitor.warnLatch = (m.warnLatch || v.warn)
        ∧ (m.low = 0 → v.monitor.breakStart = some index)
        ∧ (m.low ≠ 0 → v.monitor.breakStart = m.breakStart)
        ∧ (∀ a, v.threadBreak = some a → m.low = 0 → a = index)
        ∧ (∀ a, v.threadBreak = some a → m.low ≠ 0 → m.breakStart ≠ none → m.breakStart = some a))
    ∧ (x.breakFloor ≤ w.pulses → w.pulses ≤ top →
      v.monitor = { m with low := 0, high := 0, breakStart := none }
        ∧ v.loose = false ∧ v.warn = false ∧ v.threadBreak = none)
    ∧ (x.breakFloor ≤ w.pulses → top < w.pulses →
      v.monitor.low = 0 ∧ v.monitor.high = m.high + 1 ∧ v.monitor.breakStart = none
        ∧ v.monitor.soft = min 65535 (m.soft + 1) ∧ v.threadBreak = none
        ∧ v.warn = (decide (x.warnThreshold ≤ min 65535 (m.soft + 1)) && !m.warnLatch)
        ∧ v.monitor.warnLatch = (m.warnLatch || v.warn)
        ∧ (v.loose = true ↔ x.looseCount ≤ m.high + 1)))
  ∧ (∀ (plan : PlanMode) (c : Cycle) (b : Blocks) (cs : List Condition) (h : HeadId),
    let u := b.hu.get h
    let m := b.tm.get h
    let r := Blocks.closeWindowOf plan c (b, cs) h
    (u.takesPart = false → r = (b, cs))
    ∧ (u.takesPart = true →
      (c.kind = .stitch → m.state = .settling →
        r = (withMonitor b h (windowClosed plan u { m with
          k := m.k + 1, state := if m.bigK ≤ m.k + 1 then .armed else .settling }), cs))
      ∧ (c.kind ≠ .stitch ∨ m.state = .off ∨ (m.state = .armed ∧ u.faultFlag = true) →
        r = (withMonitor b h (windowClosed plan u m), cs))
      ∧ (∀ w, c.kind = .stitch → m.state = .armed → u.faultFlag = false → m.window = some w →
        let v := m.judge b.cf.settings c.index w
        r.1.tm = b.tm.set h (windowClosed plan u v.monitor) ∧ r.1.hu = b.hu
        ∧ (v.warn = false → r.1.ru = b.ru)
        ∧ (v.warn = true →
          (r.1.ru.heads.get h).flags = (b.ru.heads.get h).flags ||| 0b0100#4)
        ∧ r.2 = cs
            ++ (match v.threadBreak with
                | some a => [.threadBreak h u.selector.needle b.sewSlot c.index a]
                | none => [])
            ++ (if v.loose then [.tensionLoose h u.selector.needle b.sewSlot c.index] else []))))
  ∧ (∀ (index : Nat) (b : Blocks) (cs : List Condition) (h : HeadId),
    let u := b.hu.get h
    let r := Blocks.lowerBobbinOf index (b, cs) h
    (u.takesPart = false → r = (b, cs))
    ∧ (u.takesPart = true →
      (u.bobbin = none ∨ u.bobbin = some 0 → r.1.hu = b.hu.set h u ∧ r.1.ru = b.ru ∧ r.2 = cs)
      ∧ (∀ n, u.bobbin = some (n + 1) →
        let low := decide (n ≤ b.cf.settings.bobbinLow) && !u.lowLatch
        r.1.hu = b.hu.set h { u with bobbin := some n, lowLatch := u.lowLatch || low }
        ∧ (low = false → r.1.ru = b.ru)
        ∧ (low = true →
          (r.1.ru.heads.get h).flags = (b.ru.heads.get h).flags ||| 0b1000#4)
        ∧ r.2 = (if n = 0 then
            cs ++ [.bobbinEmpty h u.selector.needle b.sewSlot index] else cs))))
  ∧ (∀ (d : Nat) (s : State) (plan : PlanMode) (c : Cycle),
    s.blk.sc.state ∈ [.turning, .stopping] → s.blk.sc.plan = some plan → s.blk.sc.cycle = some c →
    s.blk.fl.waiting = [] → s.blk.ds.channel ≠ .closed →
    (∀ asked, s.blk.fc.move ≠ some ⟨.patchTravel, asked⟩) →
    ∃ t : State, exec (.indexPulse d) s = .next t ∧ cycleEnds s.blk t.blk plan c)

/-- The resolution of a stop of a run, in the order of its causes: FAULT, the pin, HOST, MARK, COLOR,
END, the end of the pending records. It waits for a frame that is busy. A COLOR whose change commands no
selector is passed at once, and the run sews on where it may; a run held with its resume condition met
resumes at once.
That the PIN_LIMIT entry carries the run state being left is log 18, and that a resolution outside
RUNNING and STOPPING changes nothing is log 5. -/
def Obligations.StopsAreResolvedInOrder : Prop :=
  ∀ (s : State) (stop : Stop), s.blk.fl.waiting = [] → s.blk.rc.stop = some stop →
    let b : Blocks := { s.blk with rc.causes := ⟨false, false⟩, rc.stop := none }
    let p := stop.points
    (¬ runIsOf s.blk [.running, .stopping] ∨ s.blk.fc.busy = true →
      exec .stopResolution s = .next s)
    ∧ (runIsOf s.blk [.running, .stopping] → s.blk.fc.busy = false →
      (s.blk.rc.causes.fault = true → p.pin = false →
        exec .stopResolution s = .next (withBlocks s
          (inState { b with rc.resume := none } .paused (some .fault))))
      ∧ (p.pin = true → ∃ t : State, exec .stopResolution s = .next t
        ∧ t.blk.rc.runState = .paused
        ∧ t.blk.rc.pauseCause = some (if s.blk.rc.causes.fault then .fault else .pinLimit)
        ∧ t.blk.fl = s.blk.fl.write (entryOf s.blk .pinLimit .stopAll none (some s.blk.ds.sew))
        ∧ t.blk.ds = s.blk.ds ∧ t.blk.sc = s.blk.sc ∧ t.blk.rt = s.blk.rt)
      ∧ (s.blk.rc.causes.fault = false → p.pin = false →
        (s.blk.rc.causes.host = true →
          exec .stopResolution s = .next (withBlocks s
            (inState { b with rc.resume := none } .paused (some .host))))
        ∧ (s.blk.rc.causes.host = false →
          (p.mark = true → s.blk.ds.sew < s.blk.ds.load →
            ∃ t : State, exec .stopResolution s = .next t ∧ t.blk.rc.runState = .paused
              ∧ t.blk.rc.pauseCause = some .mark ∧ t.blk.ds.sew = s.blk.ds.sew + 1
              ∧ t.blk.ds.load = s.blk.ds.load ∧ t.blk.sc = s.blk.sc ∧ t.blk.hu = s.blk.hu)
          ∧ (p.mark = false → p.color = true →
            (∀ r, s.blk.ds.record s.blk.ds.sew = some r → r.kind = .color →
              (planEntry s.blk.tp r.slot = none →
                ∃ t : State, exec .stopResolution s = .next t ∧ t.blk.rc.runState = .paused
                  ∧ t.blk.rc.pauseCause = some .noPlan ∧ t.blk.ds = s.blk.ds
                  ∧ t.blk.hu = s.blk.hu)
              ∧ (∀ e h n m, planEntry s.blk.tp r.slot = some e →
                h.num ≤ s.blk.cf.config.headCount → (s.blk.hu.get h).state = .sewing →
                (s.blk.hu.get h).selector = .atNeedle n → e.needles[h.num - 1]? = some m → n ≠ m →
                ∃ (t : State) (c : Change), exec .stopResolution s = .next t
                  ∧ t.blk.rc.runState = .changing ∧ t.blk.rc.change = some c ∧ c.slot = r.slot
                  ∧ c.kind = .recordDriven s.blk.ds.sew ∧ c.moved.get h = true
                  ∧ (t.blk.hu.get h).selector = .moving m n (max m n - min m n)
                  ∧ t.blk.ds = s.blk.ds)
              ∧ (∀ e, planEntry s.blk.tp r.slot = some e →
                (∀ h : HeadId, h.num ≤ s.blk.cf.config.headCount → (s.blk.hu.get h).state = .sewing →
                  ∃ n, e.needles[h.num - 1]? = some n ∧ (s.blk.hu.get h).selector = .atNeedle n) →
                mayStart b.advance →
                (∀ slot, b.advance.rc.slotInEffect = some slot →
                  b.advance.needlesDiffer slot = false) →
                ∃ t : State, exec .stopResolution s = .next t ∧ runsOn b.advance t.blk
                  ∧ t.blk.rc.change = none
                  ∧ t.blk.rc.slotInEffect = b.advance.rc.slotInEffect
                  ∧ (s.blk.ds.sew < s.blk.ds.load → t.blk.ds.sew = s.blk.ds.sew + 1)
                  ∧ t.blk.ru.pend &&& (0b010000#6 &&& ~~~s.blk.ru.kindMask)
                      = 0b010000#6 &&& ~~~s.blk.ru.kindMask)))
          ∧ (p.mark = false → p.color = false → p.endRec = true →
            s.blk.ds.sew < s.blk.ds.load →
            ∃ t : State, exec .stopResolution s = .next t ∧ t.blk.rc.runState = .ended
              ∧ t.blk.rc.pauseCause = none ∧ t.blk.ds.sew = s.blk.ds.sew + 1
              ∧ (∀ h : HeadId, ∀ x ∈ t.blk.rt.get h, x.b ≠ none)
              ∧ (∀ h : HeadId, (t.blk.hu.get h).state ≠ .isolated))
          ∧ (p.mark = false → p.color = false → p.endRec = false → p.endOfPending = true →
            s.blk.ds.load - s.blk.ds.sew < s.blk.cf.settings.resumeMark →
            s.blk.ds.channel ≠ .finished →
            exec .stopResolution s = .next (withBlocks s (inState b .held none)))
          ∧ (p.mark = false → p.color = false → p.endRec = false → p.endOfPending = true →
            s.blk.cf.settings.resumeMark ≤ s.blk.ds.load - s.blk.ds.sew
              ∨ s.blk.ds.channel = .finished → mayStart b →
            ∃ t : State, exec .stopResolution s = .next t ∧ runsOn b t.blk))))

/-- The resolution of a stop of a patch run: FAULT ends it FAILED, HOST ends it STOPPED, and with p at
the range's end it completes with OK and the range is removed; ended early, the range starts at p, or
at the break-start index of its head's THREAD_BREAK below p, and is removed when nothing is left. The
monitor of a head that is not SEWING becomes OFF. With no cause, a COLOR at p begins a change of the
patch head's needle; without a plan entry the patch ends FAILED, with a NO_PLAN entry. It waits for a
frame that is busy. That FAULT ranks before HOST is log 12, that a break taken during a stop another
fault began counts too is log 35, and that the event changes nothing outside PATCH is log 5. -/
def Obligations.PatchStopsAreResolved : Prop :=
  ∀ (s : State) (stop : Stop) (tag : Byte) (base : BaseState) (w : PatchWork),
    s.blk.rc.stop = some stop → s.blk.rc.op = some ⟨tag, base, .patch w⟩ →
    (s.blk.rc.runState ≠ .patch ∨ s.blk.fc.busy = true →
      exec .patchStopResolution s = .next s)
    ∧ (s.blk.rc.runState = .patch → s.blk.fc.busy = false →
      (∀ (result : OpResult) (start : Nat),
      ((w.causes.fault = true ∧ result = .failed
          ∧ start = (match w.breakStart with
              | some a => if a < w.p then a else w.p
              | none => w.p))
        ∨ (w.causes = ⟨true, false⟩ ∧ result = .stopped ∧ start = w.p)
        ∨ (w.causes = ⟨false, false⟩ ∧ w.p = w.b ∧ result = .ok ∧ start = w.b)) →
      ∃ t : State, exec .patchStopResolution s = .next t
        ∧ t.blk.rc.runState = base.target.1 ∧ t.blk.rc.pauseCause = base.target.2
        ∧ t.blk.rc.op = none ∧ t.blk.rc.stop = none
        ∧ t.blk.rc.opRecord = ⟨some .patch, tag, some result, OpFailures.none,
            s.blk.rc.opRecord.counter + 1⟩
        ∧ t.blk.fc = { s.blk.fc with offPosition := true }
        ∧ (∀ h : HeadId, t.blk.hu.get h = { s.blk.hu.get h with rest := false })
        ∧ t.blk.tm = (if (s.blk.hu.get w.head).state = .sewing then s.blk.tm
            else s.blk.tm.set w.head
              { s.blk.tm.get w.head with state := .off, k := 0, bigK := 0 })
        ∧ t.blk.ds.sew = s.blk.ds.sew ∧ t.blk.rc.slotInEffect = s.blk.rc.slotInEffect
        ∧ (∀ h : HeadId, h ≠ w.head → t.blk.rt.get h = s.blk.rt.get h)
        ∧ t.blk.rt.get w.head = shrunk w start (s.blk.rt.get w.head)
        ∧ t.blk.sc = s.blk.sc ∧ t.blk.fl = s.blk.fl)
      ∧ (∀ r, w.causes = ⟨false, false⟩ → w.p ≠ w.b → s.blk.ds.record w.p = some r →
        r.kind = .color →
        (∀ e n m, planEntry s.blk.tp r.slot = some e → w.head.num ≤ s.blk.cf.config.headCount →
          (s.blk.hu.get w.head).selector = .atNeedle n → e.needles[w.head.num - 1]? = some m →
          n ≠ m →
          exec .patchStopResolution s = .next (withBlocks s
            { s.blk with
              rc.stop := none
              rc.change := some ⟨r.slot, .recordDriven w.p, (Eight.const false).set w.head true,
                false, false⟩
              hu := s.blk.hu.set w.head { s.blk.hu.get w.head with
                selector := .moving m n (max m n - min m n)
                selTimer := some s.blk.cf.settings.selectorTimeout } }))
        ∧ (planEntry s.blk.tp r.slot = none →
          ∃ t : State, exec .patchStopResolution s = .next t
            ∧ t.blk.rc.runState = base.target.1 ∧ t.blk.rc.op = none
            ∧ t.blk.rc.opRecord = ⟨some .patch, tag, some .failed, OpFailures.none,
                s.blk.rc.opRecord.counter + 1⟩
            ∧ t.blk.rt.get w.head = shrunk w w.p (s.blk.rt.get w.head)
            ∧ t.blk.fl = s.blk.fl.write
                { entryOf s.blk .noPlan .failed none (some w.p) with slot := some r.slot })))

namespace Sys2Proof.Claims

/-- One head's selector comes to rest, its timer stopped (R100, R101, R102). -/
def selectorAtRest (b : Blocks) (h : HeadId) (x : Selector) : Blocks :=
  withHead b h { b.hu.get h with selector := x, selTimer := none }

/-- A selector that a change commanded is still moving. -/
def stillMoving (b : Blocks) (c : Change) : Prop :=
  ∃ (g : HeadId) (target start left : Nat), c.moved.get g = true
    ∧ (b.hu.get g).selector = .moving target start left

/-- A change of a run ends at an event: stopped by STOP_ALL, by PAUSE, or done, when the heads moved
owe a settle and a record-driven one passes its COLOR, and the run starts where it may (R71, R108). -/
def changeEnds (i : Instr) (s : State) (b : Blocks) (c : Change) : Prop :=
  let ended : Blocks := { b with rc.change := none }
  let owed : Blocks := { ended with tm := Eight.tabulate (fun g =>
    if c.moved.get g then { ended.tm.get g with owed := true } else ended.tm.get g) }
  let passed : Blocks := { owed.advance with
    ru.pend := owed.advance.ru.pend ||| (0b010000#6 &&& ~~~owed.advance.ru.kindMask) }
  (c.stopAll = true → exec i s = .next (withBlocks s
    (inState { ended with rc.resume := none } .paused (some .fault))))
  ∧ (c.stopAll = false → c.paused = true → exec i s = .next (withBlocks s
    (inState { ended with rc.resume := none } .paused (some .host))))
  ∧ (∀ n, c.stopAll = false → c.paused = false → c.kind = .reconciliation n → mayStart owed →
    ∃ t : State, exec i s = .next t ∧ runsOn owed t.blk ∧ t.blk.rc.change = none)
  ∧ (∀ n, c.stopAll = false → c.paused = false → c.kind = .recordDriven n → mayStart passed →
    (∀ slot, passed.rc.slotInEffect = some slot → passed.needlesDiffer slot = false) →
    ∃ t : State, exec i s = .next t ∧ runsOn passed t.blk
      ∧ t.blk.rc.change = none ∧ t.blk.rc.slotInEffect = passed.rc.slotInEffect
      ∧ (b.ds.sew < b.ds.load → t.blk.ds.sew = b.ds.sew + 1)
      ∧ t.blk.ru.pend &&& (0b010000#6 &&& ~~~b.ru.kindMask) = 0b010000#6 &&& ~~~b.ru.kindMask)

/-- A change of a patch run ends at an event: a stop of it ends the patch, and done it moves p past the
COLOR of a record-driven one, and the shaft starts where it may (R142, R143, R144, R146). -/
def patchChangeEnds (i : Instr) (s : State) (b : Blocks) (c : Change) (tag : Byte)
    (base : BaseState) (w : PatchWork) : Prop :=
  let start := if c.stopAll then
      (match w.breakStart with
        | some a => if a < w.p then a else w.p
        | none => w.p)
    else w.p
  let w' : PatchWork := match c.kind with
    | .recordDriven n => { w with p := n + 1, slot := some c.slot }
    | .reconciliation _ => w
  (c.stopAll = true ∨ c.paused = true → ∃ t : State, exec i s = .next t
    ∧ t.blk.rc.runState = base.target.1 ∧ t.blk.rc.pauseCause = base.target.2
    ∧ t.blk.rc.op = none ∧ t.blk.rc.change = none
    ∧ t.blk.rc.opRecord = ⟨some .patch, tag, some (if c.stopAll then .failed else .stopped),
        OpFailures.none, b.rc.opRecord.counter + 1⟩
    ∧ t.blk.rt.get w.head = shrunk w start (b.rt.get w.head) ∧ t.blk.fl = b.fl)
  ∧ (∀ r, c.stopAll = false → c.paused = false → b.ds.record w'.p = some r → r.kind ≠ .mark →
    r.kind ≠ .color → w'.p ≠ w'.b → b.sc.state = .stopped → b.selectorMoving = false →
    axesReady b → b.fc.busy = false → b.planK (.patch w.b) w'.p ≠ 0 →
    ∃ t : State, exec i s = .next t
      ∧ t.blk.rc = { b.rc with change := none, op := some ⟨tag, base, .patch w'⟩ }
      ∧ t.blk.sc.state = .turning ∧ t.blk.sc.plan = some (.patch w.b)
      ∧ t.blk.sc.cycle.map (·.index) = some w'.p ∧ t.blk.ds = b.ds)

/-- A selector of a change has come to rest at an event, which leaves `b`: the change goes on while
another that it commanded moves, and ends with the last (R108). -/
def changeCollected (i : Instr) (s : State) (b : Blocks) : Prop :=
  (b.rc.change = none → exec i s = .next (withBlocks s b))
  ∧ ∀ c, b.rc.change = some c →
    (stillMoving b c → exec i s = .next (withBlocks s b))
    ∧ (¬ stillMoving b c → b.rc.runState = .changing → changeEnds i s b c)
    ∧ (∀ tag base w, ¬ stillMoving b c → b.rc.runState = .patch →
        b.rc.op = some ⟨tag, base, .patch w⟩ → patchChangeEnds i s b c tag base w)

/-- A SELECTOR_TIMEOUT of a change is taken: `b` is the state it finds, `t` what it leaves. The entry is
written; a head flagged already is changed no more; ISOLATE opens the range at the change's index and
leaves the change as it is; STOP_ALL stands as a cause of the change (R102, R108, R134, R135, R155). -/
def timeoutTaken (b t : Blocks) (h : HeadId) (target : Nat) (c : Change) : Prop :=
  let cond : Condition := .selectorChange h target c.slot c.kind
  let jam : Head := { b.hu.get h with selector := .jammed, selTimer := none }
  let entry (act : Action) : Entry :=
    { entryOf b .selectorTimeout act none (some c.kind.index) with
      head := some h, needle := some target, slot := some c.slot }
  let flagged := (b.hu.get h).faultFlag
  t.sc = b.sc ∧ t.fc = b.fc ∧ t.ds.sew = b.ds.sew ∧ t.ds.load = b.ds.load
    ∧ (∀ g : HeadId, g ≠ h → t.hu.get g = b.hu.get g ∧ t.rt.get g = b.rt.get g
        ∧ t.tm.get g = b.tm.get g ∧ t.ru.heads.get g = b.ru.heads.get g)
    ∧ (isolates b h cond → t.fl = b.fl.write (entry .isolate))
    ∧ (¬ isolates b h cond → t.fl = b.fl.write (entry .stopAll))
    ∧ (flagged = true →
        t.hu = b.hu.set h jam ∧ t.rt = b.rt ∧ t.rc = b.rc ∧ t.ru.heads = b.ru.heads)
    ∧ (flagged = false → isolates b h cond → t.rc = b.rc
        ∧ t.hu = b.hu.set h { jam with state := .isolated, faultFlag := true }
        ∧ (t.ru.heads.get h).flags = (b.ru.heads.get h).flags ||| 0b0001#4
        ∧ ∃ m, leastStart (b.rt.get h) (rangeStart b cond) m
          ∧ t.rt.get h = keptRanges b h (rangeStart b cond) ++ [⟨m, none⟩])
    ∧ (flagged = false → ¬ isolates b h cond →
        t.hu = b.hu.set h { jam with faultFlag := true } ∧ t.rt = b.rt
        ∧ (t.ru.heads.get h).flags = (b.ru.heads.get h).flags ||| 0b0010#4
        ∧ (b.rc.runState = .changing →
            t.rc = { b.rc with change := some { c with stopAll := true } })
        ∧ (∀ tag base w, b.rc.runState = .patch → b.rc.op = some ⟨tag, base, .patch w⟩ →
            t.rc = { b.rc with
              change := some { c with stopAll := true }
              op := some ⟨tag, base, .patch { w with causes := ⟨w.causes.host, true⟩ }⟩ }))

end Sys2Proof.Claims

/-- A selector is driven in MOVING toward its target and in HOMING toward lower needles, and is off
otherwise. The events of a needle selector each answer a next state, the link and the queue untouched. A
pulse comes one needle nearer, and the last puts the selector AT its target; the index ends a homing at
needle 1; the timeout jams the selector, with an entry. In HHOME the index ends the operation with OK,
the timeout with FAILED naming the head; in HOME each is an outcome collected, and the last outcome ends
HOME by the table of R88. In a change a timeout is ISOLATE or STOP_ALL by R134, STOP_ALL always in a
patch run; of a head flagged already it writes its entry and changes nothing more. A change ends when its
last selector stands: stopped by STOP_ALL in PAUSED(FAULT), by PAUSE in PAUSED(HOST), and done otherwise;
a record-driven one then passes its COLOR and raises COLOR, and the run starts where it may, the heads
moved owing a settle first. A change of a patch run, stopped, ends the patch with FAILED or STOPPED;
done, it moves p past the COLOR and the patch run starts where it may. A timeout with no timer running
or no drive on, a pulse that no move awaits and an index that no homing awaits change nothing else
(log 5). That the order of waiting conditions is free is log 4: the timeout is stated with none
waiting. That a patch ended FAILED takes any break start kept for it is log 35. -/
def Obligations.SelectorEventsMoveTheSelector : Prop :=
  (∀ x : Selector,
    (∀ target start left, x = .moving target start left → x.drive = some (decide (start < target)))
    ∧ (x = .homing → x.drive = some false) ∧ (x.busy = false → x.drive = none))
  ∧ ∀ (h : HeadId) (s : State),
    (∀ i ∈ [.selectorPulse h, .selectorIndex h true, .selectorIndex h false, .selectorTimeout h],
      ∃ t : State, exec i s = .next t ∧ t.pl = s.pl ∧ t.pending = s.pending)
    ∧ (∀ target start left, (s.blk.hu.get h).selector = .moving target start left → 2 ≤ left →
      exec (.selectorPulse h) s = .next (withBlocks s (withHead s.blk h
        { s.blk.hu.get h with selector := .moving target start (left - 1) })))
    ∧ (∀ target start left, (s.blk.hu.get h).selector = .moving target start left → left ≤ 1 →
      changeCollected (.selectorPulse h) s (selectorAtRest s.blk h (.atNeedle target)))
    ∧ ((s.blk.hu.get h).selector.busy = false ∨ (s.blk.hu.get h).selector = .homing →
      exec (.selectorPulse h) s = .next s)
    ∧ (∀ a : Bool, (s.blk.hu.get h).selector ≠ .homing ∨ a = false →
      exec (.selectorIndex h a) s = .next
        { s with blk.pins.selIndex := s.blk.pins.selIndex.set h a })
    ∧ (∀ tag base, (s.blk.hu.get h).selector = .homing →
      s.blk.rc.op = some ⟨tag, base, .hhome h⟩ →
      ∃ t : State, exec (.selectorIndex h true) s = .next t
        ∧ t.blk.hu = s.blk.hu.set h
            { s.blk.hu.get h with selector := .atNeedle 1, selTimer := none }
        ∧ t.blk.rc.runState = base.target.1 ∧ t.blk.rc.pauseCause = base.target.2
        ∧ t.blk.rc.op = none
        ∧ t.blk.rc.opRecord =
            ⟨some .hhome, tag, some .ok, OpFailures.none, s.blk.rc.opRecord.counter + 1⟩)
    ∧ (∀ tag base w, (s.blk.hu.get h).selector = .homing →
      s.blk.rc.op = some ⟨tag, base, .home w⟩ →
      let b := selectorAtRest s.blk h (.atNeedle 1)
      ∃ t : State, exec (.selectorIndex h true) s = .next t ∧ t.blk.hu = b.hu ∧ t.blk.fl = b.fl
        ∧ t.blk.pins = { s.blk.pins with selIndex := s.blk.pins.selIndex.set h true }
        ∧ homeCollected b t.blk tag base { w with await := w.await.set h false })
    ∧ ((s.blk.hu.get h).selTimer = none ∨ (s.blk.hu.get h).selector.busy = false →
      exec (.selectorTimeout h) s = .next s)
    ∧ (∀ tag base v, (s.blk.hu.get h).selTimer = some v → (s.blk.hu.get h).selector = .homing →
      s.blk.rc.op = some ⟨tag, base, .hhome h⟩ → s.blk.fl.waiting = [] →
      ∃ t : State, exec (.selectorTimeout h) s = .next t
        ∧ t.blk.hu = s.blk.hu.set h { s.blk.hu.get h with selector := .jammed, selTimer := none }
        ∧ t.blk.rc.runState = base.target.1 ∧ t.blk.rc.op = none
        ∧ t.blk.rc.opRecord = ⟨some .hhome, tag, some .failed,
            ⟨false, false, false, (Eight.const false).set h true⟩, s.blk.rc.opRecord.counter + 1⟩
        ∧ t.blk.fl = s.blk.fl.write
            { entryOf s.blk .selectorTimeout .failed none (some s.blk.ds.sew) with
              head := some h, slot := none })
    ∧ (∀ tag base w v, (s.blk.hu.get h).selTimer = some v → (s.blk.hu.get h).selector = .homing →
      s.blk.rc.op = some ⟨tag, base, .home w⟩ → s.blk.fl.waiting = [] →
      let b := selectorAtRest s.blk h .jammed
      ∃ t : State, exec (.selectorTimeout h) s = .next t ∧ t.blk.hu = b.hu
        ∧ t.blk.fl = s.blk.fl.write
            { entryOf s.blk .selectorTimeout .failed none (some s.blk.ds.sew) with
              head := some h, slot := none }
        ∧ homeCollected b t.blk tag base
            { w with await := w.await.set h false, failed := w.failed.set h true })
    ∧ (∀ target start left v c, (s.blk.hu.get h).selTimer = some v →
      (s.blk.hu.get h).selector = .moving target start left → s.blk.rc.change = some c →
      runIsOf s.blk [.changing, .patch] → s.blk.fl.waiting = [] →
      (∀ asked, s.blk.fc.move ≠ some ⟨.patchTravel, asked⟩) →
      let b := (selectorAtRest s.blk h .jammed).take (.selectorChange h target c.slot c.kind)
      timeoutTaken s.blk b h target c ∧ changeCollected (.selectorTimeout h) s b)

/-- Home switches and drive faults: a homing axis stands at its home offset when its switch asserts;
an axis that is READY or MOVING elsewhere raises AXIS_DRIVE; a drive fault puts the axis in FAULT and
halts the part, and its release leaves the axis UNHOMED. The outcome of a homing axis is collected by
HOME, which ends with the last one, OK or FAILED, by the table of R88. That an AXIS_DRIVE entry carries S
and the slot in effect also in PATCH is log 38. -/
def Obligations.AxisInputsAreTaken : Prop :=
  ∀ (ax : Axis) (s : State),
    let onSwitch : Blocks := { s.blk with pins := s.blk.pins.setHomeSwitch ax true }
    let offset := (s.blk.axisConfig ax).homeOffset
    exec (.homeSwitch ax false) s = .next
      { s with blk.pins := s.blk.pins.setHomeSwitch ax false }
    ∧ (s.blk.cf.lock = false ∨ (s.blk.fc.axis ax).state ∈ [.unhomed, .fault]
        ∨ ((s.blk.fc.axis ax).state ∈ [.ready, .moving] ∧ (s.blk.fc.axis ax).pos = some offset) →
      exec (.homeSwitch ax true) s = .next (withBlocks s onSwitch))
    ∧ (s.blk.cf.lock = true → (s.blk.fc.axis ax).state ∈ [.ready, .moving] →
      (s.blk.fc.axis ax).pos ≠ some offset → s.blk.fl.waiting = [] →
      haltsWith (.homeSwitch ax true) s onSwitch
        (entryOf onSwitch .axisDrive .halt (some (partOf ax)) (some s.blk.ds.sew)))
    ∧ (∀ tag base w, s.blk.cf.lock = true → (s.blk.fc.axis ax).state = .homing →
      s.blk.rc.op = some ⟨tag, base, .home w⟩ →
      (w.await ≠ Eight.const false → exec (.homeSwitch ax true) s = .next (withBlocks s
        { onSwitch with
          fc := s.blk.fc.setAxis ax ⟨.ready, some offset, none, 0⟩
          rc.op := some ⟨tag, base, .home (w.setAxis ax .homed)⟩ }))
      ∧ (∀ x y, w.second = true → w.await = Eight.const false → w.failed = Eight.const false →
        (w.setAxis ax .homed).xOutcome = some x → (w.setAxis ax .homed).yOutcome = some y →
        x = .homed → y = .homed → base ≠ .halted →
        ∃ t : State, exec (.homeSwitch ax true) s = .next t
          ∧ t.blk.fc = s.blk.fc.setAxis ax ⟨.ready, some offset, none, 0⟩
          ∧ t.blk.rc.runState = base.target.1 ∧ t.blk.rc.pauseCause = base.target.2
          ∧ t.blk.rc.op = none ∧ t.blk.rc.opRecord =
              ⟨some .home, tag, some .ok, OpFailures.none, s.blk.rc.opRecord.counter + 1⟩)
      ∧ ∃ t : State, exec (.homeSwitch ax true) s = .next t
        ∧ t.blk.hu = s.blk.hu ∧ t.blk.fl = s.blk.fl ∧ t.blk.pins = onSwitch.pins
        ∧ homeCollected
            { onSwitch with fc := s.blk.fc.setAxis ax ⟨.ready, some offset, none, 0⟩ }
            t.blk tag base (w.setAxis ax .homed))
    ∧ (s.blk.cf.lock = false ∨ (s.blk.fc.axis ax).state = .fault →
      exec (.driveFaultAssert ax) s = .next
        { s with blk.pins := s.blk.pins.setDriveFault ax true })
    ∧ (s.blk.cf.lock = true → (s.blk.fc.axis ax).state ≠ .fault → s.blk.fl.waiting = [] →
      let b : Blocks := { s.blk with
        pins := s.blk.pins.setDriveFault ax true
        fc := s.blk.fc.setAxis ax ⟨.fault, none, none, 0⟩ }
      haltsWith (.driveFaultAssert ax) s b
        (entryOf b .axisDrive .halt (some (partOf ax)) (some s.blk.ds.sew)))
    ∧ exec (.driveFaultRelease ax) s = .next
        { s with
          blk.pins := s.blk.pins.setDriveFault ax false
          blk.fc := if (s.blk.fc.axis ax).state = .fault then
              s.blk.fc.setAxis ax ⟨.unhomed, none, none, 0⟩ else s.blk.fc }

namespace Sys2Proof.Claims

/-- A BACK or FWD has ended in its base state, with a result (R83, R84, R90). -/
def repoEnded (b t : Blocks) (tag : Byte) (base : BaseState) (w : RepoWork) (result : OpResult) :
    Prop :=
  t.rc.runState = base.target.1 ∧ t.rc.pauseCause = base.target.2 ∧ t.rc.op = none
    ∧ t.rc.opRecord = ⟨some (if w.forward then .fwd else .back), tag, some result, OpFailures.none,
        b.rc.opRecord.counter + 1⟩

/-- Patch travel has completed, which leaves `b`: the patch change, by its slot; with none, that of a
COLOR at p (R142, R143). A change begins where the patch head stands at another needle; where it stands
at the needle of the patch slot, or with no patch slot, the shaft starts where it may, the head owing a
settle first in the former case. -/
def patchArrives (b : Blocks) (s : State) (tag : Byte) (base : BaseState) (w : PatchWork) : Prop :=
  let kind : ChangeKind := if w.slot = none then .recordDriven w.p else .reconciliation w.p
  (∀ slot,
    w.slot = some slot ∨ (w.slot = none ∧ w.p ≠ w.b
      ∧ ∃ r, b.ds.record w.p = some r ∧ r.kind = .color ∧ r.slot = slot) →
    (planEntry b.tp slot = none → ∃ t : State, exec .frameMoveComplete s = .next t
      ∧ patchEnded b t.blk tag base w .failed w.p
      ∧ t.blk.fl = b.fl.write
          { entryOf b .noPlan .failed none (some w.p) with slot := some slot })
    ∧ (∀ e n m, planEntry b.tp slot = some e → w.head.num ≤ b.cf.config.headCount →
      (b.hu.get w.head).selector = .atNeedle n → e.needles[w.head.num - 1]? = some m → n ≠ m →
      exec .frameMoveComplete s = .next (withBlocks s { b with
        rc.change := some ⟨slot, kind, (Eight.const false).set w.head true, false, false⟩
        hu := b.hu.set w.head { b.hu.get w.head with
          selector := .moving m n (max m n - min m n)
          selTimer := some b.cf.settings.selectorTimeout } })))
  ∧ (∀ r, (∀ slot, w.slot = some slot → ∃ e n, planEntry b.tp slot = some e
      ∧ (b.hu.get w.head).selector = .atNeedle n ∧ e.needles[w.head.num - 1]? = some n) →
    b.ds.record w.p = some r → r.kind ≠ .mark → r.kind ≠ .color → w.p ≠ w.b →
    b.sc.state = .stopped → b.selectorMoving = false → axesReady b → b.fc.busy = false →
    b.planK (.patch w.b) w.p ≠ 0 →
    ∃ t : State, exec .frameMoveComplete s = .next t
      ∧ t.blk.rc = { b.rc with change := if w.slot.isSome then none else b.rc.change }
      ∧ t.blk.sc.state = .turning ∧ t.blk.sc.plan = some (.patch w.b)
      ∧ t.blk.sc.cycle.map (·.index) = some w.p ∧ t.blk.ds = b.ds
      ∧ t.blk.tm.get w.head = monitorStarted
          { b.tm.get w.head with owed := (b.tm.get w.head).owed || w.slot.isSome }
          b.cf.settings.settleCode true
          (if r.kind = .stitch then some ⟨0, classOf r.dx r.dy⟩ else none))

end Sys2Proof.Claims

/-- The end of a move: the axes stand at their targets and the owner is told. MOVE and a step of BACK
or FWD end with OK or STOPPED in the base state, and with steps left the next step moves S and the frame,
or fails where S may not move; a cycle move leaves only the frame changed, and the next that waits begins.
Return travel in TRAVEL clears the off-position flag and the shaft starts, or a change of needles begins;
stopped, it leads to PAUSED. In REPOSITION it leads to the first step; stopped, to STOPPED in the base
state, the flag set. Patch travel leads to the patch change, or without a patch slot to the first test of
the patch run; stopped, the patch ends STOPPED or FAILED. That an axis stopped short finishes the unit in
progress is log 13, that stopped return travel waits in TRAVEL, with FAULT before HOST in every stop, is
log 12, that an end with no move in flight changes nothing is log 5, and the break start of a patch that
ends FAILED is log 35. -/
def Obligations.FrameMovesEnd : Prop :=
  ∀ s : State,
    let fc' : Fc := { s.blk.fc with x := s.blk.fc.x.arrive, y := s.blk.fc.y.arrive, move := none }
    let stopped : Fc :=
      { s.blk.fc with x := s.blk.fc.x.stopShort, y := s.blk.fc.y.stopShort, move := none }
    (s.blk.fc.move = none → exec .frameMoveComplete s = .next s ∧ exec .frameMoveStopped s = .next s)
    ∧ (∀ i, s.blk.fc.move = some ⟨.cycle i, false⟩ → s.blk.fc.waiting = [] →
      exec .frameMoveComplete s = .next { s with blk.fc := fc' })
    ∧ (∀ tag base, s.blk.fc.move = some ⟨.manual, false⟩ →
      s.blk.rc.op = some ⟨tag, base, .move⟩ →
      ∃ t : State, exec .frameMoveComplete s = .next t ∧ t.blk.fc = fc'
        ∧ t.blk.rc.runState = base.target.1 ∧ t.blk.rc.pauseCause = base.target.2
        ∧ t.blk.rc.op = none ∧ t.blk.rc.opRecord =
            ⟨some .move, tag, some .ok, OpFailures.none, s.blk.rc.opRecord.counter + 1⟩)
    ∧ (∀ tag base w, s.blk.fc.move = some ⟨.step, false⟩ →
      s.blk.rc.op = some ⟨tag, base, .repo w⟩ → w.pauseAsked = true ∨ w.stepsLeft = 0 →
      ∃ t : State, exec .frameMoveComplete s = .next t ∧ t.blk.fc = fc'
        ∧ t.blk.ds = s.blk.ds ∧ t.blk.rc.runState = base.target.1 ∧ t.blk.rc.op = none
        ∧ t.blk.rc.opRecord = ⟨some (if w.forward then .fwd else .back), tag,
            some (if w.pauseAsked then .stopped else .ok), OpFailures.none,
            s.blk.rc.opRecord.counter + 1⟩)
    ∧ (s.blk.fc.move = some ⟨.returnTravel, false⟩ → s.blk.rc.runState = .travel →
      s.blk.fc.waiting = [] → fc'.ready = true → s.blk.sc.state = .stopped →
      s.blk.selectorMoving = false → s.blk.planK .run s.blk.ds.sew ≠ 0 →
      (∀ slot, s.blk.rc.slotInEffect = some slot → s.blk.needlesDiffer slot = false) →
      ∃ t : State, exec .frameMoveComplete s = .next t ∧ t.blk.rc.runState = .running
        ∧ t.blk.rc.resume = none ∧ t.blk.sc.state = .turning ∧ t.blk.sc.plan = some .run
        ∧ t.blk.fc.offPosition = false ∧ t.blk.ds = s.blk.ds)
    ∧ (∀ tag base, s.blk.fc.move = some ⟨.manual, true⟩ →
      s.blk.rc.op = some ⟨tag, base, .move⟩ →
      ∃ t : State, exec .frameMoveStopped s = .next t
        ∧ t.blk.fc = { s.blk.fc with x := s.blk.fc.x.stopShort, y := s.blk.fc.y.stopShort
                                     move := none }
        ∧ t.blk.rc.runState = base.target.1 ∧ t.blk.rc.op = none ∧ t.blk.rc.opRecord =
            ⟨some .move, tag, some .stopped, OpFailures.none, s.blk.rc.opRecord.counter + 1⟩)
    ∧ (s.blk.fc.move = some ⟨.returnTravel, true⟩ → s.blk.rc.runState = .travel →
      exec .frameMoveStopped s = .next (withBlocks s (inState
        { s.blk with
          rc.resume := none, rc.causes := ⟨false, false⟩
          fc := { s.blk.fc with x := s.blk.fc.x.stopShort, y := s.blk.fc.y.stopShort, move := none } }
        .paused (some (if s.blk.rc.causes.fault then .fault else .host)))))
    ∧ (∀ i m ms, s.blk.fc.move = some ⟨.cycle i, false⟩ → s.blk.fc.waiting = m :: ms →
      fc'.x.state = .ready → fc'.y.state = .ready →
      (fc'.x.pos ≠ some m.target.x ∨ fc'.y.pos ≠ some m.target.y →
        exec .frameMoveComplete s = .next
          { s with blk.fc := { frameSent fc' (.cycle m.index) m.target with waiting := ms } })
      ∧ (fc'.x.pos = some m.target.x → fc'.y.pos = some m.target.y → ms = [] →
        exec .frameMoveComplete s = .next { s with blk.fc := { fc' with waiting := [] } }))
    ∧ (∀ tag base w, s.blk.rc.op = some ⟨tag, base, .repo w⟩ →
      s.blk.fc.move = some ⟨.step, false⟩
        ∨ (s.blk.fc.move = some ⟨.returnTravel, false⟩ ∧ s.blk.rc.runState = .reposition) →
      let f : Fc := if s.blk.fc.move = some ⟨.step, false⟩ then fc'
        else { fc' with offPosition := false }
      let b : Blocks := { s.blk with fc := f }
      (w.pauseAsked = true ∨ w.stepsLeft = 0 → ∃ t : State, exec .frameMoveComplete s = .next t
        ∧ t.blk.fc = f ∧ t.blk.ds = s.blk.ds
        ∧ repoEnded b t.blk tag base w (if w.pauseAsked then .stopped else .ok))
      ∧ (∀ n, w.pauseAsked = false → w.stepsLeft = n + 1 →
        ((if w.forward then s.blk.ds.load ≤ s.blk.ds.sew else s.blk.ds.sew ≤ s.blk.ds.tail) →
          ∃ t : State, exec .frameMoveComplete s = .next t ∧ t.blk.fc = f ∧ t.blk.ds = s.blk.ds
            ∧ repoEnded b t.blk tag base w .failed)
        ∧ ((if w.forward then s.blk.ds.sew < s.blk.ds.load else s.blk.ds.tail < s.blk.ds.sew) →
          let moved := if w.forward then b.advance
            else { b with
              ds.sew := b.ds.sew - 1, rc.slotInEffect := b.ds.slotBefore (b.ds.sew - 1) }
          let p := (moved.ds.posBefore moved.ds.sew).map f.origin.add
          moved.ds.sew = (if w.forward then s.blk.ds.sew + 1 else s.blk.ds.sew - 1)
          ∧ (∀ q, p = some q → fc'.ready = true → standsOff b q →
            exec .frameMoveComplete s = .next (withBlocks s { moved with
              fc := frameSent f .step q
              rc.op := some ⟨tag, base, .repo { w with stepsLeft := n }⟩ }))
          ∧ (∀ q, p = some q → fc'.ready = true → ¬ standsOff b q →
            exec .frameMoveComplete s = exec .frameMoveComplete (withBlocks s { moved with
              fc := { f with move := some ⟨.step, false⟩ }
              rc.op := some ⟨tag, base, .repo { w with stepsLeft := n }⟩ }))
          ∧ (p = none ∨ fc'.ready = false → ∃ t : State, exec .frameMoveComplete s = .next t
            ∧ t.blk.fc = f ∧ t.blk.ds = moved.ds ∧ repoEnded b t.blk tag base w .failed))))
    ∧ (∀ tag base w, s.blk.fc.move = some ⟨.returnTravel, true⟩ → s.blk.rc.runState = .reposition →
      s.blk.rc.op = some ⟨tag, base, .repo w⟩ →
      ∃ t : State, exec .frameMoveStopped s = .next t ∧ t.blk.fc = stopped ∧ t.blk.ds = s.blk.ds
        ∧ repoEnded s.blk t.blk tag base w .stopped)
    ∧ (s.blk.fc.move = some ⟨.returnTravel, false⟩ → s.blk.rc.runState = .travel →
      ∀ slot e h n m,
        ((∃ r, s.blk.ds.record s.blk.ds.sew = some r ∧ r.kind = .color ∧ r.slot = slot)
          ∨ (s.blk.ds.hasKind s.blk.ds.sew .color = false
              ∧ s.blk.rc.slotInEffect = some slot)) →
        planEntry s.blk.tp slot = some e → h.num ≤ s.blk.cf.config.headCount →
        (s.blk.hu.get h).state = .sewing → (s.blk.hu.get h).selector = .atNeedle n →
        e.needles[h.num - 1]? = some m → n ≠ m →
        ∃ (t : State) (c : Change), exec .frameMoveComplete s = .next t
          ∧ t.blk.rc.runState = .changing ∧ t.blk.rc.change = some c ∧ c.slot = slot
          ∧ c.kind = (if s.blk.ds.hasKind s.blk.ds.sew .color then .recordDriven s.blk.ds.sew
              else .reconciliation s.blk.ds.sew)
          ∧ c.moved.get h = true ∧ (t.blk.hu.get h).selector = .moving m n (max m n - min m n)
          ∧ t.blk.fc = { fc' with offPosition := false } ∧ t.blk.ds = s.blk.ds)
    ∧ (∀ tag base w, s.blk.rc.op = some ⟨tag, base, .patch w⟩ → s.blk.rc.runState = .patch →
      (s.blk.fc.move = some ⟨.patchTravel, false⟩ →
        patchArrives { s.blk with fc := fc' } s tag base w)
      ∧ (s.blk.fc.move = some ⟨.patchTravel, true⟩ →
        ∃ t : State, exec .frameMoveStopped s = .next t ∧ t.blk.sc = s.blk.sc
          ∧ patchEnded { s.blk with fc := stopped } t.blk tag base w
              (if w.causes.fault then .failed else .stopped)
              (if w.causes.fault then failedStart w else w.p)))

/-- One axis issues its last step: a MOVING axis is READY at its target, and everything else stays. A
MOVING axis is driven with |target - position| times its steps per unit, toward the target, at its
maximum step rate; a homing one toward the travel minimum at one quarter of it; in the other states its
step output is still. That under a stop it finishes the unit after the last it reached is logs 13 and
28, and that the event changes nothing of an axis that is not MOVING is log 5. -/
def Obligations.TheLastStepOfAnAxis : Prop :=
  (∀ (ax : Axis) (b : Blocks),
    let c := match ax with
      | .x => b.cf.config.x
      | .y => b.cf.config.y
    let r := b.fc.axis ax
    (∀ p q : Int, r.state = .moving → r.pos = some p → r.target = some q →
      (b.fc.stopAsked = false → b.steps ax
        = some ⟨decide (p < q), (q - p).natAbs * c.stepsPerUnit, 1000 * c.maxRate⟩)
      ∧ (b.fc.stopAsked = true → p ≠ q → b.steps ax
        = some ⟨decide (p < q), c.stepsPerUnit, 1000 * c.maxRate⟩))
    ∧ (r.state = .homing → b.steps ax
        = some ⟨false, ((c.travelMax - c.travelMin).natAbs + 100 - r.homingUnits) * c.stepsPerUnit,
            250 * c.maxRate⟩)
    ∧ (r.state ∉ [.moving, .homing] → b.steps ax = none))
  ∧ ∀ (ax : Axis) (s : State),
    ((s.blk.fc.axis ax).state ≠ .moving → exec (.axisLastStepIssued ax) s = .next s)
    ∧ (∀ q : Int, (s.blk.fc.axis ax).state = .moving → (s.blk.fc.axis ax).target = some q →
      (s.blk.fc.stopAsked = false → exec (.axisLastStepIssued ax) s = .next
        { s with
          blk.fc := s.blk.fc.setAxis ax
            { s.blk.fc.axis ax with state := .ready, pos := some q, target := none } })
      ∧ (∀ p : Int, s.blk.fc.stopAsked = true → (s.blk.fc.axis ax).pos = some p →
        exec (.axisLastStepIssued ax) s = .next
          { s with
            blk.fc := s.blk.fc.setAxis ax
              { s.blk.fc.axis ax with
                state := .ready, target := none
                pos := some (if p < q then p + 1 else if q < p then p - 1 else p) } }))
end

