-- ==== Sys2Proof/Laws/State.lean ====
section
/-!
SUPPORT. What each shared operation leaves alone, one lemma a field: a later proof rewrites with
these and unfolds no record update.
-/

namespace Sys2Proof.Machine

@[simp] theorem Blocks.raise_cf (b : Blocks) (k : ReportKind) : (b.raise k).cf = b.cf := rfl
@[simp] theorem Blocks.raise_ds (b : Blocks) (k : ReportKind) : (b.raise k).ds = b.ds := rfl
@[simp] theorem Blocks.raise_fc (b : Blocks) (k : ReportKind) : (b.raise k).fc = b.fc := rfl
@[simp] theorem Blocks.raise_sc (b : Blocks) (k : ReportKind) : (b.raise k).sc = b.sc := rfl
@[simp] theorem Blocks.raise_rc (b : Blocks) (k : ReportKind) : (b.raise k).rc = b.rc := rfl
@[simp] theorem Blocks.raise_hu (b : Blocks) (k : ReportKind) : (b.raise k).hu = b.hu := rfl
@[simp] theorem Blocks.raise_tp (b : Blocks) (k : ReportKind) : (b.raise k).tp = b.tp := rfl
@[simp] theorem Blocks.raise_tm (b : Blocks) (k : ReportKind) : (b.raise k).tm = b.tm := rfl
@[simp] theorem Blocks.raise_rt (b : Blocks) (k : ReportKind) : (b.raise k).rt = b.rt := rfl
@[simp] theorem Blocks.raise_fl (b : Blocks) (k : ReportKind) : (b.raise k).fl = b.fl := rfl
@[simp] theorem Blocks.raise_pins (b : Blocks) (k : ReportKind) : (b.raise k).pins = b.pins := rfl
@[simp] theorem Blocks.raise_draws (b : Blocks) (k : ReportKind) :
    (b.raise k).draws = b.draws := rfl

@[simp] theorem Blocks.headEvent_cf (b : Blocks) (h : HeadId) (e : HeadEvent) :
    (b.headEvent h e).cf = b.cf := rfl
@[simp] theorem Blocks.headEvent_ds (b : Blocks) (h : HeadId) (e : HeadEvent) :
    (b.headEvent h e).ds = b.ds := rfl
@[simp] theorem Blocks.headEvent_fc (b : Blocks) (h : HeadId) (e : HeadEvent) :
    (b.headEvent h e).fc = b.fc := rfl
@[simp] theorem Blocks.headEvent_sc (b : Blocks) (h : HeadId) (e : HeadEvent) :
    (b.headEvent h e).sc = b.sc := rfl
@[simp] theorem Blocks.headEvent_rc (b : Blocks) (h : HeadId) (e : HeadEvent) :
    (b.headEvent h e).rc = b.rc := rfl
@[simp] theorem Blocks.headEvent_hu (b : Blocks) (h : HeadId) (e : HeadEvent) :
    (b.headEvent h e).hu = b.hu := rfl
@[simp] theorem Blocks.headEvent_tp (b : Blocks) (h : HeadId) (e : HeadEvent) :
    (b.headEvent h e).tp = b.tp := rfl
@[simp] theorem Blocks.headEvent_tm (b : Blocks) (h : HeadId) (e : HeadEvent) :
    (b.headEvent h e).tm = b.tm := rfl
@[simp] theorem Blocks.headEvent_rt (b : Blocks) (h : HeadId) (e : HeadEvent) :
    (b.headEvent h e).rt = b.rt := rfl
@[simp] theorem Blocks.headEvent_fl (b : Blocks) (h : HeadId) (e : HeadEvent) :
    (b.headEvent h e).fl = b.fl := rfl
@[simp] theorem Blocks.headEvent_pins (b : Blocks) (h : HeadId) (e : HeadEvent) :
    (b.headEvent h e).pins = b.pins := rfl
@[simp] theorem Blocks.headEvent_draws (b : Blocks) (h : HeadId) (e : HeadEvent) :
    (b.headEvent h e).draws = b.draws := rfl

@[simp] theorem Blocks.goto_cf (b : Blocks) (rs : RunState) (cause : Option PauseCause) :
    (b.goto rs cause).cf = b.cf := by
  unfold Blocks.goto; split <;> rfl
@[simp] theorem Blocks.goto_ds (b : Blocks) (rs : RunState) (cause : Option PauseCause) :
    (b.goto rs cause).ds = b.ds := by
  unfold Blocks.goto; split <;> rfl
@[simp] theorem Blocks.goto_fc (b : Blocks) (rs : RunState) (cause : Option PauseCause) :
    (b.goto rs cause).fc = b.fc := by
  unfold Blocks.goto; split <;> rfl
@[simp] theorem Blocks.goto_sc (b : Blocks) (rs : RunState) (cause : Option PauseCause) :
    (b.goto rs cause).sc = b.sc := by
  unfold Blocks.goto; split <;> rfl
@[simp] theorem Blocks.goto_hu (b : Blocks) (rs : RunState) (cause : Option PauseCause) :
    (b.goto rs cause).hu = b.hu := by
  unfold Blocks.goto; split <;> rfl
@[simp] theorem Blocks.goto_tp (b : Blocks) (rs : RunState) (cause : Option PauseCause) :
    (b.goto rs cause).tp = b.tp := by
  unfold Blocks.goto; split <;> rfl
@[simp] theorem Blocks.goto_tm (b : Blocks) (rs : RunState) (cause : Option PauseCause) :
    (b.goto rs cause).tm = b.tm := by
  unfold Blocks.goto; split <;> rfl
@[simp] theorem Blocks.goto_rt (b : Blocks) (rs : RunState) (cause : Option PauseCause) :
    (b.goto rs cause).rt = b.rt := by
  unfold Blocks.goto; split <;> rfl
@[simp] theorem Blocks.goto_fl (b : Blocks) (rs : RunState) (cause : Option PauseCause) :
    (b.goto rs cause).fl = b.fl := by
  unfold Blocks.goto; split <;> rfl
@[simp] theorem Blocks.goto_pins (b : Blocks) (rs : RunState) (cause : Option PauseCause) :
    (b.goto rs cause).pins = b.pins := by
  unfold Blocks.goto; split <;> rfl
@[simp] theorem Blocks.goto_draws (b : Blocks) (rs : RunState) (cause : Option PauseCause) :
    (b.goto rs cause).draws = b.draws := by
  unfold Blocks.goto; split <;> rfl

@[simp] theorem Blocks.modHead_cf (b : Blocks) (h : HeadId) (f : Head → Head) :
    (b.modHead h f).cf = b.cf := rfl
@[simp] theorem Blocks.modHead_ds (b : Blocks) (h : HeadId) (f : Head → Head) :
    (b.modHead h f).ds = b.ds := rfl
@[simp] theorem Blocks.modHead_fc (b : Blocks) (h : HeadId) (f : Head → Head) :
    (b.modHead h f).fc = b.fc := rfl
@[simp] theorem Blocks.modHead_sc (b : Blocks) (h : HeadId) (f : Head → Head) :
    (b.modHead h f).sc = b.sc := rfl
@[simp] theorem Blocks.modHead_rc (b : Blocks) (h : HeadId) (f : Head → Head) :
    (b.modHead h f).rc = b.rc := rfl
@[simp] theorem Blocks.modHead_tp (b : Blocks) (h : HeadId) (f : Head → Head) :
    (b.modHead h f).tp = b.tp := rfl
@[simp] theorem Blocks.modHead_tm (b : Blocks) (h : HeadId) (f : Head → Head) :
    (b.modHead h f).tm = b.tm := rfl
@[simp] theorem Blocks.modHead_rt (b : Blocks) (h : HeadId) (f : Head → Head) :
    (b.modHead h f).rt = b.rt := rfl
@[simp] theorem Blocks.modHead_fl (b : Blocks) (h : HeadId) (f : Head → Head) :
    (b.modHead h f).fl = b.fl := rfl
@[simp] theorem Blocks.modHead_ru (b : Blocks) (h : HeadId) (f : Head → Head) :
    (b.modHead h f).ru = b.ru := rfl
@[simp] theorem Blocks.modHead_pins (b : Blocks) (h : HeadId) (f : Head → Head) :
    (b.modHead h f).pins = b.pins := rfl
@[simp] theorem Blocks.modHead_draws (b : Blocks) (h : HeadId) (f : Head → Head) :
    (b.modHead h f).draws = b.draws := rfl

@[simp] theorem Blocks.modMonitor_cf (b : Blocks) (h : HeadId) (f : Monitor → Monitor) :
    (b.modMonitor h f).cf = b.cf := rfl
@[simp] theorem Blocks.modMonitor_ds (b : Blocks) (h : HeadId) (f : Monitor → Monitor) :
    (b.modMonitor h f).ds = b.ds := rfl
@[simp] theorem Blocks.modMonitor_fc (b : Blocks) (h : HeadId) (f : Monitor → Monitor) :
    (b.modMonitor h f).fc = b.fc := rfl
@[simp] theorem Blocks.modMonitor_sc (b : Blocks) (h : HeadId) (f : Monitor → Monitor) :
    (b.modMonitor h f).sc = b.sc := rfl
@[simp] theorem Blocks.modMonitor_rc (b : Blocks) (h : HeadId) (f : Monitor → Monitor) :
    (b.modMonitor h f).rc = b.rc := rfl
@[simp] theorem Blocks.modMonitor_hu (b : Blocks) (h : HeadId) (f : Monitor → Monitor) :
    (b.modMonitor h f).hu = b.hu := rfl
@[simp] theorem Blocks.modMonitor_tp (b : Blocks) (h : HeadId) (f : Monitor → Monitor) :
    (b.modMonitor h f).tp = b.tp := rfl
@[simp] theorem Blocks.modMonitor_rt (b : Blocks) (h : HeadId) (f : Monitor → Monitor) :
    (b.modMonitor h f).rt = b.rt := rfl
@[simp] theorem Blocks.modMonitor_fl (b : Blocks) (h : HeadId) (f : Monitor → Monitor) :
    (b.modMonitor h f).fl = b.fl := rfl
@[simp] theorem Blocks.modMonitor_ru (b : Blocks) (h : HeadId) (f : Monitor → Monitor) :
    (b.modMonitor h f).ru = b.ru := rfl
@[simp] theorem Blocks.modMonitor_pins (b : Blocks) (h : HeadId) (f : Monitor → Monitor) :
    (b.modMonitor h f).pins = b.pins := rfl
@[simp] theorem Blocks.modMonitor_draws (b : Blocks) (h : HeadId) (f : Monitor → Monitor) :
    (b.modMonitor h f).draws = b.draws := rfl

@[simp] theorem Blocks.relaxHeads_cf (b : Blocks) : (b.relaxHeads).cf = b.cf := rfl
@[simp] theorem Blocks.relaxHeads_ds (b : Blocks) : (b.relaxHeads).ds = b.ds := rfl
@[simp] theorem Blocks.relaxHeads_fc (b : Blocks) : (b.relaxHeads).fc = b.fc := rfl
@[simp] theorem Blocks.relaxHeads_sc (b : Blocks) : (b.relaxHeads).sc = b.sc := rfl
@[simp] theorem Blocks.relaxHeads_rc (b : Blocks) : (b.relaxHeads).rc = b.rc := rfl
@[simp] theorem Blocks.relaxHeads_tp (b : Blocks) : (b.relaxHeads).tp = b.tp := rfl
@[simp] theorem Blocks.relaxHeads_tm (b : Blocks) : (b.relaxHeads).tm = b.tm := rfl
@[simp] theorem Blocks.relaxHeads_rt (b : Blocks) : (b.relaxHeads).rt = b.rt := rfl
@[simp] theorem Blocks.relaxHeads_fl (b : Blocks) : (b.relaxHeads).fl = b.fl := rfl
@[simp] theorem Blocks.relaxHeads_ru (b : Blocks) : (b.relaxHeads).ru = b.ru := rfl
@[simp] theorem Blocks.relaxHeads_pins (b : Blocks) : (b.relaxHeads).pins = b.pins := rfl
@[simp] theorem Blocks.relaxHeads_draws (b : Blocks) : (b.relaxHeads).draws = b.draws := rfl

@[simp] theorem Blocks.monitorLeaves_cf (b : Blocks) (h : HeadId) :
    (b.monitorLeaves h).cf = b.cf := by
  unfold Blocks.monitorLeaves; split <;> rfl
@[simp] theorem Blocks.monitorLeaves_ds (b : Blocks) (h : HeadId) :
    (b.monitorLeaves h).ds = b.ds := by
  unfold Blocks.monitorLeaves; split <;> rfl
@[simp] theorem Blocks.monitorLeaves_fc (b : Blocks) (h : HeadId) :
    (b.monitorLeaves h).fc = b.fc := by
  unfold Blocks.monitorLeaves; split <;> rfl
@[simp] theorem Blocks.monitorLeaves_sc (b : Blocks) (h : HeadId) :
    (b.monitorLeaves h).sc = b.sc := by
  unfold Blocks.monitorLeaves; split <;> rfl
@[simp] theorem Blocks.monitorLeaves_rc (b : Blocks) (h : HeadId) :
    (b.monitorLeaves h).rc = b.rc := by
  unfold Blocks.monitorLeaves; split <;> rfl
@[simp] theorem Blocks.monitorLeaves_hu (b : Blocks) (h : HeadId) :
    (b.monitorLeaves h).hu = b.hu := by
  unfold Blocks.monitorLeaves; split <;> rfl
@[simp] theorem Blocks.monitorLeaves_tp (b : Blocks) (h : HeadId) :
    (b.monitorLeaves h).tp = b.tp := by
  unfold Blocks.monitorLeaves; split <;> rfl
@[simp] theorem Blocks.monitorLeaves_rt (b : Blocks) (h : HeadId) :
    (b.monitorLeaves h).rt = b.rt := by
  unfold Blocks.monitorLeaves; split <;> rfl
@[simp] theorem Blocks.monitorLeaves_fl (b : Blocks) (h : HeadId) :
    (b.monitorLeaves h).fl = b.fl := by
  unfold Blocks.monitorLeaves; split <;> rfl
@[simp] theorem Blocks.monitorLeaves_ru (b : Blocks) (h : HeadId) :
    (b.monitorLeaves h).ru = b.ru := by
  unfold Blocks.monitorLeaves; split <;> rfl
@[simp] theorem Blocks.monitorLeaves_pins (b : Blocks) (h : HeadId) :
    (b.monitorLeaves h).pins = b.pins := by
  unfold Blocks.monitorLeaves; split <;> rfl
@[simp] theorem Blocks.monitorLeaves_draws (b : Blocks) (h : HeadId) :
    (b.monitorLeaves h).draws = b.draws := by
  unfold Blocks.monitorLeaves; split <;> rfl

@[simp] theorem Blocks.releaseTest_cf (b : Blocks) :
    (b.releaseTest).cf = b.cf := by
  unfold Blocks.releaseTest; simp only []; split <;> rfl
@[simp] theorem Blocks.releaseTest_fc (b : Blocks) :
    (b.releaseTest).fc = b.fc := by
  unfold Blocks.releaseTest; simp only []; split <;> rfl
@[simp] theorem Blocks.releaseTest_sc (b : Blocks) :
    (b.releaseTest).sc = b.sc := by
  unfold Blocks.releaseTest; simp only []; split <;> rfl
@[simp] theorem Blocks.releaseTest_rc (b : Blocks) :
    (b.releaseTest).rc = b.rc := by
  unfold Blocks.releaseTest; simp only []; split <;> rfl
@[simp] theorem Blocks.releaseTest_hu (b : Blocks) :
    (b.releaseTest).hu = b.hu := by
  unfold Blocks.releaseTest; simp only []; split <;> rfl
@[simp] theorem Blocks.releaseTest_tp (b : Blocks) :
    (b.releaseTest).tp = b.tp := by
  unfold Blocks.releaseTest; simp only []; split <;> rfl
@[simp] theorem Blocks.releaseTest_tm (b : Blocks) :
    (b.releaseTest).tm = b.tm := by
  unfold Blocks.releaseTest; simp only []; split <;> rfl
@[simp] theorem Blocks.releaseTest_rt (b : Blocks) :
    (b.releaseTest).rt = b.rt := by
  unfold Blocks.releaseTest; simp only []; split <;> rfl
@[simp] theorem Blocks.releaseTest_fl (b : Blocks) :
    (b.releaseTest).fl = b.fl := by
  unfold Blocks.releaseTest; simp only []; split <;> rfl
@[simp] theorem Blocks.releaseTest_pins (b : Blocks) :
    (b.releaseTest).pins = b.pins := by
  unfold Blocks.releaseTest; simp only []; split <;> rfl
@[simp] theorem Blocks.releaseTest_draws (b : Blocks) :
    (b.releaseTest).draws = b.draws := by
  unfold Blocks.releaseTest; simp only []; split <;> rfl

@[simp] theorem Blocks.readSlot_cf (b : Blocks) : (b.readSlot).cf = b.cf := rfl
@[simp] theorem Blocks.readSlot_ds (b : Blocks) : (b.readSlot).ds = b.ds := rfl
@[simp] theorem Blocks.readSlot_fc (b : Blocks) : (b.readSlot).fc = b.fc := rfl
@[simp] theorem Blocks.readSlot_sc (b : Blocks) : (b.readSlot).sc = b.sc := rfl
@[simp] theorem Blocks.readSlot_hu (b : Blocks) : (b.readSlot).hu = b.hu := rfl
@[simp] theorem Blocks.readSlot_tp (b : Blocks) : (b.readSlot).tp = b.tp := rfl
@[simp] theorem Blocks.readSlot_tm (b : Blocks) : (b.readSlot).tm = b.tm := rfl
@[simp] theorem Blocks.readSlot_rt (b : Blocks) : (b.readSlot).rt = b.rt := rfl
@[simp] theorem Blocks.readSlot_fl (b : Blocks) : (b.readSlot).fl = b.fl := rfl
@[simp] theorem Blocks.readSlot_ru (b : Blocks) : (b.readSlot).ru = b.ru := rfl
@[simp] theorem Blocks.readSlot_pins (b : Blocks) : (b.readSlot).pins = b.pins := rfl
@[simp] theorem Blocks.readSlot_draws (b : Blocks) : (b.readSlot).draws = b.draws := rfl

@[simp] theorem Blocks.advance_cf (b : Blocks) :
    (b.advance).cf = b.cf := by
  unfold Blocks.advance; split <;> simp
@[simp] theorem Blocks.advance_fc (b : Blocks) :
    (b.advance).fc = b.fc := by
  unfold Blocks.advance; split <;> simp
@[simp] theorem Blocks.advance_sc (b : Blocks) :
    (b.advance).sc = b.sc := by
  unfold Blocks.advance; split <;> simp
@[simp] theorem Blocks.advance_hu (b : Blocks) :
    (b.advance).hu = b.hu := by
  unfold Blocks.advance; split <;> simp
@[simp] theorem Blocks.advance_tp (b : Blocks) :
    (b.advance).tp = b.tp := by
  unfold Blocks.advance; split <;> simp
@[simp] theorem Blocks.advance_tm (b : Blocks) :
    (b.advance).tm = b.tm := by
  unfold Blocks.advance; split <;> simp
@[simp] theorem Blocks.advance_rt (b : Blocks) :
    (b.advance).rt = b.rt := by
  unfold Blocks.advance; split <;> simp
@[simp] theorem Blocks.advance_fl (b : Blocks) :
    (b.advance).fl = b.fl := by
  unfold Blocks.advance; split <;> simp
@[simp] theorem Blocks.advance_pins (b : Blocks) :
    (b.advance).pins = b.pins := by
  unfold Blocks.advance; split <;> simp
@[simp] theorem Blocks.advance_draws (b : Blocks) :
    (b.advance).draws = b.draws := by
  unfold Blocks.advance; split <;> simp

@[simp] theorem Blocks.emptyStore_cf (b : Blocks) :
    (b.emptyStore).cf = b.cf := by
  unfold Blocks.emptyStore; simp only []; split <;> rfl
@[simp] theorem Blocks.emptyStore_fc (b : Blocks) :
    (b.emptyStore).fc = b.fc := by
  unfold Blocks.emptyStore; simp only []; split <;> rfl
@[simp] theorem Blocks.emptyStore_sc (b : Blocks) :
    (b.emptyStore).sc = b.sc := by
  unfold Blocks.emptyStore; simp only []; split <;> rfl
@[simp] theorem Blocks.emptyStore_hu (b : Blocks) :
    (b.emptyStore).hu = b.hu := by
  unfold Blocks.emptyStore; simp only []; split <;> rfl
@[simp] theorem Blocks.emptyStore_tp (b : Blocks) :
    (b.emptyStore).tp = b.tp := by
  unfold Blocks.emptyStore; simp only []; split <;> rfl
@[simp] theorem Blocks.emptyStore_rt (b : Blocks) :
    (b.emptyStore).rt = b.rt := by
  unfold Blocks.emptyStore; simp only []; split <;> rfl
@[simp] theorem Blocks.emptyStore_fl (b : Blocks) :
    (b.emptyStore).fl = b.fl := by
  unfold Blocks.emptyStore; simp only []; split <;> rfl
@[simp] theorem Blocks.emptyStore_pins (b : Blocks) :
    (b.emptyStore).pins = b.pins := by
  unfold Blocks.emptyStore; simp only []; split <;> rfl
@[simp] theorem Blocks.emptyStore_draws (b : Blocks) :
    (b.emptyStore).draws = b.draws := by
  unfold Blocks.emptyStore; simp only []; split <;> rfl

@[simp] theorem Blocks.setRanges_cf (b : Blocks) (rt : Eight (List Range)) :
    (b.setRanges rt).cf = b.cf := by
  unfold Blocks.setRanges; simp only []; split <;> simp
@[simp] theorem Blocks.setRanges_fc (b : Blocks) (rt : Eight (List Range)) :
    (b.setRanges rt).fc = b.fc := by
  unfold Blocks.setRanges; simp only []; split <;> simp
@[simp] theorem Blocks.setRanges_sc (b : Blocks) (rt : Eight (List Range)) :
    (b.setRanges rt).sc = b.sc := by
  unfold Blocks.setRanges; simp only []; split <;> simp
@[simp] theorem Blocks.setRanges_rc (b : Blocks) (rt : Eight (List Range)) :
    (b.setRanges rt).rc = b.rc := by
  unfold Blocks.setRanges; simp only []; split <;> simp
@[simp] theorem Blocks.setRanges_hu (b : Blocks) (rt : Eight (List Range)) :
    (b.setRanges rt).hu = b.hu := by
  unfold Blocks.setRanges; simp only []; split <;> simp
@[simp] theorem Blocks.setRanges_tp (b : Blocks) (rt : Eight (List Range)) :
    (b.setRanges rt).tp = b.tp := by
  unfold Blocks.setRanges; simp only []; split <;> simp
@[simp] theorem Blocks.setRanges_tm (b : Blocks) (rt : Eight (List Range)) :
    (b.setRanges rt).tm = b.tm := by
  unfold Blocks.setRanges; simp only []; split <;> simp
@[simp] theorem Blocks.setRanges_fl (b : Blocks) (rt : Eight (List Range)) :
    (b.setRanges rt).fl = b.fl := by
  unfold Blocks.setRanges; simp only []; split <;> simp
@[simp] theorem Blocks.setRanges_pins (b : Blocks) (rt : Eight (List Range)) :
    (b.setRanges rt).pins = b.pins := by
  unfold Blocks.setRanges; simp only []; split <;> simp
@[simp] theorem Blocks.setRanges_draws (b : Blocks) (rt : Eight (List Range)) :
    (b.setRanges rt).draws = b.draws := by
  unfold Blocks.setRanges; simp only []; split <;> simp

@[simp] theorem Blocks.closeRange_cf (b : Blocks) (h : HeadId) (s : Nat) :
    (b.closeRange h s).cf = b.cf := by
  simp [Blocks.closeRange]
@[simp] theorem Blocks.closeRange_fc (b : Blocks) (h : HeadId) (s : Nat) :
    (b.closeRange h s).fc = b.fc := by
  simp [Blocks.closeRange]
@[simp] theorem Blocks.closeRange_sc (b : Blocks) (h : HeadId) (s : Nat) :
    (b.closeRange h s).sc = b.sc := by
  simp [Blocks.closeRange]
@[simp] theorem Blocks.closeRange_rc (b : Blocks) (h : HeadId) (s : Nat) :
    (b.closeRange h s).rc = b.rc := by
  simp [Blocks.closeRange]
@[simp] theorem Blocks.closeRange_hu (b : Blocks) (h : HeadId) (s : Nat) :
    (b.closeRange h s).hu = b.hu := by
  simp [Blocks.closeRange]
@[simp] theorem Blocks.closeRange_tp (b : Blocks) (h : HeadId) (s : Nat) :
    (b.closeRange h s).tp = b.tp := by
  simp [Blocks.closeRange]
@[simp] theorem Blocks.closeRange_tm (b : Blocks) (h : HeadId) (s : Nat) :
    (b.closeRange h s).tm = b.tm := by
  simp [Blocks.closeRange]
@[simp] theorem Blocks.closeRange_fl (b : Blocks) (h : HeadId) (s : Nat) :
    (b.closeRange h s).fl = b.fl := by
  simp [Blocks.closeRange]
@[simp] theorem Blocks.closeRange_pins (b : Blocks) (h : HeadId) (s : Nat) :
    (b.closeRange h s).pins = b.pins := by
  simp [Blocks.closeRange]
@[simp] theorem Blocks.closeRange_draws (b : Blocks) (h : HeadId) (s : Nat) :
    (b.closeRange h s).draws = b.draws := by
  simp [Blocks.closeRange]

@[simp] theorem Blocks.setWork_cf (b : Blocks) (w : Work) : (b.setWork w).cf = b.cf := rfl
@[simp] theorem Blocks.setWork_ds (b : Blocks) (w : Work) : (b.setWork w).ds = b.ds := rfl
@[simp] theorem Blocks.setWork_fc (b : Blocks) (w : Work) : (b.setWork w).fc = b.fc := rfl
@[simp] theorem Blocks.setWork_sc (b : Blocks) (w : Work) : (b.setWork w).sc = b.sc := rfl
@[simp] theorem Blocks.setWork_hu (b : Blocks) (w : Work) : (b.setWork w).hu = b.hu := rfl
@[simp] theorem Blocks.setWork_tp (b : Blocks) (w : Work) : (b.setWork w).tp = b.tp := rfl
@[simp] theorem Blocks.setWork_tm (b : Blocks) (w : Work) : (b.setWork w).tm = b.tm := rfl
@[simp] theorem Blocks.setWork_rt (b : Blocks) (w : Work) : (b.setWork w).rt = b.rt := rfl
@[simp] theorem Blocks.setWork_fl (b : Blocks) (w : Work) : (b.setWork w).fl = b.fl := rfl
@[simp] theorem Blocks.setWork_ru (b : Blocks) (w : Work) : (b.setWork w).ru = b.ru := rfl
@[simp] theorem Blocks.setWork_pins (b : Blocks) (w : Work) : (b.setWork w).pins = b.pins := rfl
@[simp] theorem Blocks.setWork_draws (b : Blocks) (w : Work) :
    (b.setWork w).draws = b.draws := rfl

@[simp] theorem Blocks.beginOp_cf (b : Blocks) (tag : Byte) (w : Work) (rs : RunState) :
    (b.beginOp tag w rs).cf = b.cf := by
  simp [Blocks.beginOp]
@[simp] theorem Blocks.beginOp_ds (b : Blocks) (tag : Byte) (w : Work) (rs : RunState) :
    (b.beginOp tag w rs).ds = b.ds := by
  simp [Blocks.beginOp]
@[simp] theorem Blocks.beginOp_fc (b : Blocks) (tag : Byte) (w : Work) (rs : RunState) :
    (b.beginOp tag w rs).fc = b.fc := by
  simp [Blocks.beginOp]
@[simp] theorem Blocks.beginOp_sc (b : Blocks) (tag : Byte) (w : Work) (rs : RunState) :
    (b.beginOp tag w rs).sc = b.sc := by
  simp [Blocks.beginOp]
@[simp] theorem Blocks.beginOp_hu (b : Blocks) (tag : Byte) (w : Work) (rs : RunState) :
    (b.beginOp tag w rs).hu = b.hu := by
  simp [Blocks.beginOp]
@[simp] theorem Blocks.beginOp_tp (b : Blocks) (tag : Byte) (w : Work) (rs : RunState) :
    (b.beginOp tag w rs).tp = b.tp := by
  simp [Blocks.beginOp]
@[simp] theorem Blocks.beginOp_tm (b : Blocks) (tag : Byte) (w : Work) (rs : RunState) :
    (b.beginOp tag w rs).tm = b.tm := by
  simp [Blocks.beginOp]
@[simp] theorem Blocks.beginOp_rt (b : Blocks) (tag : Byte) (w : Work) (rs : RunState) :
    (b.beginOp tag w rs).rt = b.rt := by
  simp [Blocks.beginOp]
@[simp] theorem Blocks.beginOp_fl (b : Blocks) (tag : Byte) (w : Work) (rs : RunState) :
    (b.beginOp tag w rs).fl = b.fl := by
  simp [Blocks.beginOp]
@[simp] theorem Blocks.beginOp_pins (b : Blocks) (tag : Byte) (w : Work) (rs : RunState) :
    (b.beginOp tag w rs).pins = b.pins := by
  simp [Blocks.beginOp]
@[simp] theorem Blocks.beginOp_draws (b : Blocks) (tag : Byte) (w : Work) (rs : RunState) :
    (b.beginOp tag w rs).draws = b.draws := by
  simp [Blocks.beginOp]

@[simp] theorem Blocks.endOp_cf (b : Blocks) (r : OpResult) (f : OpFailures) (rs : RunState) (c : Option PauseCause) :
    (b.endOp r f rs c).cf = b.cf := by
  unfold Blocks.endOp; split <;> simp
@[simp] theorem Blocks.endOp_ds (b : Blocks) (r : OpResult) (f : OpFailures) (rs : RunState) (c : Option PauseCause) :
    (b.endOp r f rs c).ds = b.ds := by
  unfold Blocks.endOp; split <;> simp
@[simp] theorem Blocks.endOp_fc (b : Blocks) (r : OpResult) (f : OpFailures) (rs : RunState) (c : Option PauseCause) :
    (b.endOp r f rs c).fc = b.fc := by
  unfold Blocks.endOp; split <;> simp
@[simp] theorem Blocks.endOp_sc (b : Blocks) (r : OpResult) (f : OpFailures) (rs : RunState) (c : Option PauseCause) :
    (b.endOp r f rs c).sc = b.sc := by
  unfold Blocks.endOp; split <;> simp
@[simp] theorem Blocks.endOp_hu (b : Blocks) (r : OpResult) (f : OpFailures) (rs : RunState) (c : Option PauseCause) :
    (b.endOp r f rs c).hu = b.hu := by
  unfold Blocks.endOp; split <;> simp
@[simp] theorem Blocks.endOp_tp (b : Blocks) (r : OpResult) (f : OpFailures) (rs : RunState) (c : Option PauseCause) :
    (b.endOp r f rs c).tp = b.tp := by
  unfold Blocks.endOp; split <;> simp
@[simp] theorem Blocks.endOp_tm (b : Blocks) (r : OpResult) (f : OpFailures) (rs : RunState) (c : Option PauseCause) :
    (b.endOp r f rs c).tm = b.tm := by
  unfold Blocks.endOp; split <;> simp
@[simp] theorem Blocks.endOp_rt (b : Blocks) (r : OpResult) (f : OpFailures) (rs : RunState) (c : Option PauseCause) :
    (b.endOp r f rs c).rt = b.rt := by
  unfold Blocks.endOp; split <;> simp
@[simp] theorem Blocks.endOp_fl (b : Blocks) (r : OpResult) (f : OpFailures) (rs : RunState) (c : Option PauseCause) :
    (b.endOp r f rs c).fl = b.fl := by
  unfold Blocks.endOp; split <;> simp
@[simp] theorem Blocks.endOp_pins (b : Blocks) (r : OpResult) (f : OpFailures) (rs : RunState) (c : Option PauseCause) :
    (b.endOp r f rs c).pins = b.pins := by
  unfold Blocks.endOp; split <;> simp
@[simp] theorem Blocks.endOp_draws (b : Blocks) (r : OpResult) (f : OpFailures) (rs : RunState) (c : Option PauseCause) :
    (b.endOp r f rs c).draws = b.draws := by
  unfold Blocks.endOp; split <;> simp

@[simp] theorem Blocks.endOpBase_cf (b : Blocks) (r : OpResult) (f : OpFailures) :
    (b.endOpBase r f).cf = b.cf := by
  unfold Blocks.endOpBase; split <;> simp
@[simp] theorem Blocks.endOpBase_ds (b : Blocks) (r : OpResult) (f : OpFailures) :
    (b.endOpBase r f).ds = b.ds := by
  unfold Blocks.endOpBase; split <;> simp
@[simp] theorem Blocks.endOpBase_fc (b : Blocks) (r : OpResult) (f : OpFailures) :
    (b.endOpBase r f).fc = b.fc := by
  unfold Blocks.endOpBase; split <;> simp
@[simp] theorem Blocks.endOpBase_sc (b : Blocks) (r : OpResult) (f : OpFailures) :
    (b.endOpBase r f).sc = b.sc := by
  unfold Blocks.endOpBase; split <;> simp
@[simp] theorem Blocks.endOpBase_hu (b : Blocks) (r : OpResult) (f : OpFailures) :
    (b.endOpBase r f).hu = b.hu := by
  unfold Blocks.endOpBase; split <;> simp
@[simp] theorem Blocks.endOpBase_tp (b : Blocks) (r : OpResult) (f : OpFailures) :
    (b.endOpBase r f).tp = b.tp := by
  unfold Blocks.endOpBase; split <;> simp
@[simp] theorem Blocks.endOpBase_tm (b : Blocks) (r : OpResult) (f : OpFailures) :
    (b.endOpBase r f).tm = b.tm := by
  unfold Blocks.endOpBase; split <;> simp
@[simp] theorem Blocks.endOpBase_rt (b : Blocks) (r : OpResult) (f : OpFailures) :
    (b.endOpBase r f).rt = b.rt := by
  unfold Blocks.endOpBase; split <;> simp
@[simp] theorem Blocks.endOpBase_fl (b : Blocks) (r : OpResult) (f : OpFailures) :
    (b.endOpBase r f).fl = b.fl := by
  unfold Blocks.endOpBase; split <;> simp
@[simp] theorem Blocks.endOpBase_pins (b : Blocks) (r : OpResult) (f : OpFailures) :
    (b.endOpBase r f).pins = b.pins := by
  unfold Blocks.endOpBase; split <;> simp
@[simp] theorem Blocks.endOpBase_draws (b : Blocks) (r : OpResult) (f : OpFailures) :
    (b.endOpBase r f).draws = b.draws := by
  unfold Blocks.endOpBase; split <;> simp

@[simp] theorem Blocks.patchSettle_cf (b : Blocks) (w : PatchWork) (start : Nat) :
    (b.patchSettle w start).cf = b.cf := by
  simp [Blocks.patchSettle]
@[simp] theorem Blocks.patchSettle_sc (b : Blocks) (w : PatchWork) (start : Nat) :
    (b.patchSettle w start).sc = b.sc := by
  simp [Blocks.patchSettle]
@[simp] theorem Blocks.patchSettle_tp (b : Blocks) (w : PatchWork) (start : Nat) :
    (b.patchSettle w start).tp = b.tp := by
  simp [Blocks.patchSettle]
@[simp] theorem Blocks.patchSettle_tm (b : Blocks) (w : PatchWork) (start : Nat) :
    (b.patchSettle w start).tm = b.tm := by
  simp [Blocks.patchSettle]
@[simp] theorem Blocks.patchSettle_fl (b : Blocks) (w : PatchWork) (start : Nat) :
    (b.patchSettle w start).fl = b.fl := by
  simp [Blocks.patchSettle]
@[simp] theorem Blocks.patchSettle_pins (b : Blocks) (w : PatchWork) (start : Nat) :
    (b.patchSettle w start).pins = b.pins := by
  simp [Blocks.patchSettle]
@[simp] theorem Blocks.patchSettle_draws (b : Blocks) (w : PatchWork) (start : Nat) :
    (b.patchSettle w start).draws = b.draws := by
  simp [Blocks.patchSettle]

@[simp] theorem Blocks.patchMonitorOff_cf (b : Blocks) (w : PatchWork) :
    (b.patchMonitorOff w).cf = b.cf := by
  unfold Blocks.patchMonitorOff; split <;> simp
@[simp] theorem Blocks.patchMonitorOff_ds (b : Blocks) (w : PatchWork) :
    (b.patchMonitorOff w).ds = b.ds := by
  unfold Blocks.patchMonitorOff; split <;> simp
@[simp] theorem Blocks.patchMonitorOff_fc (b : Blocks) (w : PatchWork) :
    (b.patchMonitorOff w).fc = b.fc := by
  unfold Blocks.patchMonitorOff; split <;> simp
@[simp] theorem Blocks.patchMonitorOff_sc (b : Blocks) (w : PatchWork) :
    (b.patchMonitorOff w).sc = b.sc := by
  unfold Blocks.patchMonitorOff; split <;> simp
@[simp] theorem Blocks.patchMonitorOff_rc (b : Blocks) (w : PatchWork) :
    (b.patchMonitorOff w).rc = b.rc := by
  unfold Blocks.patchMonitorOff; split <;> simp
@[simp] theorem Blocks.patchMonitorOff_hu (b : Blocks) (w : PatchWork) :
    (b.patchMonitorOff w).hu = b.hu := by
  unfold Blocks.patchMonitorOff; split <;> simp
@[simp] theorem Blocks.patchMonitorOff_tp (b : Blocks) (w : PatchWork) :
    (b.patchMonitorOff w).tp = b.tp := by
  unfold Blocks.patchMonitorOff; split <;> simp
@[simp] theorem Blocks.patchMonitorOff_rt (b : Blocks) (w : PatchWork) :
    (b.patchMonitorOff w).rt = b.rt := by
  unfold Blocks.patchMonitorOff; split <;> simp
@[simp] theorem Blocks.patchMonitorOff_fl (b : Blocks) (w : PatchWork) :
    (b.patchMonitorOff w).fl = b.fl := by
  unfold Blocks.patchMonitorOff; split <;> simp
@[simp] theorem Blocks.patchMonitorOff_ru (b : Blocks) (w : PatchWork) :
    (b.patchMonitorOff w).ru = b.ru := by
  unfold Blocks.patchMonitorOff; split <;> simp
@[simp] theorem Blocks.patchMonitorOff_pins (b : Blocks) (w : PatchWork) :
    (b.patchMonitorOff w).pins = b.pins := by
  unfold Blocks.patchMonitorOff; split <;> simp
@[simp] theorem Blocks.patchMonitorOff_draws (b : Blocks) (w : PatchWork) :
    (b.patchMonitorOff w).draws = b.draws := by
  unfold Blocks.patchMonitorOff; split <;> simp

@[simp] theorem Blocks.patchEnd_cf (b : Blocks) (w : PatchWork) (r : OpResult) (start : Nat) :
    (b.patchEnd w r start).cf = b.cf := by
  simp [Blocks.patchEnd]
@[simp] theorem Blocks.patchEnd_sc (b : Blocks) (w : PatchWork) (r : OpResult) (start : Nat) :
    (b.patchEnd w r start).sc = b.sc := by
  simp [Blocks.patchEnd]
@[simp] theorem Blocks.patchEnd_tp (b : Blocks) (w : PatchWork) (r : OpResult) (start : Nat) :
    (b.patchEnd w r start).tp = b.tp := by
  simp [Blocks.patchEnd]
@[simp] theorem Blocks.patchEnd_fl (b : Blocks) (w : PatchWork) (r : OpResult) (start : Nat) :
    (b.patchEnd w r start).fl = b.fl := by
  simp [Blocks.patchEnd]
@[simp] theorem Blocks.patchEnd_pins (b : Blocks) (w : PatchWork) (r : OpResult) (start : Nat) :
    (b.patchEnd w r start).pins = b.pins := by
  simp [Blocks.patchEnd]
@[simp] theorem Blocks.patchEnd_draws (b : Blocks) (w : PatchWork) (r : OpResult) (start : Nat) :
    (b.patchEnd w r start).draws = b.draws := by
  simp [Blocks.patchEnd]

@[simp] theorem Blocks.patchStopped_cf (b : Blocks) (w : PatchWork) :
    (b.patchStopped w).cf = b.cf := by
  simp [Blocks.patchStopped]
@[simp] theorem Blocks.patchStopped_sc (b : Blocks) (w : PatchWork) :
    (b.patchStopped w).sc = b.sc := by
  simp [Blocks.patchStopped]
@[simp] theorem Blocks.patchStopped_tp (b : Blocks) (w : PatchWork) :
    (b.patchStopped w).tp = b.tp := by
  simp [Blocks.patchStopped]
@[simp] theorem Blocks.patchStopped_fl (b : Blocks) (w : PatchWork) :
    (b.patchStopped w).fl = b.fl := by
  simp [Blocks.patchStopped]
@[simp] theorem Blocks.patchStopped_pins (b : Blocks) (w : PatchWork) :
    (b.patchStopped w).pins = b.pins := by
  simp [Blocks.patchStopped]
@[simp] theorem Blocks.patchStopped_draws (b : Blocks) (w : PatchWork) :
    (b.patchStopped w).draws = b.draws := by
  simp [Blocks.patchStopped]

@[simp] theorem Blocks.haltRun_cf (b : Blocks) :
    (b.haltRun).cf = b.cf := by
  unfold Blocks.haltRun; simp only []; split <;> simp
@[simp] theorem Blocks.haltRun_sc (b : Blocks) :
    (b.haltRun).sc = b.sc := by
  unfold Blocks.haltRun; simp only []; split <;> simp
@[simp] theorem Blocks.haltRun_tp (b : Blocks) :
    (b.haltRun).tp = b.tp := by
  unfold Blocks.haltRun; simp only []; split <;> simp
@[simp] theorem Blocks.haltRun_fl (b : Blocks) :
    (b.haltRun).fl = b.fl := by
  unfold Blocks.haltRun; simp only []; split <;> simp
@[simp] theorem Blocks.haltRun_pins (b : Blocks) :
    (b.haltRun).pins = b.pins := by
  unfold Blocks.haltRun; simp only []; split <;> simp
@[simp] theorem Blocks.haltRun_draws (b : Blocks) :
    (b.haltRun).draws = b.draws := by
  unfold Blocks.haltRun; simp only []; split <;> simp

@[simp] theorem Blocks.halt_cf (b : Blocks) :
    (b.halt).cf = b.cf := by
  simp [Blocks.halt]
@[simp] theorem Blocks.halt_tp (b : Blocks) :
    (b.halt).tp = b.tp := by
  simp [Blocks.halt]
@[simp] theorem Blocks.halt_fl (b : Blocks) :
    (b.halt).fl = b.fl := by
  simp [Blocks.halt]
@[simp] theorem Blocks.halt_pins (b : Blocks) :
    (b.halt).pins = b.pins := by
  simp [Blocks.halt]
@[simp] theorem Blocks.halt_draws (b : Blocks) :
    (b.halt).draws = b.draws := by
  simp [Blocks.halt]

@[simp] theorem Blocks.patchInterrupt_cf (b : Blocks) (w : PatchWork) (fault : Bool) :
    (b.patchInterrupt w fault).cf = b.cf := by
  unfold Blocks.patchInterrupt; simp only []; repeat' split
  all_goals simp
@[simp] theorem Blocks.patchInterrupt_tp (b : Blocks) (w : PatchWork) (fault : Bool) :
    (b.patchInterrupt w fault).tp = b.tp := by
  unfold Blocks.patchInterrupt; simp only []; repeat' split
  all_goals simp
@[simp] theorem Blocks.patchInterrupt_fl (b : Blocks) (w : PatchWork) (fault : Bool) :
    (b.patchInterrupt w fault).fl = b.fl := by
  unfold Blocks.patchInterrupt; simp only []; repeat' split
  all_goals simp
@[simp] theorem Blocks.patchInterrupt_pins (b : Blocks) (w : PatchWork) (fault : Bool) :
    (b.patchInterrupt w fault).pins = b.pins := by
  unfold Blocks.patchInterrupt; simp only []; repeat' split
  all_goals simp
@[simp] theorem Blocks.patchInterrupt_draws (b : Blocks) (w : PatchWork) (fault : Bool) :
    (b.patchInterrupt w fault).draws = b.draws := by
  unfold Blocks.patchInterrupt; simp only []; repeat' split
  all_goals simp

@[simp] theorem Blocks.stopTravel_cf (b : Blocks) (c : PauseCause) :
    (b.stopTravel c).cf = b.cf := by
  unfold Blocks.stopTravel; split <;> simp
@[simp] theorem Blocks.stopTravel_ds (b : Blocks) (c : PauseCause) :
    (b.stopTravel c).ds = b.ds := by
  unfold Blocks.stopTravel; split <;> simp
@[simp] theorem Blocks.stopTravel_sc (b : Blocks) (c : PauseCause) :
    (b.stopTravel c).sc = b.sc := by
  unfold Blocks.stopTravel; split <;> simp
@[simp] theorem Blocks.stopTravel_hu (b : Blocks) (c : PauseCause) :
    (b.stopTravel c).hu = b.hu := by
  unfold Blocks.stopTravel; split <;> simp
@[simp] theorem Blocks.stopTravel_tp (b : Blocks) (c : PauseCause) :
    (b.stopTravel c).tp = b.tp := by
  unfold Blocks.stopTravel; split <;> simp
@[simp] theorem Blocks.stopTravel_tm (b : Blocks) (c : PauseCause) :
    (b.stopTravel c).tm = b.tm := by
  unfold Blocks.stopTravel; split <;> simp
@[simp] theorem Blocks.stopTravel_rt (b : Blocks) (c : PauseCause) :
    (b.stopTravel c).rt = b.rt := by
  unfold Blocks.stopTravel; split <;> simp
@[simp] theorem Blocks.stopTravel_fl (b : Blocks) (c : PauseCause) :
    (b.stopTravel c).fl = b.fl := by
  unfold Blocks.stopTravel; split <;> simp
@[simp] theorem Blocks.stopTravel_pins (b : Blocks) (c : PauseCause) :
    (b.stopTravel c).pins = b.pins := by
  unfold Blocks.stopTravel; split <;> simp
@[simp] theorem Blocks.stopTravel_draws (b : Blocks) (c : PauseCause) :
    (b.stopTravel c).draws = b.draws := by
  unfold Blocks.stopTravel; split <;> simp

@[simp] theorem Blocks.stopAll_cf (b : Blocks) :
    (b.stopAll).cf = b.cf := by
  unfold Blocks.stopAll; repeat' split
  all_goals simp
@[simp] theorem Blocks.stopAll_tp (b : Blocks) :
    (b.stopAll).tp = b.tp := by
  unfold Blocks.stopAll; repeat' split
  all_goals simp
@[simp] theorem Blocks.stopAll_fl (b : Blocks) :
    (b.stopAll).fl = b.fl := by
  unfold Blocks.stopAll; repeat' split
  all_goals simp
@[simp] theorem Blocks.stopAll_pins (b : Blocks) :
    (b.stopAll).pins = b.pins := by
  unfold Blocks.stopAll; repeat' split
  all_goals simp
@[simp] theorem Blocks.stopAll_draws (b : Blocks) :
    (b.stopAll).draws = b.draws := by
  unfold Blocks.stopAll; repeat' split
  all_goals simp

@[simp] theorem Blocks.writeEntry_cf (b : Blocks) (c : Condition) :
    (b.writeEntry c).cf = b.cf := by
  unfold Blocks.writeEntry; simp only []; split <;> simp
@[simp] theorem Blocks.writeEntry_ds (b : Blocks) (c : Condition) :
    (b.writeEntry c).ds = b.ds := by
  unfold Blocks.writeEntry; simp only []; split <;> simp
@[simp] theorem Blocks.writeEntry_fc (b : Blocks) (c : Condition) :
    (b.writeEntry c).fc = b.fc := by
  unfold Blocks.writeEntry; simp only []; split <;> simp
@[simp] theorem Blocks.writeEntry_sc (b : Blocks) (c : Condition) :
    (b.writeEntry c).sc = b.sc := by
  unfold Blocks.writeEntry; simp only []; split <;> simp
@[simp] theorem Blocks.writeEntry_rc (b : Blocks) (c : Condition) :
    (b.writeEntry c).rc = b.rc := by
  unfold Blocks.writeEntry; simp only []; split <;> simp
@[simp] theorem Blocks.writeEntry_hu (b : Blocks) (c : Condition) :
    (b.writeEntry c).hu = b.hu := by
  unfold Blocks.writeEntry; simp only []; split <;> simp
@[simp] theorem Blocks.writeEntry_tp (b : Blocks) (c : Condition) :
    (b.writeEntry c).tp = b.tp := by
  unfold Blocks.writeEntry; simp only []; split <;> simp
@[simp] theorem Blocks.writeEntry_rt (b : Blocks) (c : Condition) :
    (b.writeEntry c).rt = b.rt := by
  unfold Blocks.writeEntry; simp only []; split <;> simp
@[simp] theorem Blocks.writeEntry_pins (b : Blocks) (c : Condition) :
    (b.writeEntry c).pins = b.pins := by
  unfold Blocks.writeEntry; simp only []; split <;> simp
@[simp] theorem Blocks.writeEntry_draws (b : Blocks) (c : Condition) :
    (b.writeEntry c).draws = b.draws := by
  unfold Blocks.writeEntry; simp only []; split <;> simp

@[simp] theorem Blocks.isolate_cf (b : Blocks) (h : HeadId) (c : Condition) :
    (b.isolate h c).cf = b.cf := by
  unfold Blocks.isolate; simp only []; split <;> simp
@[simp] theorem Blocks.isolate_fc (b : Blocks) (h : HeadId) (c : Condition) :
    (b.isolate h c).fc = b.fc := by
  unfold Blocks.isolate; simp only []; split <;> simp
@[simp] theorem Blocks.isolate_sc (b : Blocks) (h : HeadId) (c : Condition) :
    (b.isolate h c).sc = b.sc := by
  unfold Blocks.isolate; simp only []; split <;> simp
@[simp] theorem Blocks.isolate_rc (b : Blocks) (h : HeadId) (c : Condition) :
    (b.isolate h c).rc = b.rc := by
  unfold Blocks.isolate; simp only []; split <;> simp
@[simp] theorem Blocks.isolate_tp (b : Blocks) (h : HeadId) (c : Condition) :
    (b.isolate h c).tp = b.tp := by
  unfold Blocks.isolate; simp only []; split <;> simp
@[simp] theorem Blocks.isolate_fl (b : Blocks) (h : HeadId) (c : Condition) :
    (b.isolate h c).fl = b.fl := by
  unfold Blocks.isolate; simp only []; split <;> simp
@[simp] theorem Blocks.isolate_pins (b : Blocks) (h : HeadId) (c : Condition) :
    (b.isolate h c).pins = b.pins := by
  unfold Blocks.isolate; simp only []; split <;> simp
@[simp] theorem Blocks.isolate_draws (b : Blocks) (h : HeadId) (c : Condition) :
    (b.isolate h c).draws = b.draws := by
  unfold Blocks.isolate; simp only []; split <;> simp

@[simp] theorem Blocks.countFailure_cf (b : Blocks) (c : Condition) :
    (b.countFailure c).cf = b.cf := by
  unfold Blocks.countFailure; repeat' split
  all_goals simp
@[simp] theorem Blocks.countFailure_ds (b : Blocks) (c : Condition) :
    (b.countFailure c).ds = b.ds := by
  unfold Blocks.countFailure; repeat' split
  all_goals simp
@[simp] theorem Blocks.countFailure_fc (b : Blocks) (c : Condition) :
    (b.countFailure c).fc = b.fc := by
  unfold Blocks.countFailure; repeat' split
  all_goals simp
@[simp] theorem Blocks.countFailure_sc (b : Blocks) (c : Condition) :
    (b.countFailure c).sc = b.sc := by
  unfold Blocks.countFailure; repeat' split
  all_goals simp
@[simp] theorem Blocks.countFailure_hu (b : Blocks) (c : Condition) :
    (b.countFailure c).hu = b.hu := by
  unfold Blocks.countFailure; repeat' split
  all_goals simp
@[simp] theorem Blocks.countFailure_tp (b : Blocks) (c : Condition) :
    (b.countFailure c).tp = b.tp := by
  unfold Blocks.countFailure; repeat' split
  all_goals simp
@[simp] theorem Blocks.countFailure_tm (b : Blocks) (c : Condition) :
    (b.countFailure c).tm = b.tm := by
  unfold Blocks.countFailure; repeat' split
  all_goals simp
@[simp] theorem Blocks.countFailure_rt (b : Blocks) (c : Condition) :
    (b.countFailure c).rt = b.rt := by
  unfold Blocks.countFailure; repeat' split
  all_goals simp
@[simp] theorem Blocks.countFailure_fl (b : Blocks) (c : Condition) :
    (b.countFailure c).fl = b.fl := by
  unfold Blocks.countFailure; repeat' split
  all_goals simp
@[simp] theorem Blocks.countFailure_ru (b : Blocks) (c : Condition) :
    (b.countFailure c).ru = b.ru := by
  unfold Blocks.countFailure; repeat' split
  all_goals simp
@[simp] theorem Blocks.countFailure_pins (b : Blocks) (c : Condition) :
    (b.countFailure c).pins = b.pins := by
  unfold Blocks.countFailure; repeat' split
  all_goals simp
@[simp] theorem Blocks.countFailure_draws (b : Blocks) (c : Condition) :
    (b.countFailure c).draws = b.draws := by
  unfold Blocks.countFailure; repeat' split
  all_goals simp

@[simp] theorem Blocks.notePatchBreak_cf (b : Blocks) (c : Condition) :
    (b.notePatchBreak c).cf = b.cf := by
  unfold Blocks.notePatchBreak; repeat' split
  all_goals simp
@[simp] theorem Blocks.notePatchBreak_ds (b : Blocks) (c : Condition) :
    (b.notePatchBreak c).ds = b.ds := by
  unfold Blocks.notePatchBreak; repeat' split
  all_goals simp
@[simp] theorem Blocks.notePatchBreak_fc (b : Blocks) (c : Condition) :
    (b.notePatchBreak c).fc = b.fc := by
  unfold Blocks.notePatchBreak; repeat' split
  all_goals simp
@[simp] theorem Blocks.notePatchBreak_sc (b : Blocks) (c : Condition) :
    (b.notePatchBreak c).sc = b.sc := by
  unfold Blocks.notePatchBreak; repeat' split
  all_goals simp
@[simp] theorem Blocks.notePatchBreak_hu (b : Blocks) (c : Condition) :
    (b.notePatchBreak c).hu = b.hu := by
  unfold Blocks.notePatchBreak; repeat' split
  all_goals simp
@[simp] theorem Blocks.notePatchBreak_tp (b : Blocks) (c : Condition) :
    (b.notePatchBreak c).tp = b.tp := by
  unfold Blocks.notePatchBreak; repeat' split
  all_goals simp
@[simp] theorem Blocks.notePatchBreak_tm (b : Blocks) (c : Condition) :
    (b.notePatchBreak c).tm = b.tm := by
  unfold Blocks.notePatchBreak; repeat' split
  all_goals simp
@[simp] theorem Blocks.notePatchBreak_rt (b : Blocks) (c : Condition) :
    (b.notePatchBreak c).rt = b.rt := by
  unfold Blocks.notePatchBreak; repeat' split
  all_goals simp
@[simp] theorem Blocks.notePatchBreak_fl (b : Blocks) (c : Condition) :
    (b.notePatchBreak c).fl = b.fl := by
  unfold Blocks.notePatchBreak; repeat' split
  all_goals simp
@[simp] theorem Blocks.notePatchBreak_ru (b : Blocks) (c : Condition) :
    (b.notePatchBreak c).ru = b.ru := by
  unfold Blocks.notePatchBreak; repeat' split
  all_goals simp
@[simp] theorem Blocks.notePatchBreak_pins (b : Blocks) (c : Condition) :
    (b.notePatchBreak c).pins = b.pins := by
  unfold Blocks.notePatchBreak; repeat' split
  all_goals simp
@[simp] theorem Blocks.notePatchBreak_draws (b : Blocks) (c : Condition) :
    (b.notePatchBreak c).draws = b.draws := by
  unfold Blocks.notePatchBreak; repeat' split
  all_goals simp

@[simp] theorem Blocks.handStopAll_cf (b : Blocks) (c : Condition) :
    (b.handStopAll c).cf = b.cf := by
  unfold Blocks.handStopAll; repeat' split
  all_goals simp
@[simp] theorem Blocks.handStopAll_tp (b : Blocks) (c : Condition) :
    (b.handStopAll c).tp = b.tp := by
  unfold Blocks.handStopAll; repeat' split
  all_goals simp
@[simp] theorem Blocks.handStopAll_fl (b : Blocks) (c : Condition) :
    (b.handStopAll c).fl = b.fl := by
  unfold Blocks.handStopAll; repeat' split
  all_goals simp
@[simp] theorem Blocks.handStopAll_pins (b : Blocks) (c : Condition) :
    (b.handStopAll c).pins = b.pins := by
  unfold Blocks.handStopAll; repeat' split
  all_goals simp
@[simp] theorem Blocks.handStopAll_draws (b : Blocks) (c : Condition) :
    (b.handStopAll c).draws = b.draws := by
  unfold Blocks.handStopAll; repeat' split
  all_goals simp

@[simp] theorem Blocks.handIsolate_cf (b : Blocks) (c : Condition) :
    (b.handIsolate c).cf = b.cf := by
  unfold Blocks.handIsolate; split <;> simp
@[simp] theorem Blocks.handIsolate_fc (b : Blocks) (c : Condition) :
    (b.handIsolate c).fc = b.fc := by
  unfold Blocks.handIsolate; split <;> simp
@[simp] theorem Blocks.handIsolate_sc (b : Blocks) (c : Condition) :
    (b.handIsolate c).sc = b.sc := by
  unfold Blocks.handIsolate; split <;> simp
@[simp] theorem Blocks.handIsolate_rc (b : Blocks) (c : Condition) :
    (b.handIsolate c).rc = b.rc := by
  unfold Blocks.handIsolate; split <;> simp
@[simp] theorem Blocks.handIsolate_tp (b : Blocks) (c : Condition) :
    (b.handIsolate c).tp = b.tp := by
  unfold Blocks.handIsolate; split <;> simp
@[simp] theorem Blocks.handIsolate_fl (b : Blocks) (c : Condition) :
    (b.handIsolate c).fl = b.fl := by
  unfold Blocks.handIsolate; split <;> simp
@[simp] theorem Blocks.handIsolate_pins (b : Blocks) (c : Condition) :
    (b.handIsolate c).pins = b.pins := by
  unfold Blocks.handIsolate; split <;> simp
@[simp] theorem Blocks.handIsolate_draws (b : Blocks) (c : Condition) :
    (b.handIsolate c).draws = b.draws := by
  unfold Blocks.handIsolate; split <;> simp

@[simp] theorem Blocks.take_cf (b : Blocks) (c : Condition) :
    (b.take c).cf = b.cf := by
  unfold Blocks.take; simp only []; repeat' split
  all_goals simp
@[simp] theorem Blocks.take_tp (b : Blocks) (c : Condition) :
    (b.take c).tp = b.tp := by
  unfold Blocks.take; simp only []; repeat' split
  all_goals simp
@[simp] theorem Blocks.take_pins (b : Blocks) (c : Condition) :
    (b.take c).pins = b.pins := by
  unfold Blocks.take; simp only []; repeat' split
  all_goals simp
@[simp] theorem Blocks.take_draws (b : Blocks) (c : Condition) :
    (b.take c).draws = b.draws := by
  unfold Blocks.take; simp only []; repeat' split
  all_goals simp

end Sys2Proof.Machine
end

