-- ==== Sys2Proof/Laws/Kept.lean ====
section
/-!
SUPPORT. What the shared operations keep inside the blocks they do touch: a run's existence, the
cycle count, and the pointers of the store that only an advance, a step or an emptying moves.
-/

namespace Sys2Proof.Machine

/-! ## The store under releases -/

theorem Ds.releaseOne_load (d : Ds) : d.releaseOne.load = d.load := by
  unfold Ds.releaseOne Ds.load; split
  · rfl
  · next h => simp [h]; omega

@[simp] theorem Ds.releaseOne_sew (d : Ds) : d.releaseOne.sew = d.sew := by
  unfold Ds.releaseOne; split <;> rfl

@[simp] theorem Ds.releaseOne_channel (d : Ds) : d.releaseOne.channel = d.channel := by
  unfold Ds.releaseOne; split <;> rfl

theorem Ds.releaseLoop_keeps (h : Nat) (e : Option Nat) (mark : Nat) :
    ∀ (n : Nat) (d : Ds) (x : Bool),
      (Ds.releaseLoop h e mark n d x).1.load = d.load
        ∧ (Ds.releaseLoop h e mark n d x).1.sew = d.sew
        ∧ (Ds.releaseLoop h e mark n d x).1.channel = d.channel
  | 0, _, _ => ⟨rfl, rfl, rfl⟩
  | n + 1, d, x => by
    unfold Ds.releaseLoop
    split
    · have ih := Ds.releaseLoop_keeps h e mark n d.releaseOne
        (x || crosses mark d.free d.releaseOne.free)
      simp only [Ds.releaseOne_load, Ds.releaseOne_sew, Ds.releaseOne_channel] at ih
      exact ih
    · exact ⟨rfl, rfl, rfl⟩

@[simp] theorem Ds.release_load (d : Ds) (h : Nat) (e : Option Nat) (mark : Nat) :
    (d.release h e mark).1.load = d.load := (Ds.releaseLoop_keeps h e mark _ d false).1

@[simp] theorem Ds.release_sew (d : Ds) (h : Nat) (e : Option Nat) (mark : Nat) :
    (d.release h e mark).1.sew = d.sew := (Ds.releaseLoop_keeps h e mark _ d false).2.1

@[simp] theorem Ds.release_channel (d : Ds) (h : Nat) (e : Option Nat) (mark : Nat) :
    (d.release h e mark).1.channel = d.channel := (Ds.releaseLoop_keeps h e mark _ d false).2.2

@[simp] theorem Blocks.goto_runExists (b : Blocks) (rs : RunState) (cause : Option PauseCause) :
    (b.goto rs cause).rc.runExists = b.rc.runExists := by
  unfold Blocks.goto; split <;> rfl

@[simp] theorem Blocks.releaseTest_load (b : Blocks) :
    (b.releaseTest).ds.load = b.ds.load := by
  unfold Blocks.releaseTest; simp only []; split <;> simp
@[simp] theorem Blocks.releaseTest_sew (b : Blocks) :
    (b.releaseTest).ds.sew = b.ds.sew := by
  unfold Blocks.releaseTest; simp only []; split <;> simp
@[simp] theorem Blocks.releaseTest_channel (b : Blocks) :
    (b.releaseTest).ds.channel = b.ds.channel := by
  unfold Blocks.releaseTest; simp only []; split <;> simp

@[simp] theorem Blocks.readSlot_runExists (b : Blocks) :
    (b.readSlot).rc.runExists = b.rc.runExists := rfl

@[simp] theorem Blocks.advance_runExists (b : Blocks) :
    (b.advance).rc.runExists = b.rc.runExists := by
  unfold Blocks.advance; split <;> simp
theorem Ds.advance_load (d : Ds) : d.advance.load = d.load := by
  unfold Ds.advance; split <;> rfl

theorem Ds.advance_channel (d : Ds) : d.advance.channel = d.channel := by
  unfold Ds.advance; split <;> rfl

@[simp] theorem Blocks.advance_load (b : Blocks) :
    (b.advance).ds.load = b.ds.load := by
  unfold Blocks.advance; split <;> simp [Ds.advance_load]
@[simp] theorem Blocks.advance_channel (b : Blocks) :
    (b.advance).ds.channel = b.ds.channel := by
  unfold Blocks.advance; split <;> simp [Ds.advance_channel]

@[simp] theorem Blocks.emptyStore_runExists (b : Blocks) :
    (b.emptyStore).rc.runExists = b.rc.runExists := by
  unfold Blocks.emptyStore; simp only []; split <;> rfl

@[simp] theorem Blocks.setRanges_load (b : Blocks) (rt : Eight (List Range)) :
    (b.setRanges rt).ds.load = b.ds.load := by
  unfold Blocks.setRanges; simp only []; split <;> simp
@[simp] theorem Blocks.setRanges_sew (b : Blocks) (rt : Eight (List Range)) :
    (b.setRanges rt).ds.sew = b.ds.sew := by
  unfold Blocks.setRanges; simp only []; split <;> simp
@[simp] theorem Blocks.setRanges_channel (b : Blocks) (rt : Eight (List Range)) :
    (b.setRanges rt).ds.channel = b.ds.channel := by
  unfold Blocks.setRanges; simp only []; split <;> simp

@[simp] theorem Blocks.closeRange_load (b : Blocks) (h : HeadId) (s : Nat) :
    (b.closeRange h s).ds.load = b.ds.load := by
  simp [Blocks.closeRange]
@[simp] theorem Blocks.closeRange_sew (b : Blocks) (h : HeadId) (s : Nat) :
    (b.closeRange h s).ds.sew = b.ds.sew := by
  simp [Blocks.closeRange]
@[simp] theorem Blocks.closeRange_channel (b : Blocks) (h : HeadId) (s : Nat) :
    (b.closeRange h s).ds.channel = b.ds.channel := by
  simp [Blocks.closeRange]

@[simp] theorem Blocks.setWork_runExists (b : Blocks) (w : Work) :
    (b.setWork w).rc.runExists = b.rc.runExists := rfl

@[simp] theorem Blocks.beginOp_runExists (b : Blocks) (tag : Byte) (w : Work) (rs : RunState) :
    (b.beginOp tag w rs).rc.runExists = b.rc.runExists := by
  simp [Blocks.beginOp]

@[simp] theorem Blocks.endOp_runExists (b : Blocks) (r : OpResult) (f : OpFailures) (rs : RunState) (c : Option PauseCause) :
    (b.endOp r f rs c).rc.runExists = b.rc.runExists := by
  unfold Blocks.endOp; split <;> simp

@[simp] theorem Blocks.endOpBase_runExists (b : Blocks) (r : OpResult) (f : OpFailures) :
    (b.endOpBase r f).rc.runExists = b.rc.runExists := by
  unfold Blocks.endOpBase; split <;> simp

@[simp] theorem Blocks.patchSettle_runExists (b : Blocks) (w : PatchWork) (start : Nat) :
    (b.patchSettle w start).rc.runExists = b.rc.runExists := by
  simp [Blocks.patchSettle]
@[simp] theorem Blocks.patchSettle_load (b : Blocks) (w : PatchWork) (start : Nat) :
    (b.patchSettle w start).ds.load = b.ds.load := by
  simp [Blocks.patchSettle]
@[simp] theorem Blocks.patchSettle_sew (b : Blocks) (w : PatchWork) (start : Nat) :
    (b.patchSettle w start).ds.sew = b.ds.sew := by
  simp [Blocks.patchSettle]
@[simp] theorem Blocks.patchSettle_channel (b : Blocks) (w : PatchWork) (start : Nat) :
    (b.patchSettle w start).ds.channel = b.ds.channel := by
  simp [Blocks.patchSettle]

@[simp] theorem Blocks.patchEnd_runExists (b : Blocks) (w : PatchWork) (r : OpResult) (start : Nat) :
    (b.patchEnd w r start).rc.runExists = b.rc.runExists := by
  simp [Blocks.patchEnd]
@[simp] theorem Blocks.patchEnd_load (b : Blocks) (w : PatchWork) (r : OpResult) (start : Nat) :
    (b.patchEnd w r start).ds.load = b.ds.load := by
  simp [Blocks.patchEnd]
@[simp] theorem Blocks.patchEnd_sew (b : Blocks) (w : PatchWork) (r : OpResult) (start : Nat) :
    (b.patchEnd w r start).ds.sew = b.ds.sew := by
  simp [Blocks.patchEnd]
@[simp] theorem Blocks.patchEnd_channel (b : Blocks) (w : PatchWork) (r : OpResult) (start : Nat) :
    (b.patchEnd w r start).ds.channel = b.ds.channel := by
  simp [Blocks.patchEnd]

@[simp] theorem Blocks.patchStopped_runExists (b : Blocks) (w : PatchWork) :
    (b.patchStopped w).rc.runExists = b.rc.runExists := by
  simp [Blocks.patchStopped]
@[simp] theorem Blocks.patchStopped_load (b : Blocks) (w : PatchWork) :
    (b.patchStopped w).ds.load = b.ds.load := by
  simp [Blocks.patchStopped]
@[simp] theorem Blocks.patchStopped_sew (b : Blocks) (w : PatchWork) :
    (b.patchStopped w).ds.sew = b.ds.sew := by
  simp [Blocks.patchStopped]
@[simp] theorem Blocks.patchStopped_channel (b : Blocks) (w : PatchWork) :
    (b.patchStopped w).ds.channel = b.ds.channel := by
  simp [Blocks.patchStopped]

@[simp] theorem Blocks.haltRun_runExists (b : Blocks) :
    (b.haltRun).rc.runExists = b.rc.runExists := by
  unfold Blocks.haltRun; simp only []; split <;> simp
@[simp] theorem Blocks.haltRun_load (b : Blocks) :
    (b.haltRun).ds.load = b.ds.load := by
  unfold Blocks.haltRun; simp only []; split <;> simp
@[simp] theorem Blocks.haltRun_sew (b : Blocks) :
    (b.haltRun).ds.sew = b.ds.sew := by
  unfold Blocks.haltRun; simp only []; split <;> simp
@[simp] theorem Blocks.haltRun_channel (b : Blocks) :
    (b.haltRun).ds.channel = b.ds.channel := by
  unfold Blocks.haltRun; simp only []; split <;> simp

@[simp] theorem Blocks.halt_runExists (b : Blocks) :
    (b.halt).rc.runExists = b.rc.runExists := by
  simp [Blocks.halt, Sc.turnOff]
@[simp] theorem Blocks.halt_cycleCount (b : Blocks) :
    (b.halt).sc.cycleCount = b.sc.cycleCount := by
  simp [Blocks.halt, Sc.turnOff]
@[simp] theorem Blocks.halt_load (b : Blocks) :
    (b.halt).ds.load = b.ds.load := by
  simp [Blocks.halt, Sc.turnOff]
@[simp] theorem Blocks.halt_sew (b : Blocks) :
    (b.halt).ds.sew = b.ds.sew := by
  simp [Blocks.halt, Sc.turnOff]
@[simp] theorem Blocks.halt_channel (b : Blocks) :
    (b.halt).ds.channel = b.ds.channel := by
  simp [Blocks.halt, Sc.turnOff]

theorem Sc.raiseStop_cycleCount (s : Sc) : s.raiseStop.cycleCount = s.cycleCount := by
  unfold Sc.raiseStop; split <;> rfl

@[simp] theorem Blocks.patchInterrupt_runExists (b : Blocks) (w : PatchWork) (fault : Bool) :
    (b.patchInterrupt w fault).rc.runExists = b.rc.runExists := by
  unfold Blocks.patchInterrupt; simp only []; repeat' split
  all_goals simp
@[simp] theorem Blocks.patchInterrupt_cycleCount (b : Blocks) (w : PatchWork) (fault : Bool) :
    (b.patchInterrupt w fault).sc.cycleCount = b.sc.cycleCount := by
  unfold Blocks.patchInterrupt; simp only []; repeat' split
  all_goals simp [Sc.raiseStop_cycleCount]
@[simp] theorem Blocks.patchInterrupt_load (b : Blocks) (w : PatchWork) (fault : Bool) :
    (b.patchInterrupt w fault).ds.load = b.ds.load := by
  unfold Blocks.patchInterrupt; simp only []; repeat' split
  all_goals simp
@[simp] theorem Blocks.patchInterrupt_sew (b : Blocks) (w : PatchWork) (fault : Bool) :
    (b.patchInterrupt w fault).ds.sew = b.ds.sew := by
  unfold Blocks.patchInterrupt; simp only []; repeat' split
  all_goals simp
@[simp] theorem Blocks.patchInterrupt_channel (b : Blocks) (w : PatchWork) (fault : Bool) :
    (b.patchInterrupt w fault).ds.channel = b.ds.channel := by
  unfold Blocks.patchInterrupt; simp only []; repeat' split
  all_goals simp

@[simp] theorem Blocks.stopTravel_runExists (b : Blocks) (c : PauseCause) :
    (b.stopTravel c).rc.runExists = b.rc.runExists := by
  unfold Blocks.stopTravel; split <;> simp

@[simp] theorem Blocks.stopAll_runExists (b : Blocks) :
    (b.stopAll).rc.runExists = b.rc.runExists := by
  unfold Blocks.stopAll; repeat' split
  all_goals simp
@[simp] theorem Blocks.stopAll_cycleCount (b : Blocks) :
    (b.stopAll).sc.cycleCount = b.sc.cycleCount := by
  unfold Blocks.stopAll; repeat' split
  all_goals simp [Sc.raiseStop_cycleCount]
@[simp] theorem Blocks.stopAll_load (b : Blocks) :
    (b.stopAll).ds.load = b.ds.load := by
  unfold Blocks.stopAll; repeat' split
  all_goals simp
@[simp] theorem Blocks.stopAll_sew (b : Blocks) :
    (b.stopAll).ds.sew = b.ds.sew := by
  unfold Blocks.stopAll; repeat' split
  all_goals simp
@[simp] theorem Blocks.stopAll_channel (b : Blocks) :
    (b.stopAll).ds.channel = b.ds.channel := by
  unfold Blocks.stopAll; repeat' split
  all_goals simp

@[simp] theorem Blocks.writeEntry_estop (b : Blocks) (c : Condition) :
    (b.writeEntry c).fl.estop = b.fl.estop := by
  unfold Blocks.writeEntry; simp only []; split <;> simp [Fl.write]
@[simp] theorem Blocks.writeEntry_assertTiming (b : Blocks) (c : Condition) :
    (b.writeEntry c).fl.assertTiming = b.fl.assertTiming := by
  unfold Blocks.writeEntry; simp only []; split <;> simp [Fl.write]
@[simp] theorem Blocks.writeEntry_releaseTiming (b : Blocks) (c : Condition) :
    (b.writeEntry c).fl.releaseTiming = b.fl.releaseTiming := by
  unfold Blocks.writeEntry; simp only []; split <;> simp [Fl.write]
@[simp] theorem Blocks.writeEntry_waiting (b : Blocks) (c : Condition) :
    (b.writeEntry c).fl.waiting = b.fl.waiting := by
  unfold Blocks.writeEntry; simp only []; split <;> simp [Fl.write]

@[simp] theorem Blocks.isolate_load (b : Blocks) (h : HeadId) (c : Condition) :
    (b.isolate h c).ds.load = b.ds.load := by
  unfold Blocks.isolate; simp only []; split <;> simp
@[simp] theorem Blocks.isolate_sew (b : Blocks) (h : HeadId) (c : Condition) :
    (b.isolate h c).ds.sew = b.ds.sew := by
  unfold Blocks.isolate; simp only []; split <;> simp
@[simp] theorem Blocks.isolate_channel (b : Blocks) (h : HeadId) (c : Condition) :
    (b.isolate h c).ds.channel = b.ds.channel := by
  unfold Blocks.isolate; simp only []; split <;> simp

@[simp] theorem Blocks.countFailure_runExists (b : Blocks) (c : Condition) :
    (b.countFailure c).rc.runExists = b.rc.runExists := by
  unfold Blocks.countFailure; repeat' split
  all_goals simp

@[simp] theorem Blocks.notePatchBreak_runExists (b : Blocks) (c : Condition) :
    (b.notePatchBreak c).rc.runExists = b.rc.runExists := by
  unfold Blocks.notePatchBreak; repeat' split
  all_goals simp

@[simp] theorem Blocks.handStopAll_runExists (b : Blocks) (c : Condition) :
    (b.handStopAll c).rc.runExists = b.rc.runExists := by
  unfold Blocks.handStopAll; repeat' split
  all_goals simp
@[simp] theorem Blocks.handStopAll_cycleCount (b : Blocks) (c : Condition) :
    (b.handStopAll c).sc.cycleCount = b.sc.cycleCount := by
  unfold Blocks.handStopAll; repeat' split
  all_goals simp
@[simp] theorem Blocks.handStopAll_load (b : Blocks) (c : Condition) :
    (b.handStopAll c).ds.load = b.ds.load := by
  unfold Blocks.handStopAll; repeat' split
  all_goals simp
@[simp] theorem Blocks.handStopAll_sew (b : Blocks) (c : Condition) :
    (b.handStopAll c).ds.sew = b.ds.sew := by
  unfold Blocks.handStopAll; repeat' split
  all_goals simp
@[simp] theorem Blocks.handStopAll_channel (b : Blocks) (c : Condition) :
    (b.handStopAll c).ds.channel = b.ds.channel := by
  unfold Blocks.handStopAll; repeat' split
  all_goals simp

@[simp] theorem Blocks.handIsolate_load (b : Blocks) (c : Condition) :
    (b.handIsolate c).ds.load = b.ds.load := by
  unfold Blocks.handIsolate; split <;> simp
@[simp] theorem Blocks.handIsolate_sew (b : Blocks) (c : Condition) :
    (b.handIsolate c).ds.sew = b.ds.sew := by
  unfold Blocks.handIsolate; split <;> simp
@[simp] theorem Blocks.handIsolate_channel (b : Blocks) (c : Condition) :
    (b.handIsolate c).ds.channel = b.ds.channel := by
  unfold Blocks.handIsolate; split <;> simp

@[simp] theorem Blocks.take_runExists (b : Blocks) (c : Condition) :
    (b.take c).rc.runExists = b.rc.runExists := by
  unfold Blocks.take; simp only []; repeat' split
  all_goals simp
@[simp] theorem Blocks.take_cycleCount (b : Blocks) (c : Condition) :
    (b.take c).sc.cycleCount = b.sc.cycleCount := by
  unfold Blocks.take; simp only []; repeat' split
  all_goals simp
@[simp] theorem Blocks.take_load (b : Blocks) (c : Condition) :
    (b.take c).ds.load = b.ds.load := by
  unfold Blocks.take; simp only []; repeat' split
  all_goals simp
@[simp] theorem Blocks.take_sew (b : Blocks) (c : Condition) :
    (b.take c).ds.sew = b.ds.sew := by
  unfold Blocks.take; simp only []; repeat' split
  all_goals simp
@[simp] theorem Blocks.take_channel (b : Blocks) (c : Condition) :
    (b.take c).ds.channel = b.ds.channel := by
  unfold Blocks.take; simp only []; repeat' split
  all_goals simp
@[simp] theorem Blocks.take_estop (b : Blocks) (c : Condition) :
    (b.take c).fl.estop = b.fl.estop := by
  unfold Blocks.take; simp only []; repeat' split
  all_goals simp
@[simp] theorem Blocks.take_assertTiming (b : Blocks) (c : Condition) :
    (b.take c).fl.assertTiming = b.fl.assertTiming := by
  unfold Blocks.take; simp only []; repeat' split
  all_goals simp
@[simp] theorem Blocks.take_releaseTiming (b : Blocks) (c : Condition) :
    (b.take c).fl.releaseTiming = b.fl.releaseTiming := by
  unfold Blocks.take; simp only []; repeat' split
  all_goals simp
@[simp] theorem Blocks.take_waiting (b : Blocks) (c : Condition) :
    (b.take c).fl.waiting = b.fl.waiting := by
  unfold Blocks.take; simp only []; repeat' split
  all_goals simp

/-! ## A list of conditions -/

theorem Blocks.takeAll_nil (b : Blocks) : b.takeAll [] = b := rfl

theorem Blocks.takeAll_cons (b : Blocks) (c : Condition) (cs : List Condition) :
    b.takeAll (c :: cs) = (b.take c).takeAll cs := rfl

/-- A property that every taking keeps is kept by taking a list. -/
theorem Blocks.takeAll_keeps {P : Blocks → Prop} (step : ∀ b c, P b → P (b.take c))
    (cs : List Condition) (b : Blocks) (h : P b) : P (b.takeAll cs) := by
  induction cs generalizing b with
  | nil => exact h
  | cons c cs ih => exact ih _ (step b c h)

@[simp] theorem Blocks.takeAll_cf (b : Blocks) (cs : List Condition) :
    (b.takeAll cs).cf = b.cf :=
  Blocks.takeAll_keeps (P := fun x => x.cf = b.cf) (fun x c h => by simp [h]) cs b rfl

@[simp] theorem Blocks.report_cf (b : Blocks) (cs : List Condition) :
    (b.report cs).cf = b.cf := by
  unfold Blocks.report; split <;> simp

@[simp] theorem Blocks.takeAll_tp (b : Blocks) (cs : List Condition) :
    (b.takeAll cs).tp = b.tp :=
  Blocks.takeAll_keeps (P := fun x => x.tp = b.tp) (fun x c h => by simp [h]) cs b rfl

@[simp] theorem Blocks.report_tp (b : Blocks) (cs : List Condition) :
    (b.report cs).tp = b.tp := by
  unfold Blocks.report; split <;> simp

@[simp] theorem Blocks.takeAll_pins (b : Blocks) (cs : List Condition) :
    (b.takeAll cs).pins = b.pins :=
  Blocks.takeAll_keeps (P := fun x => x.pins = b.pins) (fun x c h => by simp [h]) cs b rfl

@[simp] theorem Blocks.report_pins (b : Blocks) (cs : List Condition) :
    (b.report cs).pins = b.pins := by
  unfold Blocks.report; split <;> simp

@[simp] theorem Blocks.takeAll_draws (b : Blocks) (cs : List Condition) :
    (b.takeAll cs).draws = b.draws :=
  Blocks.takeAll_keeps (P := fun x => x.draws = b.draws) (fun x c h => by simp [h]) cs b rfl

@[simp] theorem Blocks.takeAll_runExists (b : Blocks) (cs : List Condition) :
    (b.takeAll cs).rc.runExists = b.rc.runExists :=
  Blocks.takeAll_keeps (P := fun x => x.rc.runExists = b.rc.runExists) (fun x c h => by simp [h]) cs b rfl

@[simp] theorem Blocks.report_runExists (b : Blocks) (cs : List Condition) :
    (b.report cs).rc.runExists = b.rc.runExists := by
  unfold Blocks.report; split <;> simp

@[simp] theorem Blocks.takeAll_cycleCount (b : Blocks) (cs : List Condition) :
    (b.takeAll cs).sc.cycleCount = b.sc.cycleCount :=
  Blocks.takeAll_keeps (P := fun x => x.sc.cycleCount = b.sc.cycleCount) (fun x c h => by simp [h]) cs b rfl

@[simp] theorem Blocks.report_cycleCount (b : Blocks) (cs : List Condition) :
    (b.report cs).sc.cycleCount = b.sc.cycleCount := by
  unfold Blocks.report; split <;> simp

@[simp] theorem Blocks.takeAll_load (b : Blocks) (cs : List Condition) :
    (b.takeAll cs).ds.load = b.ds.load :=
  Blocks.takeAll_keeps (P := fun x => x.ds.load = b.ds.load) (fun x c h => by simp [h]) cs b rfl

@[simp] theorem Blocks.report_load (b : Blocks) (cs : List Condition) :
    (b.report cs).ds.load = b.ds.load := by
  unfold Blocks.report; split <;> simp

@[simp] theorem Blocks.takeAll_sew (b : Blocks) (cs : List Condition) :
    (b.takeAll cs).ds.sew = b.ds.sew :=
  Blocks.takeAll_keeps (P := fun x => x.ds.sew = b.ds.sew) (fun x c h => by simp [h]) cs b rfl

@[simp] theorem Blocks.report_sew (b : Blocks) (cs : List Condition) :
    (b.report cs).ds.sew = b.ds.sew := by
  unfold Blocks.report; split <;> simp

@[simp] theorem Blocks.takeAll_channel (b : Blocks) (cs : List Condition) :
    (b.takeAll cs).ds.channel = b.ds.channel :=
  Blocks.takeAll_keeps (P := fun x => x.ds.channel = b.ds.channel) (fun x c h => by simp [h]) cs b rfl

@[simp] theorem Blocks.report_channel (b : Blocks) (cs : List Condition) :
    (b.report cs).ds.channel = b.ds.channel := by
  unfold Blocks.report; split <;> simp

@[simp] theorem Blocks.takeAll_estop (b : Blocks) (cs : List Condition) :
    (b.takeAll cs).fl.estop = b.fl.estop :=
  Blocks.takeAll_keeps (P := fun x => x.fl.estop = b.fl.estop) (fun x c h => by simp [h]) cs b rfl

@[simp] theorem Blocks.report_estop (b : Blocks) (cs : List Condition) :
    (b.report cs).fl.estop = b.fl.estop := by
  unfold Blocks.report; split <;> simp

@[simp] theorem Blocks.takeAll_assertTiming (b : Blocks) (cs : List Condition) :
    (b.takeAll cs).fl.assertTiming = b.fl.assertTiming :=
  Blocks.takeAll_keeps (P := fun x => x.fl.assertTiming = b.fl.assertTiming) (fun x c h => by simp [h]) cs b rfl

@[simp] theorem Blocks.report_assertTiming (b : Blocks) (cs : List Condition) :
    (b.report cs).fl.assertTiming = b.fl.assertTiming := by
  unfold Blocks.report; split <;> simp

@[simp] theorem Blocks.takeAll_releaseTiming (b : Blocks) (cs : List Condition) :
    (b.takeAll cs).fl.releaseTiming = b.fl.releaseTiming :=
  Blocks.takeAll_keeps (P := fun x => x.fl.releaseTiming = b.fl.releaseTiming) (fun x c h => by simp [h]) cs b rfl

@[simp] theorem Blocks.report_releaseTiming (b : Blocks) (cs : List Condition) :
    (b.report cs).fl.releaseTiming = b.fl.releaseTiming := by
  unfold Blocks.report; split <;> simp

end Sys2Proof.Machine
end

