-- ==== Sys2Proof/Laws/Operands.lean ====
section
/-!
SUPPORT. Reading back what was written: each operand reader on the bytes of its writer (R183), and
the judgement of a list of conditions.
-/

namespace Sys2Proof.Machine

/-! ## Bytes of a payload -/

@[simp] theorem u8_zero (b : Byte) (l : List Byte) : u8 (b :: l) 0 = b.toNat := rfl

@[simp] theorem u8_succ (b : Byte) (l : List Byte) (i : Nat) : u8 (b :: l) (i + 1) = u8 l i := by
  simp [u8]

theorem u16_succ (b : Byte) (l : List Byte) (i : Nat) : u16 (b :: l) (i + 1) = u16 l i := by
  simp [u16]

theorem s16_succ (b : Byte) (l : List Byte) (i : Nat) : s16 (b :: l) (i + 1) = s16 l i := by
  simp [s16, u16_succ]

theorem u16_enc16 (n : Nat) (l : List Byte) (h : n < 65536) : u16 (enc16 n ++ l) 0 = n := by
  simp [u16, enc16]; omega

theorem u32_enc32 (n : Nat) (l : List Byte) (h : n < 4294967296) : u32 (enc32 n ++ l) 0 = n := by
  simp [u32, u16, enc32, enc16]; omega

theorem u24_enc24 (n : Nat) (l : List Byte) (h : n < 16777216) : u24 (enc24 n ++ l) 0 = n := by
  simp [u24, u16, enc24, enc16, enc8]; omega

theorem twos_lt (z : Int) : twos 65536 z < 65536 := by
  unfold twos; omega

theorem signed_twos (z : Int) (lo : -32768 ≤ z) (hi : z ≤ 32767) :
    signed 65536 (twos 65536 z) = z := by
  unfold signed twos; split <;> omega

theorem s16_encS16 (z : Int) (l : List Byte) (lo : -32768 ≤ z) (hi : z ≤ 32767) :
    s16 (encS16 z ++ l) 0 = z := by
  unfold s16 encS16
  rw [u16_enc16 _ _ (twos_lt z), signed_twos z lo hi]

theorem s16_skip16 (n : Nat) (l : List Byte) (i : Nat) : s16 (enc16 n ++ l) (i + 2) = s16 l i := by
  simp [enc16, s16_succ]

theorem u16_skip16 (n : Nat) (l : List Byte) (i : Nat) : u16 (enc16 n ++ l) (i + 2) = u16 l i := by
  simp [enc16, u16_succ]

theorem pos16_encPos16 (p : Pos) (x0 : -32768 ≤ p.x) (x1 : p.x ≤ 32767) (y0 : -32768 ≤ p.y)
    (y1 : p.y ≤ 32767) : pos16 (encPos16 p) 0 = p := by
  have hx : s16 (encS16 p.x ++ encS16 p.y) 0 = p.x := s16_encS16 _ _ x0 x1
  have hy : s16 (encS16 p.x ++ encS16 p.y) 2 = p.y := by
    unfold encS16
    rw [s16_skip16 _ _ 0]
    have := s16_encS16 p.y [] y0 y1
    simpa [encS16] using this
  show Pos.mk _ _ = p
  simp only [encPos16] at *
  rw [hx, hy]

/-! ## Head and hoop numbers -/

theorem Id8.ofNum_num (h : Id8) : Id8.ofNum h.num = h := by cases h <;> rfl

@[simp] theorem numByte_toNat (h : Id8) : (numByte h).toNat = h.num := by cases h <;> rfl

@[simp] theorem id8At_numByte (h : Id8) (l : List Byte) : id8At (numByte h :: l) 0 = h := by
  cases h <;> rfl

theorem Id8.num_pos (h : Id8) : 1 ≤ h.num := by cases h <;> decide

theorem Id8.num_le (h : Id8) : h.num ≤ 8 := by cases h <;> decide

@[simp] theorem within_num (h : Id8) : within 1 8 h.num = true := by cases h <;> rfl

/-! ## Records of eight -/

@[simp] theorem Eight.get_set_same {α : Type} (e : Eight α) (i : Id8) (a : α) :
    (e.set i a).get i = a := by cases i <;> rfl

theorem Eight.get_set_other {α : Type} (e : Eight α) (i j : Id8) (a : α) (h : j ≠ i) :
    (e.set i a).get j = e.get j := by
  cases i <;> cases j <;> first | rfl | exact absurd rfl h

theorem Eight.get_set {α : Type} (e : Eight α) (i j : Id8) (a : α) :
    (e.set i a).get j = if j = i then a else e.get j := by
  cases i <;> cases j <;> rfl

theorem Eight.get_update {α : Type} (e : Eight α) (i j : Id8) (f : α → α) :
    (e.update i f).get j = if j = i then f (e.get j) else e.get j := by
  cases i <;> cases j <;> rfl

@[simp] theorem Eight.get_tabulate {α : Type} (f : Id8 → α) (i : Id8) :
    (Eight.tabulate f).get i = f i := by cases i <;> rfl

@[simp] theorem Eight.get_const {α : Type} (a : α) (i : Id8) : (Eight.const a).get i = a := by
  cases i <;> rfl

theorem Eight.ext_get {α : Type} {e e' : Eight α} (h : ∀ i, e.get i = e'.get i) : e = e' := by
  obtain ⟨a1, a2, a3, a4, a5, a6, a7, a8⟩ := e
  obtain ⟨b1, b2, b3, b4, b5, b6, b7, b8⟩ := e'
  have := h .n1; have := h .n2; have := h .n3; have := h .n4
  have := h .n5; have := h .n6; have := h .n7; have := h .n8
  simp_all [Eight.get]

/-! ## Conditions in order -/

@[simp] theorem firstRefusal_nil : firstRefusal [] = none := rfl

@[simp] theorem firstRefusal_cons (c : Bool) (code : Code) (l : List (Bool × Code)) :
    firstRefusal ((c, code) :: l) = if c then firstRefusal l else some code := rfl

/-- A command is taken exactly when every condition holds. -/
theorem firstRefusal_none (l : List (Bool × Code)) :
    firstRefusal l = none ↔ ∀ x ∈ l, x.1 = true := by
  induction l with
  | nil => simp
  | cons x l ih =>
    obtain ⟨c, code⟩ := x
    cases c <;> simp [ih]

theorem Blocks.judgeWith_taken (b : Blocks) (l : List (Bool × Code)) (f : Code → List Byte)
    (a : Answer) (h : firstRefusal l = none) : b.judgeWith l f a = a := by
  simp [Blocks.judgeWith, h]

theorem Blocks.judgeWith_refused (b : Blocks) (l : List (Bool × Code)) (f : Code → List Byte)
    (a : Answer) (c : Code) (h : firstRefusal l = some c) :
    b.judgeWith l f a = (b, c.byte :: f c) := by
  simp [Blocks.judgeWith, h]

theorem Blocks.judge_taken (b : Blocks) (l : List (Bool × Code)) (a : Answer)
    (h : firstRefusal l = none) : b.judge l a = a := b.judgeWith_taken l _ a h

theorem Blocks.judge_refused (b : Blocks) (l : List (Bool × Code)) (a : Answer) (c : Code)
    (h : firstRefusal l = some c) : b.judge l a = (b, [c.byte]) :=
  b.judgeWith_refused l _ a c h

end Sys2Proof.Machine
end

