-- ==== Sys2Proof/Laws/Reports.lean ====
section
/-!
SUPPORT. What raising a report does, and what the shared operations leave of the report unit: the
masks and the head flags stay, and the pending set only grows.
-/

namespace Sys2Proof.Machine

/-! ## Raising a kind -/

@[simp] theorem Ru.raise_kindMask (r : Ru) (k : ReportKind) : (r.raise k).kindMask = r.kindMask := rfl

@[simp] theorem Ru.raise_headMask (r : Ru) (k : ReportKind) : (r.raise k).headMask = r.headMask := rfl

@[simp] theorem Ru.raise_eventMask (r : Ru) (k : ReportKind) :
    (r.raise k).eventMask = r.eventMask := rfl

@[simp] theorem Ru.raise_maskedSince (r : Ru) (k : ReportKind) :
    (r.raise k).maskedSince = r.maskedSince := rfl

@[simp] theorem Ru.raise_heads (r : Ru) (k : ReportKind) : (r.raise k).heads = r.heads := rfl

/-- A raised kind that is not masked is pending. -/
theorem Ru.raise_pending (r : Ru) (k : ReportKind) :
    (r.raise k).pend &&& (k.bit &&& ~~~r.kindMask) = k.bit &&& ~~~r.kindMask := by
  simp only [Ru.raise]
  ext i
  simp
  tauto

/-! ## What a whole operation leaves -/

/-- Nothing but kinds raised: the masks and the head flags stay, and the pending set only grows. -/
structure Ru.OnlyRaised (r r' : Ru) : Prop where
  maskedSince : r'.maskedSince = r.maskedSince
  kindMask : r'.kindMask = r.kindMask
  headMask : r'.headMask = r.headMask
  eventMask : r'.eventMask = r.eventMask
  heads : r'.heads = r.heads
  grows : ∀ m : BitVec 6, r.pend &&& m = m → r'.pend &&& m = m

theorem Ru.OnlyRaised.refl (r : Ru) : r.OnlyRaised r := ⟨rfl, rfl, rfl, rfl, rfl, fun _ h => h⟩

theorem Ru.OnlyRaised.trans {a b c : Ru} (h : a.OnlyRaised b) (h' : b.OnlyRaised c) :
    a.OnlyRaised c :=
  ⟨h'.maskedSince.trans h.maskedSince, h'.kindMask.trans h.kindMask, h'.headMask.trans h.headMask, h'.eventMask.trans h.eventMask,
    h'.heads.trans h.heads, fun m hm => h'.grows m (h.grows m hm)⟩

theorem Ru.onlyRaised_raise (r : Ru) (k : ReportKind) : r.OnlyRaised (r.raise k) := by
  refine ⟨rfl, rfl, rfl, rfl, rfl, fun m hm => ?_⟩
  have e : (r.pend ||| (k.bit &&& ~~~r.kindMask)) &&& m
      = (r.pend &&& m) ||| ((k.bit &&& ~~~r.kindMask) &&& m) := by
    ext i
    simp [Bool.and_or_distrib_right]
  rw [show (r.raise k).pend = r.pend ||| (k.bit &&& ~~~r.kindMask) from rfl, e, hm]
  ext i
  simp

theorem Blocks.onlyRaised_raise (b : Blocks) (k : ReportKind) : b.ru.OnlyRaised (b.raise k).ru :=
  Ru.onlyRaised_raise _ _

theorem Blocks.onlyRaised_goto (b : Blocks) (rs : RunState) (c : Option PauseCause) :
    b.ru.OnlyRaised (b.goto rs c).ru := by
  unfold Blocks.goto
  split_ifs
  · exact Ru.OnlyRaised.refl _
  · exact Ru.onlyRaised_raise _ _

theorem Blocks.onlyRaised_releaseTest (b : Blocks) : b.ru.OnlyRaised b.releaseTest.ru := by
  unfold Blocks.releaseTest
  simp only
  split_ifs
  · exact Ru.onlyRaised_raise _ _
  · exact Ru.OnlyRaised.refl _

theorem Blocks.onlyRaised_setRanges (b : Blocks) (rt : Eight (List Range)) :
    b.ru.OnlyRaised (b.setRanges rt).ru := by
  unfold Blocks.setRanges
  simp only
  split_ifs
  · exact Blocks.onlyRaised_releaseTest { b with rt := rt }
  · exact Ru.OnlyRaised.refl _

theorem Blocks.onlyRaised_advance (b : Blocks) : b.ru.OnlyRaised b.advance.ru := by
  unfold Blocks.advance
  split_ifs
  · exact Blocks.onlyRaised_releaseTest { b with ds := b.ds.advance }
  · exact Ru.OnlyRaised.refl _

theorem Blocks.onlyRaised_endOp (b : Blocks) (r : OpResult) (f : OpFailures) (rs : RunState)
    (c : Option PauseCause) : b.ru.OnlyRaised (b.endOp r f rs c).ru := by
  unfold Blocks.endOp
  split
  · exact Ru.OnlyRaised.refl _
  · exact (b.onlyRaised_goto rs c).trans (Ru.onlyRaised_raise _ _)

theorem Blocks.onlyRaised_endOpBase (b : Blocks) (r : OpResult) (f : OpFailures) :
    b.ru.OnlyRaised (b.endOpBase r f).ru := by
  unfold Blocks.endOpBase
  split
  · exact Ru.OnlyRaised.refl _
  · exact b.onlyRaised_endOp _ _ _ _

theorem Blocks.onlyRaised_patchSettle (b : Blocks) (w : PatchWork) (start : Nat) :
    b.ru.OnlyRaised (b.patchSettle w start).ru := by
  exact b.onlyRaised_setRanges (b.rt.update w.head (shrinkList w start))

theorem Blocks.onlyRaised_haltRun (b : Blocks) : b.ru.OnlyRaised b.haltRun.ru := by
  unfold Blocks.haltRun
  simp only
  split
  · exact Ru.OnlyRaised.trans
      (Blocks.onlyRaised_patchSettle { b with
        rc.causes := StopCauses.none, rc.resume := none, rc.stop := none, rc.change := none } _ _)
      (Blocks.onlyRaised_endOp _ _ _ _ _)
  · exact Blocks.onlyRaised_endOp { b with
      rc.causes := StopCauses.none, rc.resume := none, rc.stop := none, rc.change := none } _ _ _ _
  · exact Blocks.onlyRaised_goto { b with
      rc.causes := StopCauses.none, rc.resume := none, rc.stop := none, rc.change := none } _ _

theorem Blocks.onlyRaised_halt (b : Blocks) : b.ru.OnlyRaised b.halt.ru := by
  unfold Blocks.halt
  exact Blocks.onlyRaised_haltRun { b with
      sc := b.sc.turnOff
      fc := b.fc.halt
      hu := Eight.tabulate (fun h => (b.hu.get h).halt)
      tm := Eight.tabulate (fun h => { b.tm.get h with window := none }) }

end Sys2Proof.Machine
end

