-- ==== Sys2Proof/Laws/Shared.lean ====
section
/-!
SUPPORT. What the shared operations answer, case by case: a change of the run state, the taking of
conditions, the end of an operation, the frame's moves, a start request, and the following of stages.
-/

namespace Sys2Proof.Machine

/-! ## The run state -/

theorem Blocks.goto_runState (b : Blocks) (rs : RunState) (c : Option PauseCause) :
    (b.goto rs c).rc.runState = rs := by
  unfold Blocks.goto
  split_ifs with h
  · exact h.1
  · rfl

theorem Blocks.goto_pauseCause (b : Blocks) (rs : RunState) (c : Option PauseCause) :
    (b.goto rs c).rc.pauseCause = c := by
  unfold Blocks.goto
  split_ifs with h
  · exact h.2
  · rfl

/-- Only the run state and the pause cause of RC change. -/
theorem Blocks.goto_rc (b : Blocks) (rs : RunState) (c : Option PauseCause) :
    (b.goto rs c).rc = { b.rc with runState := rs, pauseCause := c } := by
  unfold Blocks.goto
  split_ifs with h
  · obtain ⟨h1, h2⟩ := h
    subst h1 h2
    rfl
  · rfl

/-! ## Conditions -/

theorem Fl.waiting_idle {f : Fl} (h : f.waiting = []) : { f with waiting := [] } = f := by
  cases f
  simp_all

/-- With nothing waiting, the conditions that reach FL are taken, one after another. -/
theorem Blocks.report_idle {b : Blocks} (h : b.fl.waiting = []) (cs : List Condition) :
    b.report cs = b.takeAll cs := by
  unfold Blocks.report
  rw [if_pos (Or.inl h), h, List.nil_append, Fl.waiting_idle h]

theorem Blocks.report_one {b : Blocks} (h : b.fl.waiting = []) (c : Condition) :
    b.report [c] = b.take c := by
  rw [Blocks.report_idle h]
  rfl

theorem Blocks.report_nothing {b : Blocks} (h : b.fl.waiting = []) : b.report [] = b := by
  rw [Blocks.report_idle h]
  rfl

theorem Blocks.take_halt (b : Blocks) (c : Condition) (h : b.action c = .halt) :
    b.take c = (b.writeEntry c).halt := by
  simp [Blocks.take, h]

theorem Blocks.take_failed (b : Blocks) (c : Condition) (h : b.action c = .failed) :
    b.take c = (b.writeEntry c).countFailure c := by
  simp [Blocks.take, h]

theorem Blocks.take_none (b : Blocks) (c : Condition) (h : b.action c = .none) :
    b.take c = b.writeEntry c := by
  simp [Blocks.take, h]

/-- A condition on a head whose flag is set already changes nothing beyond its entry (R155). -/
theorem Blocks.take_flagged (b : Blocks) (c : Condition) (g : HeadId)
    (h : b.action c = .stopAll ∨ b.action c = .isolate) (hg : c.head = some g)
    (hf : (b.hu.get g).faultFlag = true) : b.take c = b.writeEntry c := by
  rcases h with h | h <;> simp [Blocks.take, h, Blocks.alreadyFlagged, hg, hf]

theorem Blocks.take_isolate (b : Blocks) (c : Condition) (g : HeadId) (h : b.action c = .isolate)
    (hg : c.head = some g) (hf : (b.hu.get g).faultFlag = false) :
    b.take c = (b.writeEntry c).isolate g c := by
  simp [Blocks.take, h, hg, Blocks.alreadyFlagged, Blocks.handIsolate, hf]

theorem Blocks.take_stopAll (b : Blocks) (c : Condition) (g : HeadId) (h : b.action c = .stopAll)
    (hk : c.kind ≠ .noPlan ∧ c.kind ≠ .pinLimit) (hg : c.head = some g)
    (hf : (b.hu.get g).faultFlag = false) :
    b.take c = ((((b.writeEntry c).modHead g (fun u => { u with faultFlag := true })).headEvent g
      .faulted).notePatchBreak c).stopAll := by
  simp [Blocks.take, h, hk.1, hk.2, hg, Blocks.alreadyFlagged, Blocks.handStopAll, hf]

theorem Blocks.take_stopAll_headless (b : Blocks) (c : Condition) (h : b.action c = .stopAll)
    (hk : c.kind ≠ .noPlan ∧ c.kind ≠ .pinLimit) (hg : c.head = none) :
    b.take c = (b.writeEntry c).stopAll := by
  simp [Blocks.take, h, hk.1, hk.2, hg, Blocks.alreadyFlagged, Blocks.handStopAll]

theorem Blocks.writeEntry_fl (b : Blocks) (c : Condition) :
    (b.writeEntry c).fl = b.fl.write (b.entry c) := by
  unfold Blocks.writeEntry
  cases c.head <;> simp

/-! ## The end of an operation -/

theorem Blocks.endOp_rc (b : Blocks) (op : LongOp) (h : b.rc.op = some op) (r : OpResult)
    (f : OpFailures) (rs : RunState) (c : Option PauseCause) :
    (b.endOp r f rs c).rc =
      { b.rc with
        runState := rs, pauseCause := c, op := none
        opRecord := ⟨some op.work.kind, op.tag, some r, f, b.rc.opRecord.counter + 1⟩ } := by
  simp [Blocks.endOp, h, Blocks.raise, Blocks.goto_rc]

theorem Blocks.endOpBase_rc (b : Blocks) (op : LongOp) (h : b.rc.op = some op) (r : OpResult)
    (f : OpFailures) :
    (b.endOpBase r f).rc =
      { b.rc with
        runState := op.base.target.1, pauseCause := op.base.target.2, op := none
        opRecord := ⟨some op.work.kind, op.tag, some r, f, b.rc.opRecord.counter + 1⟩ } := by
  simp only [Blocks.endOpBase, h]
  exact b.endOp_rc op h r f _ _

theorem Blocks.patchSettle_rc (b : Blocks) (w : PatchWork) (start : Nat) :
    (b.patchSettle w start).rc = { b.rc with change := none, stop := none } := by
  simp [Blocks.patchSettle]

/-! ## The frame's moves -/

theorem AxisRec.depart_here (r : AxisRec) (t : Int) (h : r.pos = some t) : r.depart t = r := by
  simp [AxisRec.depart, h]

theorem AxisRec.depart_away (r : AxisRec) (t : Int) (h : r.pos ≠ some t) :
    r.depart t = { r with state := .moving, target := some t } := by
  simp [AxisRec.depart, h]

theorem AxisRec.arrive_moving (r : AxisRec) (h : r.state = .moving) :
    r.arrive = { r with state := .ready, pos := r.target, target := none } := by
  simp [AxisRec.arrive, h]

theorem AxisRec.arrive_other (r : AxisRec) (h : r.state ≠ .moving) : r.arrive = r := by
  simp [AxisRec.arrive, h]

/-- A stop changes nothing of a move exactly where both axes are READY and none was asked before. -/
theorem Fc.completed_iff (f : Fc) : f.completed = true ↔ f.ready = true ∧ f.stopAsked = false := by
  simp [Fc.completed]

/-- Travel is not begun where an axis is not READY, or the position is not held. -/
theorem Blocks.travel_none (b : Blocks) (o : MoveOwner) (rel : Option Pos)
    (h : b.fc.ready = false ∨ rel = none) : b.travel o rel = none := by
  rcases h with h | h
  · cases rel <;> simp [Blocks.travel, h]
  · simp [Blocks.travel, h]

theorem Blocks.travel_some (b : Blocks) (o : MoveOwner) (p : Pos) (h : b.fc.ready = true) :
    b.travel o (some p) = some { b with fc := b.fc.depart o (b.fc.origin.add p) } := by
  simp [Blocks.travel, h]

/-! ## A start request -/

/-- Refused, a start request changes nothing. -/
theorem Blocks.startRequest_refused (b : Blocks) (plan : PlanMode) (i : Nat)
    (h : (b.startRequest plan i).2 ≠ .started) : (b.startRequest plan i).1 = b := by
  unfold Blocks.startRequest at h ⊢
  dsimp only at h ⊢
  split_ifs at h ⊢
  · rfl
  · rfl
  · rfl
  · split <;> simp_all

/-- A cycle ahead of the next stop point means that a record is held at the index it starts from. -/
theorem Blocks.record_of_planK (b : Blocks) (plan : PlanMode) (i : Nat) (h : b.planK plan i ≠ 0) :
    ∃ r, b.ds.record i = some r := by
  unfold Blocks.planK Blocks.cyclesAhead at h
  split_ifs at h
  · exact absurd rfl h
  · cases hr : b.ds.record i with
    | some r => exact ⟨r, rfl⟩
    | none => simp [hr] at h

/-- With every test passed, a start request is answered STARTED by the cycle start of the record. -/
theorem Blocks.startRequest_started (b : Blocks) (plan : PlanMode) (i : Nat) (r : StoredRecord)
    (h : b.sc.state = .stopped ∧ b.selectorMoving = false ∧ b.fc.ready = true ∧ b.fc.busy = false)
    (hk : b.planK plan i ≠ 0) (hr : b.ds.record (b.cycleIndex plan i) = some r) :
    let b' : Blocks :=
      { b with sc.state := .turning, sc.plan := some plan, sc.previous := 0,
               sc.stallTimer := some b.cf.settings.stallTime }
    b.startRequest plan i =
      (b'.cycleStart plan (b.cycleIndex plan i) r (b'.planSpeed plan i r), .started) := by
  simp [Blocks.startRequest, h.1, h.2.1, h.2.2.1, h.2.2.2, hk, hr]

/-- With no cycle ahead, a start request that passes the other tests is answered AT_STOP. -/
theorem Blocks.startRequest_atStop (b : Blocks) (plan : PlanMode) (i : Nat)
    (h : b.sc.state = .stopped ∧ b.selectorMoving = false ∧ b.fc.ready = true ∧ b.fc.busy = false)
    (hk : b.planK plan i = 0) : b.startRequest plan i = (b, .atStop (b.points plan i)) := by
  cases hr : b.ds.record (b.cycleIndex plan i) <;>
    simp [Blocks.startRequest, h.1, h.2.1, h.2.2.1, h.2.2.2, hk, hr]

/-! ## Stages -/

theorem Blocks.follow_end (n : Nat) (p : Phase) (b : Blocks) (h : (b.phase p).2 = none) :
    Blocks.follow (n + 1) p b = (b.phase p).1 := by
  simp [Blocks.follow, h]

theorem Blocks.follow_on (n : Nat) (p q : Phase) (b : Blocks) (h : (b.phase p).2 = some q) :
    Blocks.follow (n + 1) p b = Blocks.follow n q (b.phase p).1 := by
  simp [Blocks.follow, h]

/-- There are always stages left to follow. -/
theorem Blocks.stages_pos (b : Blocks) : ∃ n, b.stages = n + 64 := ⟨_, rfl⟩

theorem Blocks.go_end (p : Phase) (b : Blocks) (h : (b.phase p).2 = none) :
    b.go p = (b.phase p).1 := by
  obtain ⟨n, hn⟩ := b.stages_pos
  rw [Blocks.go, hn]
  exact Blocks.follow_end _ p b h

end Sys2Proof.Machine
end

