-- ==== Sys2Proof/Laws/CycleEnd.lean ====
section
/-!
SUPPORT. What the index that ends a cycle can do: what the taking of its conditions leaves of every head,
what the bobbins and the monitors of all heads come to, the decision on the next cycle, and that a free
order takes every condition once.
-/

namespace Sys2Proof.Machine

/-! ## The conditions of an index, taken -/

/-- A STOP_ALL taken now does not end a patch run at once: no patch travel is in flight, and the shaft
turns or its stop waits for its resolution. -/
def Blocks.patchGoesOn (b : Blocks) : Prop :=
  (∀ asked, b.fc.move ≠ some ⟨.patchTravel, asked⟩) ∧ (b.sc.turns = true ∨ b.rc.stop ≠ none)

/-- The conditions an index can raise (R35, R114, R124, R125). -/
def Condition.ofIndex : Condition → Prop
  | .threadBreak _ _ _ _ _ | .tensionLoose _ _ _ _ | .bobbinEmpty _ _ _ _ | .moveLate _ _ _ _ => True
  | _ => False

/-- What the taking of conditions that name heads of `named` leaves of the blocks. -/
structure Blocks.Takes (named : HeadId → Prop) (b b' : Blocks) : Prop where
  cf : b'.cf = b.cf
  channel : b'.ds.channel = b.ds.channel
  cycle : b'.sc.cycle = b.sc.cycle
  shaft : b'.sc.state = b.sc.state ∨ (b.sc.state = .turning ∧ b'.sc.state = .stopping)
  patch : b.patchGoesOn → b'.patchGoesOn
  slot : b'.sewSlot = b.sewSlot
  heads : ∀ g, (b'.hu.get g).takesPart = (b.hu.get g).takesPart
    ∧ (b'.hu.get g).selector = (b.hu.get g).selector
    ∧ (b'.hu.get g).bobbin = (b.hu.get g).bobbin ∧ (b'.hu.get g).lowLatch = (b.hu.get g).lowLatch
    ∧ ((b.hu.get g).faultFlag = true → (b'.hu.get g).faultFlag = true)
  flags : ∀ g m, (b.ru.heads.get g).flags &&& m = m → (b'.ru.heads.get g).flags &&& m = m
  others : ∀ g, ¬ named g → b'.tm.get g = b.tm.get g
    ∧ (b'.hu.get g).state = (b.hu.get g).state ∧ (b'.hu.get g).faultFlag = (b.hu.get g).faultFlag
  waiting : b'.fl.waiting = b.fl.waiting

theorem Blocks.Takes.refl (named : HeadId → Prop) (b : Blocks) : Blocks.Takes named b b := by
  constructor <;> simp

theorem Blocks.Takes.trans {named : HeadId → Prop} {b c d : Blocks} (h : Blocks.Takes named b c)
    (k : Blocks.Takes named c d) : Blocks.Takes named b d where
  cf := k.cf.trans h.cf
  channel := k.channel.trans h.channel
  cycle := k.cycle.trans h.cycle
  shaft := by
    rcases h.shaft with h1 | ⟨h1, h2⟩ <;> rcases k.shaft with k1 | ⟨k1, k2⟩ <;> simp_all
  patch := fun x => k.patch (h.patch x)
  slot := k.slot.trans h.slot
  heads := fun g => by
    obtain ⟨a1, a2, a3, a4, a5⟩ := h.heads g
    obtain ⟨c1, c2, c3, c4, c5⟩ := k.heads g
    exact ⟨c1.trans a1, c2.trans a2, c3.trans a3, c4.trans a4, fun x => c5 (a5 x)⟩
  flags := fun g m x => k.flags g m (h.flags g m x)
  others := fun g hg => by
    obtain ⟨a1, a2, a3⟩ := h.others g hg
    obtain ⟨c1, c2, c3⟩ := k.others g hg
    exact ⟨c1.trans a1, c2.trans a2, c3.trans a3⟩
  waiting := k.waiting.trans h.waiting

theorem Blocks.goto_takes (b : Blocks) (named : HeadId → Prop) (rs : RunState)
    (cause : Option PauseCause) : Blocks.Takes named b (b.goto rs cause) := by
  have hh : (b.goto rs cause).ru.heads = b.ru.heads := by
    unfold Blocks.goto
    split <;> rfl
  constructor <;>
    simp [Blocks.patchGoesOn, Blocks.sewSlot, Blocks.patchWork, Blocks.goto_rc, hh]

theorem Sc.raiseStop_keeps (s : Sc) :
    (s.raiseStop.state = s.state ∨ s.state = .turning ∧ s.raiseStop.state = .stopping)
      ∧ s.raiseStop.cycle = s.cycle ∧ s.raiseStop.turns = s.turns := by
  unfold Sc.raiseStop Sc.turns
  split_ifs with h <;> simp [h]

theorem Blocks.askStop_takes (b : Blocks) (named : HeadId → Prop) :
    Blocks.Takes named b { b with fc := b.fc.askStop } := by
  refine { Blocks.Takes.refl named b with patch := fun h => ⟨?_, h.2⟩ }
  intro asked hm
  have h1 := h.1
  unfold Fc.askStop at hm
  cases hb : b.fc.move with
  | none => simp [hb] at hm
  | some m =>
    obtain ⟨o, a⟩ := m
    simp only [hb, Option.map_some, Option.some.injEq, Move.mk.injEq] at hm
    exact h1 a (by rw [hb, hm.1])

theorem Blocks.stopTravel_takes (b : Blocks) (named : HeadId → Prop) (cause : PauseCause) :
    Blocks.Takes named b (b.stopTravel cause) := by
  unfold Blocks.stopTravel
  by_cases h : b.fc.completed = true
  · rw [if_pos h]
    refine Blocks.Takes.trans (c := { b with
      fc.move := none, fc.offPosition := false, rc.resume := none, rc.causes := StopCauses.none })
      ?_ (Blocks.goto_takes _ _ _ _)
    constructor <;> simp [Blocks.patchGoesOn, Blocks.sewSlot, Blocks.patchWork]
  · rw [if_neg h]
    exact b.askStop_takes named

theorem Blocks.setWork_takes (b : Blocks) (named : HeadId → Prop) (tag : Byte) (base : BaseState)
    (w w' : PatchWork) (h : b.rc.op = some ⟨tag, base, .patch w⟩) (hs : w'.slot = w.slot) :
    Blocks.Takes named b (b.setWork (.patch w')) := by
  constructor <;> simp [Blocks.patchGoesOn, Blocks.setWork, Blocks.sewSlot, Blocks.patchWork, h, hs]

theorem Blocks.patchInterrupt_takes (b : Blocks) (named : HeadId → Prop) (tag : Byte)
    (base : BaseState) (w : PatchWork) (fault : Bool)
    (h : b.rc.op = some ⟨tag, base, .patch w⟩) (hp : b.patchGoesOn) :
    Blocks.Takes named b (b.patchInterrupt w fault) := by
  unfold Blocks.patchInterrupt
  dsimp only
  have h1 := b.setWork_takes named tag base w
    { w with causes := ⟨w.causes.host || !fault, w.causes.fault || fault⟩ } h rfl
  have hp1 := h1.patch hp
  generalize b.setWork (.patch
    { w with causes := ⟨w.causes.host || !fault, w.causes.fault || fault⟩ }) = x at h1 hp1 ⊢
  refine h1.trans ?_
  split
  · rename_i a _ hm
    exact absurd hm (hp1.1 _)
  · constructor <;> simp [Blocks.patchGoesOn, Blocks.sewSlot, Blocks.patchWork]
  · split_ifs with h2 h3
    · obtain ⟨r1, r2, r3⟩ := x.sc.raiseStop_keeps
      constructor <;> simp [Blocks.patchGoesOn, Blocks.sewSlot, Blocks.patchWork, r1, r2, r3]
    · exact .refl _ _
    · simp only [Bool.or_eq_true, not_or] at h3
      rcases hp1.2 with h4 | h4
      · exact absurd h4 h2
      · exact absurd (Option.isSome_iff_ne_none.mpr h4) h3.1

theorem Blocks.stopAll_takes (b : Blocks) (named : HeadId → Prop) (hp : b.patchGoesOn) :
    Blocks.Takes named b b.stopAll := by
  unfold Blocks.stopAll
  split
  · refine Blocks.Takes.trans (c := { b with rc.causes.fault := true, sc := b.sc.raiseStop })
      ?_ (Blocks.goto_takes _ _ _ _)
    obtain ⟨r1, r2, r3⟩ := b.sc.raiseStop_keeps
    constructor <;> simp [Blocks.patchGoesOn, Blocks.sewSlot, Blocks.patchWork, r1, r2, r3]
  · constructor <;> simp [Blocks.patchGoesOn, Blocks.sewSlot, Blocks.patchWork]
  · constructor <;> simp [Blocks.patchGoesOn, Blocks.sewSlot, Blocks.patchWork]
  · exact b.goto_takes named _ _
  · refine Blocks.Takes.trans (c := { b with rc.causes.fault := true }) ?_
      (Blocks.stopTravel_takes _ _ _)
    constructor <;> simp [Blocks.patchGoesOn, Blocks.sewSlot, Blocks.patchWork]
  · split
    · rename_i tag base w h
      exact b.patchInterrupt_takes named tag base w true h hp
    · exact .refl _ _
  all_goals exact .refl _ _

/-- A bit pattern that a register covers, it covers with more bits set. -/
theorem covers_or (x y m : BitVec 4) (h : x &&& m = m) : (x ||| y) &&& m = m := by
  revert x y m
  decide

theorem Blocks.headEvent_takes (b : Blocks) (named : HeadId → Prop) (h : HeadId) (e : HeadEvent) :
    Blocks.Takes named b (b.headEvent h e) := by
  refine { Blocks.Takes.refl named b with flags := fun g m hm => ?_ }
  show (((b.ru.heads.update h (·.set e)).get g).flags &&& m) = m
  rw [Eight.get_update]
  split_ifs
  · exact covers_or _ _ _ hm
  · exact hm

/-- A change of a named head's record that keeps its part in the cycle, its selector, its bobbin and a
flag that is set. -/
theorem Blocks.modHead_takes (b : Blocks) (named : HeadId → Prop) (h : HeadId) (f : Head → Head)
    (hn : named h)
    (hf : ∀ u : Head, (f u).takesPart = u.takesPart ∧ (f u).selector = u.selector
      ∧ (f u).bobbin = u.bobbin ∧ (f u).lowLatch = u.lowLatch
      ∧ (u.faultFlag = true → (f u).faultFlag = true)) :
    Blocks.Takes named b (b.modHead h f) := by
  refine { Blocks.Takes.refl named b with heads := fun g => ?_, others := fun g hg => ⟨rfl, ?_⟩ }
  · show _ ∧ _
    simp only [Blocks.modHead, Eight.get_update]
    split_ifs
    · exact hf _
    · simp
  · have : g ≠ h := by
      rintro rfl
      exact hg hn
    simp [Blocks.modHead, Eight.get_update, this]

theorem Blocks.modMonitor_takes (b : Blocks) (named : HeadId → Prop) (h : HeadId)
    (f : Monitor → Monitor) (hn : named h) : Blocks.Takes named b (b.modMonitor h f) := by
  refine { Blocks.Takes.refl named b with others := fun g hg => ⟨?_, rfl, rfl⟩ }
  have : g ≠ h := by
    rintro rfl
    exact hg hn
  simp [Blocks.modMonitor, Eight.get_update, this]

theorem Blocks.setRanges_takes (b : Blocks) (named : HeadId → Prop) (rt : Eight (List Range)) :
    Blocks.Takes named b (b.setRanges rt) := by
  have hh : (b.setRanges rt).ru.heads = b.ru.heads := by
    unfold Blocks.setRanges Blocks.releaseTest
    dsimp only
    split_ifs <;> rfl
  constructor <;> simp [Blocks.patchGoesOn, Blocks.sewSlot, Blocks.patchWork, hh]

theorem Blocks.monitorLeaves_takes (b : Blocks) (named : HeadId → Prop) (h : HeadId)
    (hn : named h) : Blocks.Takes named b (b.monitorLeaves h) := by
  unfold Blocks.monitorLeaves
  split_ifs
  · exact .refl _ _
  · exact b.modMonitor_takes named h _ hn

theorem Blocks.isolate_takes (b : Blocks) (named : HeadId → Prop) (h : HeadId) (c : Condition)
    (hn : named h) : Blocks.Takes named b (b.isolate h c) := by
  unfold Blocks.isolate
  dsimp only
  have h1 := (((b.setRanges_takes named
    (b.rt.update h (openList (b.boundStart (c.start b.ds.sew))))).trans
    (Blocks.modHead_takes _ named h (fun u => { u with state := .isolated, faultFlag := true }) hn
      (by simp))).trans (Blocks.headEvent_takes _ named h .isolated)).trans
    (Blocks.monitorLeaves_takes _ named h hn)
  split_ifs
  · exact (h1.trans (Blocks.setRanges_takes _ _ _)).trans
      (Blocks.modHead_takes _ named h _ hn (by simp))
  · exact h1

theorem Blocks.writeEntry_takes (b : Blocks) (named : HeadId → Prop) (c : Condition)
    (hn : ∀ h, c.head = some h → named h) : Blocks.Takes named b (b.writeEntry c) := by
  have h0 : Blocks.Takes named b (({ b with fl := b.fl.write (b.entry c) } : Blocks).raise .fault) := by
    constructor <;>
      simp [Blocks.patchGoesOn, Blocks.sewSlot, Blocks.patchWork, Blocks.raise, Ru.raise, Fl.write]
  unfold Blocks.writeEntry
  cases hc : c.head with
  | none => exact h0
  | some h => exact h0.trans (Blocks.modMonitor_takes _ _ _ _ (hn h hc))

theorem Blocks.notePatchBreak_takes (b : Blocks) (named : HeadId → Prop) (c : Condition) :
    Blocks.Takes named b (b.notePatchBreak c) := by
  unfold Blocks.notePatchBreak
  split
  · rename_i tag base w h _ _ _ bs hop
    split_ifs
    · exact b.setWork_takes named tag base w _ hop rfl
    · exact .refl _ _
  · exact .refl _ _

/-- The action of a condition of an index does not end an operation and halts nothing. -/
theorem Blocks.action_ofIndex (b : Blocks) (c : Condition) (hc : c.ofIndex) :
    b.action c ≠ .failed ∧ b.action c ≠ .halt := by
  have hp : ∀ h, b.policyAction h c ≠ .failed ∧ b.policyAction h c ≠ .halt := by
    intro h
    unfold Blocks.policyAction
    split_ifs <;> decide
  cases c <;> first
    | exact hc.elim
    | exact hp _
    | (refine ⟨?_, ?_⟩ <;> simp [Blocks.action]; done)
    | (unfold Blocks.action
       dsimp only
       cases b.cf.settings.looseAction
       · exact ⟨by simp, by simp⟩
       · exact hp _)

/-- Taking a condition of an index. -/
theorem Blocks.take_takes (b : Blocks) (named : HeadId → Prop) (c : Condition)
    (hn : ∀ h, c.head = some h → named h) (hp : b.patchGoesOn) (hc : c.ofIndex) :
    Blocks.Takes named b (b.take c) := by
  have h1 := b.writeEntry_takes named c hn
  have hp1 := h1.patch hp
  have ha := b.action_ofIndex c hc
  unfold Blocks.take
  dsimp only
  refine h1.trans ?_
  generalize b.writeEntry c = x at hp1 ⊢
  cases hact : b.action c with
  | stopAll =>
    dsimp only
    split_ifs
    · exact .refl _ _
    · unfold Blocks.handStopAll
      split_ifs
      · exact .refl _ _
      · cases hh : c.head with
        | none => exact x.stopAll_takes named hp1
        | some h =>
          have r := ((x.modHead_takes named h (fun u => { u with faultFlag := true }) (hn h hh)
            (by simp)).trans (Blocks.headEvent_takes _ named h .faulted)).trans
            (Blocks.notePatchBreak_takes _ named c)
          exact r.trans (Blocks.stopAll_takes _ named (r.patch hp1))
  | isolate =>
    dsimp only
    split_ifs
    · exact .refl _ _
    · unfold Blocks.handIsolate
      cases hh : c.head with
      | none => exact .refl _ _
      | some h => exact x.isolate_takes named h c (hn h hh)
  | none => exact .refl _ _
  | failed => exact absurd hact ha.1
  | halt => exact absurd hact ha.2

/-- Taking a condition of an index writes its entry, and nothing else of FL. -/
theorem Blocks.take_fl (b : Blocks) (c : Condition) : (b.take c).fl = b.fl.write (b.entry c) := by
  rw [← b.writeEntry_fl c]
  unfold Blocks.take
  dsimp only
  cases b.action c <;> dsimp only
  · split_ifs <;> simp
  · split_ifs <;> simp
  · simp
  · simp

/-- Taking a list of conditions of an index: each is written, in the order of the list. -/
theorem Blocks.takeAll_takes (named : HeadId → Prop) (cs : List Condition) :
    ∀ b : Blocks, b.patchGoesOn → (∀ c ∈ cs, c.ofIndex) →
      (∀ c ∈ cs, ∀ h, c.head = some h → named h) →
      Blocks.Takes named b (b.takeAll cs)
        ∧ ∃ l : List Entry, (b.takeAll cs).fl = l.foldl Fl.write b.fl ∧ l.length = cs.length := by
  induction cs with
  | nil => exact fun b _ _ _ => ⟨.refl _ _, [], rfl, rfl⟩
  | cons c cs ih =>
    intro b hp hc hn
    have r := b.take_takes named c (hn c (by simp)) hp (hc c (by simp))
    obtain ⟨r', l, hl, hk⟩ := ih (b.take c) (r.patch hp) (fun x hx => hc x (by simp [hx]))
      (fun x hx => hn x (by simp [hx]))
    rw [Blocks.takeAll_cons]
    refine ⟨r.trans r', b.entry c :: l, ?_, by simp [hk]⟩
    rw [hl, b.take_fl c]
    rfl

/-! ## The bobbins and the monitors of all heads -/

/-- A head after the lowering of its bobbin, where it takes part (R114). -/
def Blocks.loweredHead (b : Blocks) (h : HeadId) : Head :=
  if (b.hu.get h).takesPart then ((b.hu.get h).lowerBobbin b.cf.settings.bobbinLow).1 else b.hu.get h

/-- The BOBBIN_EMPTY of a head (R114). -/
def Blocks.emptyBobbin (b : Blocks) (index : Nat) (h : HeadId) : List Condition :=
  if (b.hu.get h).takesPart = true ∧ ((b.hu.get h).lowerBobbin b.cf.settings.bobbinLow).2.2 = true then
    [.bobbinEmpty h (b.hu.get h).selector.needle b.sewSlot index]
  else []

/-- The BOBBIN_LOW of a head, as its flag (R114). -/
def Blocks.lowBobbin (b : Blocks) (h : HeadId) : BitVec 4 :=
  if (b.hu.get h).takesPart = true ∧ ((b.hu.get h).lowerBobbin b.cf.settings.bobbinLow).2.1 = true then
    HeadEvent.bobbinLow.bit
  else 0#4

theorem Eight.set_get {α : Type} (e : Eight α) (i : Id8) : e.set i (e.get i) = e := by
  cases i <;> rfl

/-- Raising a head event sets its flag of that head alone. -/
theorem Ru.headEvent_flags (r : Ru) (h g : HeadId) (e : HeadEvent) :
    ((r.headEvent h e).heads.get g).flags
      = (r.heads.get g).flags ||| (if g = h then e.bit else 0#4) := by
  unfold Ru.headEvent
  rw [Eight.get_update]
  split_ifs
  · rfl
  · simp

theorem Blocks.lowerBobbinOf_eq (index : Nat) (b : Blocks) (cs : List Condition) (h : HeadId) :
    ∃ ru : Ru, Blocks.lowerBobbinOf index (b, cs) h =
        ({ b with hu := b.hu.set h (b.loweredHead h), ru := ru }, cs ++ b.emptyBobbin index h)
      ∧ ∀ g, (ru.heads.get g).flags
          = (b.ru.heads.get g).flags ||| (if g = h then b.lowBobbin h else 0#4) := by
  unfold Blocks.lowerBobbinOf Blocks.loweredHead Blocks.emptyBobbin Blocks.lowBobbin
  cases ht : (b.hu.get h).takesPart
  · exact ⟨b.ru, by simp [ht, Eight.set_get], by simp⟩
  · simp only [ht, if_true, true_and]
    cases hl : ((b.hu.get h).lowerBobbin b.cf.settings.bobbinLow).2.1
    · refine ⟨b.ru, ?_, by simp⟩
      simp only [Bool.false_eq_true, if_false]
      congr 1
      split_ifs <;> simp
    · refine ⟨b.ru.headEvent h .bobbinLow, ?_, fun g => by simp [Ru.headEvent_flags]⟩
      simp only [if_true, Blocks.headEvent]
      congr 1
      split_ifs <;> simp [Blocks.sewSlot, Blocks.patchWork]

/-- Every head of a list lowers its bobbin, each by its own record. -/
theorem Blocks.lowerBobbinOf_fold (index : Nat) : ∀ (l : List HeadId) (b : Blocks)
    (cs : List Condition), l.Nodup → ∃ (ru : Ru) (hu : Eight Head),
      l.foldl (Blocks.lowerBobbinOf index) (b, cs) =
        ({ b with hu := hu, ru := ru }, cs ++ l.flatMap (b.emptyBobbin index))
      ∧ (∀ g, hu.get g = if g ∈ l then b.loweredHead g else b.hu.get g)
      ∧ ∀ g, (ru.heads.get g).flags
          = (b.ru.heads.get g).flags ||| (if g ∈ l then b.lowBobbin g else 0#4) := by
  intro l
  induction l with
  | nil => exact fun b cs _ => ⟨b.ru, b.hu, by simp, by simp, by simp⟩
  | cons h l ih =>
    intro b cs hn
    rw [List.nodup_cons] at hn
    obtain ⟨ru1, h1, f1⟩ := Blocks.lowerBobbinOf_eq index b cs h
    rw [List.foldl_cons, h1]
    obtain ⟨x, hx⟩ : ∃ x : Blocks, x = { b with hu := b.hu.set h (b.loweredHead h), ru := ru1 } :=
      ⟨_, rfl⟩
    obtain ⟨ru2, hu2, h2, g2, f2⟩ := ih x (cs ++ b.emptyBobbin index h) hn.2
    have hne : ∀ g ∈ l, g ≠ h := by
      rintro g hg rfl
      exact hn.1 hg
    have hm : ∀ g ∈ l, x.hu.get g = b.hu.get g := by
      intro g hg
      rw [hx]
      exact Eight.get_set_other _ _ _ _ (hne g hg)
    rw [← hx]
    refine ⟨ru2, hu2, ?_, fun g => ?_, fun g => ?_⟩
    · have e : l.flatMap (x.emptyBobbin index) = l.flatMap (b.emptyBobbin index) := by
        refine List.flatMap_congr fun g hg => ?_
        unfold Blocks.emptyBobbin
        rw [hm g hg, hx]
        rfl
      rw [h2, e, hx]
      simp only [List.flatMap_cons, List.append_assoc]
    · rw [g2]
      by_cases hgl : g ∈ l
      · rw [if_pos hgl, if_pos (by simp [hgl])]
        unfold Blocks.loweredHead
        rw [hm g hgl, hx]
      · by_cases hgh : g = h <;> simp [hgl, hgh, hx, Eight.get_set, hn.1]
    · have : (x.ru.heads.get g).flags = (ru1.heads.get g).flags := by rw [hx]
      rw [f2, this, f1]
      by_cases hgl : g ∈ l
      · rw [if_pos hgl, if_neg (hne g hgl), if_pos (by simp [hgl])]
        unfold Blocks.lowBobbin
        rw [hm g hgl, hx]
        simp
      · by_cases hgh : g = h <;> simp [hgl, hgh, hn.1]

/-- The judgement of a head's window at the end of a cycle (R122). -/
def Blocks.verdictOf (b : Blocks) (c : Cycle) (h : HeadId) : Option Verdict :=
  if c.kind = .stitch ∧ (b.hu.get h).takesPart = true ∧ (b.tm.get h).state = .armed
      ∧ (b.hu.get h).faultFlag = false then
    (b.tm.get h).window.map ((b.tm.get h).judge b.cf.settings c.index)
  else none

/-- The conditions of a judgement (R124, R125). -/
def Blocks.judgedFaults (b : Blocks) (c : Cycle) (h : HeadId) : List Condition :=
  match b.verdictOf c h with
  | none => []
  | some v =>
    (match v.threadBreak with
      | some a => [.threadBreak h (b.hu.get h).selector.needle b.sewSlot c.index a]
      | none => [])
    ++ (if v.loose then [.tensionLoose h (b.hu.get h).selector.needle b.sewSlot c.index] else [])

/-- The TENSION_WARN of a judgement, as its flag (R127). -/
def Blocks.warnFlag (b : Blocks) (c : Cycle) (h : HeadId) : BitVec 4 :=
  if (b.verdictOf c h).any (·.warn) then HeadEvent.tensionWarn.bit else 0#4

/-- A monitor whose window is closed; in the run the monitor of a head that left SEWING turns off (R116, R119). -/
def Monitor.shut (m : Monitor) (plan : PlanMode) (u : Head) : Monitor :=
  if plan == .run && u.state != .sewing then { m.turnOff with window := none }
  else { m with window := none }

/-- The monitor of a head as the cycle end leaves it (R116, R119, R122). -/
def Blocks.closedMonitor (b : Blocks) (plan : PlanMode) (c : Cycle) (h : HeadId) : Monitor :=
  if (b.hu.get h).takesPart then
    (match b.verdictOf c h with
      | some v => v.monitor
      | none =>
        if c.kind = RecordKind.stitch ∧ (b.tm.get h).state = MonitorState.settling then
          (b.tm.get h).advanceSettle
        else b.tm.get h).shut plan (b.hu.get h)
  else b.tm.get h

theorem Blocks.closeWindowOf_eq (plan : PlanMode) (c : Cycle) (b : Blocks) (cs : List Condition)
    (h : HeadId) : ∃ ru : Ru, Blocks.closeWindowOf plan c (b, cs) h =
        ({ b with tm := b.tm.set h (b.closedMonitor plan c h), ru := ru }, cs ++ b.judgedFaults c h)
      ∧ ∀ g, (ru.heads.get g).flags
          = (b.ru.heads.get g).flags ||| (if g = h then b.warnFlag c h else 0#4) := by
  have hdone : ∀ m : Monitor, (if (plan == .run && (b.hu.get h).state != .sewing) = true then
      { m.turnOff with window := none } else { m with window := none })
      = m.shut plan (b.hu.get h) := fun _ => rfl
  unfold Blocks.closeWindowOf
  dsimp only
  simp only [hdone]
  unfold Blocks.closedMonitor Blocks.judgedFaults Blocks.warnFlag Blocks.verdictOf
  cases ht : (b.hu.get h).takesPart
  · exact ⟨b.ru, by simp [Eight.set_get], by simp⟩
  · simp only [if_true, true_and]
    by_cases h1 : c.kind = RecordKind.stitch ∧ (b.tm.get h).state = MonitorState.settling
    · exact ⟨b.ru, by simp [h1], by simp [h1]⟩
    · rw [if_neg h1]
      by_cases h2 : c.kind = RecordKind.stitch ∧ (b.tm.get h).state = MonitorState.armed
          ∧ (b.hu.get h).faultFlag = false
      · rw [if_pos h2]
        cases hw : (b.tm.get h).window with
        | none => exact ⟨b.ru, by simp [h1], by simp⟩
        | some w =>
          simp only [h2, and_self, if_true, Option.map_some]
          cases hv : ((b.tm.get h).judge b.cf.settings c.index w).warn
          · refine ⟨b.ru, ?_, by simp [hv]⟩
            simp only [Bool.false_eq_true, if_false, List.append_assoc] <;> congr 2
          · refine ⟨b.ru.headEvent h .tensionWarn, ?_, fun g => by simp [hv, Ru.headEvent_flags]⟩
            simp only [if_true, List.append_assoc, Blocks.headEvent] <;> congr 2
      · rw [if_neg h2]
        exact ⟨b.ru, by simp [h1, h2], by simp [h2]⟩

/-- Every head of a list closes its window, each by its own record. -/
theorem Blocks.closeWindowOf_fold (plan : PlanMode) (c : Cycle) : ∀ (l : List HeadId) (b : Blocks)
    (cs : List Condition), l.Nodup → ∃ (ru : Ru) (tm : Eight Monitor),
      l.foldl (Blocks.closeWindowOf plan c) (b, cs) =
        ({ b with tm := tm, ru := ru }, cs ++ l.flatMap (b.judgedFaults c))
      ∧ (∀ g, tm.get g = if g ∈ l then b.closedMonitor plan c g else b.tm.get g)
      ∧ ∀ g, (ru.heads.get g).flags
          = (b.ru.heads.get g).flags ||| (if g ∈ l then b.warnFlag c g else 0#4) := by
  intro l
  induction l with
  | nil => exact fun b cs _ => ⟨b.ru, b.tm, by simp, by simp, by simp⟩
  | cons h l ih =>
    intro b cs hn
    rw [List.nodup_cons] at hn
    obtain ⟨ru1, h1, f1⟩ := Blocks.closeWindowOf_eq plan c b cs h
    rw [List.foldl_cons, h1]
    obtain ⟨x, hx⟩ : ∃ x : Blocks, x = { b with tm := b.tm.set h (b.closedMonitor plan c h), ru := ru1 } :=
      ⟨_, rfl⟩
    obtain ⟨ru2, tm2, h2, g2, f2⟩ := ih x (cs ++ b.judgedFaults c h) hn.2
    have hne : ∀ g ∈ l, g ≠ h := by
      rintro g hg rfl
      exact hn.1 hg
    have hm : ∀ g ∈ l, x.tm.get g = b.tm.get g := by
      intro g hg
      rw [hx]
      exact Eight.get_set_other _ _ _ _ (hne g hg)
    have hv : ∀ g ∈ l, x.verdictOf c g = b.verdictOf c g := by
      intro g hg
      unfold Blocks.verdictOf
      rw [hm g hg, hx]
    rw [← hx]
    refine ⟨ru2, tm2, ?_, fun g => ?_, fun g => ?_⟩
    · have e : l.flatMap (x.judgedFaults c) = l.flatMap (b.judgedFaults c) := by
        refine List.flatMap_congr fun g hg => ?_
        unfold Blocks.judgedFaults
        rw [hv g hg, hx]
        rfl
      rw [h2, e, hx]
      simp only [List.flatMap_cons, List.append_assoc]
    · rw [g2]
      by_cases hgl : g ∈ l
      · rw [if_pos hgl, if_pos (by simp [hgl])]
        unfold Blocks.closedMonitor
        rw [hv g hgl, hm g hgl, hx]
      · by_cases hgh : g = h <;> simp [hgl, hgh, hx, Eight.get_set, hn.1]
    · have : (x.ru.heads.get g).flags = (ru1.heads.get g).flags := by rw [hx]
      rw [f2, this, f1]
      by_cases hgl : g ∈ l
      · rw [if_pos hgl, if_neg (hne g hgl), if_pos (by simp [hgl])]
        unfold Blocks.warnFlag
        rw [hv g hgl]
        simp
      · by_cases hgh : g = h <;> simp [hgl, hgh, hn.1]

/-! ## The decision on the next cycle -/

/-- A cycle move begun is never patch travel. -/
theorem Fc.beginWaiting_move (l : List CycleMove) : ∀ f : Fc,
    (∀ asked, f.move ≠ some ⟨.patchTravel, asked⟩) →
      ∀ asked, (Fc.beginWaiting l f).move ≠ some ⟨.patchTravel, asked⟩ := by
  induction l with
  | nil => exact fun f h => h
  | cons m ms ih =>
    intro f h
    unfold Fc.beginWaiting
    split_ifs
    · refine ih _ fun asked => ?_
      unfold Fc.depart
      dsimp only
      split_ifs <;> simp
    · exact h

/-- The decision leaves the bobbins, the log and the flags; the shaft rests, or the next cycle starts and
every monitor with it (R52, R57, R118). -/
theorem Blocks.decideNext_spec (b : Blocks) (plan : PlanMode) (c : Cycle) (ht : b.sc.turns = true)
    (hm : ∀ asked, b.fc.move ≠ some ⟨.patchTravel, asked⟩) :
    let y := b.decideNext plan c
    y.cf = b.cf ∧ y.ds = b.ds ∧ y.fl = b.fl ∧ y.ru = b.ru ∧ y.patchGoesOn
      ∧ (∀ g, (y.hu.get g).bobbin = (b.hu.get g).bobbin ∧ (y.hu.get g).lowLatch = (b.hu.get g).lowLatch)
      ∧ ((y.sc.state = .stopped ∧ y.tm = b.tm)
        ∨ (y.sc.turns = true ∧ ∃ r : StoredRecord, y.sc.cycle.map (·.kind) = some r.kind
          ∧ ∀ h, y.tm.get h = (b.tm.get h).atStart b.cf.settings.settleCode (y.hu.get h).takesPart
              (if r.kind = .stitch then some ⟨0, classOf r.dx r.dy⟩ else none))) := by
  have rests : ∀ last i, let y := b.comeToRest plan last i
      y.cf = b.cf ∧ y.ds = b.ds ∧ y.fl = b.fl ∧ y.ru = b.ru ∧ y.patchGoesOn
      ∧ (∀ g, (y.hu.get g).bobbin = (b.hu.get g).bobbin ∧ (y.hu.get g).lowLatch = (b.hu.get g).lowLatch)
      ∧ y.sc.state = .stopped ∧ y.tm = b.tm := by
    intro last i
    refine ⟨rfl, rfl, rfl, rfl, ⟨hm, Or.inr (by simp [Blocks.comeToRest])⟩, fun g => ?_, rfl, rfl⟩
    simp [Blocks.comeToRest, Blocks.relaxHeads, Head.relax]
  have starts : ∀ i r speed, let y := b.cycleStart plan i r speed
      y.cf = b.cf ∧ y.ds = b.ds ∧ y.fl = b.fl ∧ y.ru = b.ru ∧ y.patchGoesOn
      ∧ (∀ g, (y.hu.get g).bobbin = (b.hu.get g).bobbin ∧ (y.hu.get g).lowLatch = (b.hu.get g).lowLatch)
      ∧ y.sc.turns = true ∧ y.sc.cycle.map (·.kind) = some r.kind
      ∧ ∀ h, y.tm.get h = (b.tm.get h).atStart b.cf.settings.settleCode (y.hu.get h).takesPart
          (if r.kind = .stitch then some ⟨0, classOf r.dx r.dy⟩ else none) := by
    intro i r speed
    refine ⟨rfl, rfl, rfl, rfl, ⟨?_, Or.inl ht⟩, fun g => ?_, ht, rfl, fun h => ?_⟩
    · unfold Blocks.cycleStart
      by_cases hk : r.kind = .stitch ∨ r.kind = .jump
      · simp only [if_pos hk]
        exact Fc.beginWaiting_move _ _ hm
      · simp only [if_neg hk]
        exact hm
    · simp [Blocks.cycleStart, Head.atStart]
    · simp [Blocks.cycleStart, Head.atStart]
  have atRest : ∀ last i, _ := fun last i =>
    (⟨(rests last i).1, (rests last i).2.1, (rests last i).2.2.1, (rests last i).2.2.2.1,
      (rests last i).2.2.2.2.1, (rests last i).2.2.2.2.2.1, Or.inl (rests last i).2.2.2.2.2.2⟩ :
      let y := b.comeToRest plan last i
      y.cf = b.cf ∧ y.ds = b.ds ∧ y.fl = b.fl ∧ y.ru = b.ru ∧ y.patchGoesOn
      ∧ (∀ g, (y.hu.get g).bobbin = (b.hu.get g).bobbin ∧ (y.hu.get g).lowLatch = (b.hu.get g).lowLatch)
      ∧ ((y.sc.state = .stopped ∧ y.tm = b.tm)
        ∨ (y.sc.turns = true ∧ ∃ r : StoredRecord, y.sc.cycle.map (·.kind) = some r.kind
          ∧ ∀ h, y.tm.get h = (b.tm.get h).atStart b.cf.settings.settleCode (y.hu.get h).takesPart
              (if r.kind = .stitch then some ⟨0, classOf r.dx r.dy⟩ else none))))
  unfold Blocks.decideNext
  dsimp only
  by_cases h1 : b.sc.state = .stopping ∧ b.sc.previous ≤ 200
  · rw [if_pos h1]
    exact atRest _ _
  · rw [if_neg h1]
    split
    · obtain ⟨s1, s2, s3, s4, s5, s6, s7, s8, s9⟩ := starts (b.cycleIndex plan (c.index + 1)) _ _
      exact ⟨s1, s2, s3, s4, s5, s6, Or.inr ⟨s7, _, s8, s9⟩⟩
    · exact atRest _ _

/-- RC counting a record sewn touches the store, the slot in effect and the patch pointer alone. -/
theorem Blocks.countSewn_spec (b : Blocks) (plan : PlanMode) (c : Cycle) :
    let y := b.countSewn plan c
    y.hu = b.hu ∧ y.tm = b.tm ∧ y.sc = b.sc ∧ y.fc = b.fc ∧ y.cf = b.cf ∧ y.fl = b.fl
      ∧ y.ru.heads = b.ru.heads ∧ y.rc.stop = b.rc.stop ∧ y.ds.channel = b.ds.channel := by
  unfold Blocks.countSewn
  cases plan with
  | run =>
    have h : b.advance.ru.heads = b.ru.heads ∧ b.advance.rc.stop = b.rc.stop := by
      unfold Blocks.advance Blocks.releaseTest Blocks.readSlot
      dsimp only
      split_ifs <;> exact ⟨rfl, rfl⟩
    simp [h]
  | patch e =>
    dsimp only
    split <;> simp [Blocks.setWork]

/-! ## A free order takes every condition once -/

theorem insertAt_perm {α : Type} (a : α) : ∀ (n : Nat) (l : List α), (insertAt a n l).Perm (a :: l)
  | 0, _ => .refl _
  | _ + 1, [] => .refl _
  | n + 1, x :: l => ((insertAt_perm a n l).cons x).trans (.swap a x l)

theorem shuffle_perm {α : Type} (choice : Nat → Nat) : ∀ l : List α, (shuffle choice l).Perm l
  | [] => .refl _
  | a :: l => (insertAt_perm _ _ _).trans ((shuffle_perm choice l).cons a)

/-- Splitting a list by the places of its members loses none. -/
theorem partition_perm {α : Type} (p : α × Nat → Bool) (l : List α) :
    ((l.zipIdx.partition p).1.map (·.1) ++ (l.zipIdx.partition p).2.map (·.1)).Perm l := by
  rw [← List.map_append, List.partition_eq_filter_filter]
  conv_rhs => rw [show l = l.zipIdx.map (·.1) by simp]
  exact (List.filter_append_perm _ _).map _

/-- Every condition has one of three moments. -/
theorem moments_perm (choice : Nat → Nat) (l : List Condition) :
    (ofMoment choice .early l ++ (ofMoment choice .late l ++ ofMoment choice .deferred l)).Perm l := by
  have key : ∀ L : List (Condition × Nat),
      (L.filter (fun p => Moment.ofChoice (choice p.2) == .early)
        ++ (L.filter (fun p => Moment.ofChoice (choice p.2) == .late)
          ++ L.filter (fun p => Moment.ofChoice (choice p.2) == .deferred))).Perm L := by
    intro L
    induction L with
    | nil => exact .refl _
    | cons x L ih =>
      have h3 : Moment.ofChoice (choice x.2) = .early ∨ Moment.ofChoice (choice x.2) = .late
          ∨ Moment.ofChoice (choice x.2) = .deferred := by
        unfold Moment.ofChoice
        split_ifs <;> simp
      rcases h3 with h | h | h <;> simp only [List.filter_cons, h, reduceCtorEq, beq_iff_eq, if_false,
        beq_self_eq_true, if_true]
      · exact ih.cons x
      · exact List.perm_middle.trans (ih.cons x)
      · rw [← List.append_assoc]
        refine List.perm_middle.trans ?_
        rw [List.append_assoc]
        exact ih.cons x
  unfold ofMoment
  rw [← List.map_append, ← List.map_append]
  conv_rhs => rw [show l = l.zipIdx.map (·.1) by simp]
  exact (key _).map _

end Sys2Proof.Machine
end

