-- ==== Sys2Proof/Laws/Link.lean ====
section
/-!
SUPPORT. The arrival of a frame at a link that is free is one reply and the owner's answer (R172);
one lemma for each row that is a command frame.
-/

namespace Sys2Proof.Machine

/-- A frame that finds the link free is taken at once. -/
theorem arrive_free (f : Frame) (s : State) (h : s.linkFree) : arrive f s = s.takeFrame f := by
  obtain ⟨⟨rate, rx, low, slots, replies, tx, errs, rst⟩, blk, q⟩ := s
  obtain ⟨hs, hr, ht⟩ := h
  simp only at hs hr ht
  subst hs; subst ht
  simp [arrive, State.decode, State.drain, Pl.mayTake, Config.linkPlaces, hr]

/-- A frame that is neither STAT nor RST is answered with one reply. -/
theorem takeFrame_replied (f : Frame) (s : State) (h5 : f.type ≠ 0x05#8) (h8 : f.type ≠ 0x08#8) :
    s.takeFrame f
      = s.replied f.type f.tag (answer s.pl.errs f s.blk).2 (answer s.pl.errs f s.blk).1 := by
  simp [State.takeFrame, State.replied, replyFrame, h5, h8]

/-- The row of a frame that is neither STAT nor RST, at a link that is free. -/
theorem hostFrame_free (type tag : Byte) (p : List Byte) (s : State) (h : s.linkFree)
    (h5 : type ≠ 0x05#8) (h8 : type ≠ 0x08#8) :
    hostFrame type tag p s = .next (s.replied type tag
      (answer s.pl.errs ⟨type, tag, p⟩ s.blk).2 (answer s.pl.errs ⟨type, tag, p⟩ s.blk).1) := by
  rw [hostFrame, arrive_free _ _ h, takeFrame_replied _ _ h5 h8]

theorem exec_ident (tag : Byte) (p : List Byte) (s : State) (h : s.linkFree) :
    exec (.ident tag p) s
      = .next (s.replied 0x01#8 tag (cmdIdent tag p s.blk).2 (cmdIdent tag p s.blk).1) :=
  hostFrame_free 0x01#8 tag p s h (by decide) (by decide)

theorem exec_cfg (tag : Byte) (p : List Byte) (s : State) (h : s.linkFree) :
    exec (.cfg tag p) s
      = .next (s.replied 0x02#8 tag (cmdCfg tag p s.blk).2 (cmdCfg tag p s.blk).1) :=
  hostFrame_free 0x02#8 tag p s h (by decide) (by decide)

theorem exec_setw (tag : Byte) (p : List Byte) (s : State) (h : s.linkFree) :
    exec (.setw tag p) s
      = .next (s.replied 0x03#8 tag (cmdSetw tag p s.blk).2 (cmdSetw tag p s.blk).1) :=
  hostFrame_free 0x03#8 tag p s h (by decide) (by decide)

theorem exec_setr (tag : Byte) (p : List Byte) (s : State) (h : s.linkFree) :
    exec (.setr tag p) s
      = .next (s.replied 0x04#8 tag (cmdSetr tag p s.blk).2 (cmdSetr tag p s.blk).1) :=
  hostFrame_free 0x04#8 tag p s h (by decide) (by decide)

theorem exec_hstat (tag : Byte) (p : List Byte) (s : State) (h : s.linkFree) :
    exec (.hstat tag p) s
      = .next (s.replied 0x09#8 tag (cmdHstat tag p s.blk).2 (cmdHstat tag p s.blk).1) :=
  hostFrame_free 0x09#8 tag p s h (by decide) (by decide)

theorem exec_mask (tag : Byte) (p : List Byte) (s : State) (h : s.linkFree) :
    exec (.mask tag p) s
      = .next (s.replied 0x0A#8 tag (cmdMask tag p s.blk).2 (cmdMask tag p s.blk).1) :=
  hostFrame_free 0x0A#8 tag p s h (by decide) (by decide)

theorem exec_evclr (tag : Byte) (p : List Byte) (s : State) (h : s.linkFree) :
    exec (.evclr tag p) s
      = .next (s.replied 0x0B#8 tag (cmdEvclr tag p s.blk).2 (cmdEvclr tag p s.blk).1) :=
  hostFrame_free 0x0B#8 tag p s h (by decide) (by decide)

theorem exec_dopen (tag : Byte) (p : List Byte) (s : State) (h : s.linkFree) :
    exec (.dopen tag p) s
      = .next (s.replied 0x10#8 tag (cmdDopen tag p s.blk).2 (cmdDopen tag p s.blk).1) :=
  hostFrame_free 0x10#8 tag p s h (by decide) (by decide)

theorem exec_ddata (tag : Byte) (p : List Byte) (s : State) (h : s.linkFree) :
    exec (.ddata tag p) s
      = .next (s.replied 0x11#8 tag (cmdDdata tag p s.blk).2 (cmdDdata tag p s.blk).1) :=
  hostFrame_free 0x11#8 tag p s h (by decide) (by decide)

theorem exec_dunst (tag : Byte) (p : List Byte) (s : State) (h : s.linkFree) :
    exec (.dunst tag p) s
      = .next (s.replied 0x12#8 tag (cmdDunst tag p s.blk).2 (cmdDunst tag p s.blk).1) :=
  hostFrame_free 0x12#8 tag p s h (by decide) (by decide)

theorem exec_dabt (tag : Byte) (p : List Byte) (s : State) (h : s.linkFree) :
    exec (.dabt tag p) s
      = .next (s.replied 0x13#8 tag (cmdDabt tag p s.blk).2 (cmdDabt tag p s.blk).1) :=
  hostFrame_free 0x13#8 tag p s h (by decide) (by decide)

theorem exec_dread (tag : Byte) (p : List Byte) (s : State) (h : s.linkFree) :
    exec (.dread tag p) s
      = .next (s.replied 0x14#8 tag (cmdDread tag p s.blk).2 (cmdDread tag p s.blk).1) :=
  hostFrame_free 0x14#8 tag p s h (by decide) (by decide)

theorem exec_hoopdef (tag : Byte) (p : List Byte) (s : State) (h : s.linkFree) :
    exec (.hoopdef tag p) s
      = .next (s.replied 0x18#8 tag (cmdHoopdef tag p s.blk).2 (cmdHoopdef tag p s.blk).1) :=
  hostFrame_free 0x18#8 tag p s h (by decide) (by decide)

theorem exec_hoopsel (tag : Byte) (p : List Byte) (s : State) (h : s.linkFree) :
    exec (.hoopsel tag p) s
      = .next (s.replied 0x19#8 tag (cmdHoopsel tag p s.blk).2 (cmdHoopsel tag p s.blk).1) :=
  hostFrame_free 0x19#8 tag p s h (by decide) (by decide)

theorem exec_place (tag : Byte) (p : List Byte) (s : State) (h : s.linkFree) :
    exec (.place tag p) s
      = .next (s.replied 0x1A#8 tag (cmdPlace tag p s.blk).2 (cmdPlace tag p s.blk).1) :=
  hostFrame_free 0x1A#8 tag p s h (by decide) (by decide)

theorem exec_move (tag : Byte) (p : List Byte) (s : State) (h : s.linkFree) :
    exec (.move tag p) s
      = .next (s.replied 0x1B#8 tag (cmdMove tag p s.blk).2 (cmdMove tag p s.blk).1) :=
  hostFrame_free 0x1B#8 tag p s h (by decide) (by decide)

theorem exec_home (tag : Byte) (p : List Byte) (s : State) (h : s.linkFree) :
    exec (.home tag p) s
      = .next (s.replied 0x20#8 tag (cmdHome tag p s.blk).2 (cmdHome tag p s.blk).1) :=
  hostFrame_free 0x20#8 tag p s h (by decide) (by decide)

theorem exec_run (tag : Byte) (p : List Byte) (s : State) (h : s.linkFree) :
    exec (.run tag p) s
      = .next (s.replied 0x21#8 tag (cmdRun tag p s.blk).2 (cmdRun tag p s.blk).1) :=
  hostFrame_free 0x21#8 tag p s h (by decide) (by decide)

theorem exec_pause (tag : Byte) (p : List Byte) (s : State) (h : s.linkFree) :
    exec (.pause tag p) s
      = .next (s.replied 0x22#8 tag (cmdPause tag p s.blk).2 (cmdPause tag p s.blk).1) :=
  hostFrame_free 0x22#8 tag p s h (by decide) (by decide)

theorem exec_speed (tag : Byte) (p : List Byte) (s : State) (h : s.linkFree) :
    exec (.speed tag p) s
      = .next (s.replied 0x23#8 tag (cmdSpeed tag p s.blk).2 (cmdSpeed tag p s.blk).1) :=
  hostFrame_free 0x23#8 tag p s h (by decide) (by decide)

theorem exec_back (tag : Byte) (p : List Byte) (s : State) (h : s.linkFree) :
    exec (.back tag p) s
      = .next (s.replied 0x24#8 tag (cmdBack tag p s.blk).2 (cmdBack tag p s.blk).1) :=
  hostFrame_free 0x24#8 tag p s h (by decide) (by decide)

theorem exec_fwd (tag : Byte) (p : List Byte) (s : State) (h : s.linkFree) :
    exec (.fwd tag p) s
      = .next (s.replied 0x25#8 tag (cmdFwd tag p s.blk).2 (cmdFwd tag p s.blk).1) :=
  hostFrame_free 0x25#8 tag p s h (by decide) (by decide)

theorem exec_close (tag : Byte) (p : List Byte) (s : State) (h : s.linkFree) :
    exec (.close tag p) s
      = .next (s.replied 0x26#8 tag (cmdClose tag p s.blk).2 (cmdClose tag p s.blk).1) :=
  hostFrame_free 0x26#8 tag p s h (by decide) (by decide)

theorem exec_hen (tag : Byte) (p : List Byte) (s : State) (h : s.linkFree) :
    exec (.hen tag p) s
      = .next (s.replied 0x28#8 tag (cmdHen tag p s.blk).2 (cmdHen tag p s.blk).1) :=
  hostFrame_free 0x28#8 tag p s h (by decide) (by decide)

theorem exec_hdis (tag : Byte) (p : List Byte) (s : State) (h : s.linkFree) :
    exec (.hdis tag p) s
      = .next (s.replied 0x29#8 tag (cmdHdis tag p s.blk).2 (cmdHdis tag p s.blk).1) :=
  hostFrame_free 0x29#8 tag p s h (by decide) (by decide)

theorem exec_hjoin (tag : Byte) (p : List Byte) (s : State) (h : s.linkFree) :
    exec (.hjoin tag p) s
      = .next (s.replied 0x2A#8 tag (cmdHjoin tag p s.blk).2 (cmdHjoin tag p s.blk).1) :=
  hostFrame_free 0x2A#8 tag p s h (by decide) (by decide)

theorem exec_hleave (tag : Byte) (p : List Byte) (s : State) (h : s.linkFree) :
    exec (.hleave tag p) s
      = .next (s.replied 0x2B#8 tag (cmdHleave tag p s.blk).2 (cmdHleave tag p s.blk).1) :=
  hostFrame_free 0x2B#8 tag p s h (by decide) (by decide)

theorem exec_hclr (tag : Byte) (p : List Byte) (s : State) (h : s.linkFree) :
    exec (.hclr tag p) s
      = .next (s.replied 0x2C#8 tag (cmdHclr tag p s.blk).2 (cmdHclr tag p s.blk).1) :=
  hostFrame_free 0x2C#8 tag p s h (by decide) (by decide)

theorem exec_hrst (tag : Byte) (p : List Byte) (s : State) (h : s.linkFree) :
    exec (.hrst tag p) s
      = .next (s.replied 0x2D#8 tag (cmdHrst tag p s.blk).2 (cmdHrst tag p s.blk).1) :=
  hostFrame_free 0x2D#8 tag p s h (by decide) (by decide)

theorem exec_hhome (tag : Byte) (p : List Byte) (s : State) (h : s.linkFree) :
    exec (.hhome tag p) s
      = .next (s.replied 0x2E#8 tag (cmdHhome tag p s.blk).2 (cmdHhome tag p s.blk).1) :=
  hostFrame_free 0x2E#8 tag p s h (by decide) (by decide)

theorem exec_bob (tag : Byte) (p : List Byte) (s : State) (h : s.linkFree) :
    exec (.bob tag p) s
      = .next (s.replied 0x2F#8 tag (cmdBob tag p s.blk).2 (cmdBob tag p s.blk).1) :=
  hostFrame_free 0x2F#8 tag p s h (by decide) (by decide)

theorem exec_pset (tag : Byte) (p : List Byte) (s : State) (h : s.linkFree) :
    exec (.pset tag p) s
      = .next (s.replied 0x30#8 tag (cmdPset tag p s.blk).2 (cmdPset tag p s.blk).1) :=
  hostFrame_free 0x30#8 tag p s h (by decide) (by decide)

theorem exec_pclr (tag : Byte) (p : List Byte) (s : State) (h : s.linkFree) :
    exec (.pclr tag p) s
      = .next (s.replied 0x31#8 tag (cmdPclr tag p s.blk).2 (cmdPclr tag p s.blk).1) :=
  hostFrame_free 0x31#8 tag p s h (by decide) (by decide)

theorem exec_pread (tag : Byte) (p : List Byte) (s : State) (h : s.linkFree) :
    exec (.pread tag p) s
      = .next (s.replied 0x32#8 tag (cmdPread tag p s.blk).2 (cmdPread tag p s.blk).1) :=
  hostFrame_free 0x32#8 tag p s h (by decide) (by decide)

theorem exec_mclr (tag : Byte) (p : List Byte) (s : State) (h : s.linkFree) :
    exec (.mclr tag p) s
      = .next (s.replied 0x33#8 tag (cmdMclr tag p s.blk).2 (cmdMclr tag p s.blk).1) :=
  hostFrame_free 0x33#8 tag p s h (by decide) (by decide)

theorem exec_rejoin (tag : Byte) (p : List Byte) (s : State) (h : s.linkFree) :
    exec (.rejoin tag p) s
      = .next (s.replied 0x38#8 tag (cmdRejoin tag p s.blk).2 (cmdRejoin tag p s.blk).1) :=
  hostFrame_free 0x38#8 tag p s h (by decide) (by decide)

theorem exec_rread (tag : Byte) (p : List Byte) (s : State) (h : s.linkFree) :
    exec (.rread tag p) s
      = .next (s.replied 0x39#8 tag (cmdRread tag p s.blk).2 (cmdRread tag p s.blk).1) :=
  hostFrame_free 0x39#8 tag p s h (by decide) (by decide)

theorem exec_rdrop (tag : Byte) (p : List Byte) (s : State) (h : s.linkFree) :
    exec (.rdrop tag p) s
      = .next (s.replied 0x3A#8 tag (cmdRdrop tag p s.blk).2 (cmdRdrop tag p s.blk).1) :=
  hostFrame_free 0x3A#8 tag p s h (by decide) (by decide)

theorem exec_patch (tag : Byte) (p : List Byte) (s : State) (h : s.linkFree) :
    exec (.patch tag p) s
      = .next (s.replied 0x3B#8 tag (cmdPatch tag p s.blk).2 (cmdPatch tag p s.blk).1) :=
  hostFrame_free 0x3B#8 tag p s h (by decide) (by decide)

theorem exec_fread (tag : Byte) (p : List Byte) (s : State) (h : s.linkFree) :
    exec (.fread tag p) s
      = .next (s.replied 0x40#8 tag (cmdFread tag p s.blk).2 (cmdFread tag p s.blk).1) :=
  hostFrame_free 0x40#8 tag p s h (by decide) (by decide)

theorem exec_fdrop (tag : Byte) (p : List Byte) (s : State) (h : s.linkFree) :
    exec (.fdrop tag p) s
      = .next (s.replied 0x41#8 tag (cmdFdrop tag p s.blk).2 (cmdFdrop tag p s.blk).1) :=
  hostFrame_free 0x41#8 tag p s h (by decide) (by decide)

theorem exec_cread (tag : Byte) (p : List Byte) (s : State) (h : s.linkFree) :
    exec (.cread tag p) s
      = .next (s.replied 0x42#8 tag (cmdCread tag p s.blk).2 (cmdCread tag p s.blk).1) :=
  hostFrame_free 0x42#8 tag p s h (by decide) (by decide)

theorem exec_crel (tag : Byte) (p : List Byte) (s : State) (h : s.linkFree) :
    exec (.crel tag p) s
      = .next (s.replied 0x43#8 tag (cmdCrel tag p s.blk).2 (cmdCrel tag p s.blk).1) :=
  hostFrame_free 0x43#8 tag p s h (by decide) (by decide)

/-- STAT at a link that is free. -/
theorem exec_stat (tag : Byte) (p : List Byte) (s : State) (h : s.linkFree) :
    exec (.stat tag p) s = .next (s.takeFrame ⟨0x08#8, tag, p⟩) := by
  show hostFrame _ _ _ _ = _
  rw [hostFrame, arrive_free _ _ h]

/-- RST at a link that is free. -/
theorem exec_rst (tag : Byte) (p : List Byte) (s : State) (h : s.linkFree) :
    exec (.rst tag p) s = .next (s.takeFrame ⟨0x05#8, tag, p⟩) := by
  show hostFrame _ _ _ _ = _
  rw [hostFrame, arrive_free _ _ h]

end Sys2Proof.Machine
end

