-- ==== Sys2Proof/Laws/PerInstr.lean ====
section
/-!
SUPPORT. The family FrameCode: the frame of a well-formed command names that command (12.2), one
lemma for each constructor.
-/

namespace Sys2Proof.Laws.FrameCode

open Sys2Proof

/-- The frame of the command, if it has one, names it. -/
def Statement (i : Instr) : Prop :=
  i.WellFormed = true → ∀ f, frameOf i = some f → commandOf f = i

theorem powerOn (rate : LineRate) : Statement (.powerOn rate) := by
  intro _ f hf; cases hf

theorem ident (tag : Byte) (payload : List Byte) : Statement (.ident tag payload) := by
  intro _ f hf; cases hf; rfl

theorem cfg (tag : Byte) (payload : List Byte) : Statement (.cfg tag payload) := by
  intro _ f hf; cases hf; rfl

theorem setw (tag : Byte) (payload : List Byte) : Statement (.setw tag payload) := by
  intro _ f hf; cases hf; rfl

theorem setr (tag : Byte) (payload : List Byte) : Statement (.setr tag payload) := by
  intro _ f hf; cases hf; rfl

theorem rst (tag : Byte) (payload : List Byte) : Statement (.rst tag payload) := by
  intro _ f hf; cases hf; rfl

theorem stat (tag : Byte) (payload : List Byte) : Statement (.stat tag payload) := by
  intro _ f hf; cases hf; rfl

theorem hstat (tag : Byte) (payload : List Byte) : Statement (.hstat tag payload) := by
  intro _ f hf; cases hf; rfl

theorem mask (tag : Byte) (payload : List Byte) : Statement (.mask tag payload) := by
  intro _ f hf; cases hf; rfl

theorem evclr (tag : Byte) (payload : List Byte) : Statement (.evclr tag payload) := by
  intro _ f hf; cases hf; rfl

theorem dopen (tag : Byte) (payload : List Byte) : Statement (.dopen tag payload) := by
  intro _ f hf; cases hf; rfl

theorem ddata (tag : Byte) (payload : List Byte) : Statement (.ddata tag payload) := by
  intro _ f hf; cases hf; rfl

theorem dunst (tag : Byte) (payload : List Byte) : Statement (.dunst tag payload) := by
  intro _ f hf; cases hf; rfl

theorem dabt (tag : Byte) (payload : List Byte) : Statement (.dabt tag payload) := by
  intro _ f hf; cases hf; rfl

theorem dread (tag : Byte) (payload : List Byte) : Statement (.dread tag payload) := by
  intro _ f hf; cases hf; rfl

theorem hoopdef (tag : Byte) (payload : List Byte) : Statement (.hoopdef tag payload) := by
  intro _ f hf; cases hf; rfl

theorem hoopsel (tag : Byte) (payload : List Byte) : Statement (.hoopsel tag payload) := by
  intro _ f hf; cases hf; rfl

theorem place (tag : Byte) (payload : List Byte) : Statement (.place tag payload) := by
  intro _ f hf; cases hf; rfl

theorem move (tag : Byte) (payload : List Byte) : Statement (.move tag payload) := by
  intro _ f hf; cases hf; rfl

theorem home (tag : Byte) (payload : List Byte) : Statement (.home tag payload) := by
  intro _ f hf; cases hf; rfl

theorem run (tag : Byte) (payload : List Byte) : Statement (.run tag payload) := by
  intro _ f hf; cases hf; rfl

theorem pause (tag : Byte) (payload : List Byte) : Statement (.pause tag payload) := by
  intro _ f hf; cases hf; rfl

theorem speed (tag : Byte) (payload : List Byte) : Statement (.speed tag payload) := by
  intro _ f hf; cases hf; rfl

theorem back (tag : Byte) (payload : List Byte) : Statement (.back tag payload) := by
  intro _ f hf; cases hf; rfl

theorem fwd (tag : Byte) (payload : List Byte) : Statement (.fwd tag payload) := by
  intro _ f hf; cases hf; rfl

theorem close (tag : Byte) (payload : List Byte) : Statement (.close tag payload) := by
  intro _ f hf; cases hf; rfl

theorem hen (tag : Byte) (payload : List Byte) : Statement (.hen tag payload) := by
  intro _ f hf; cases hf; rfl

theorem hdis (tag : Byte) (payload : List Byte) : Statement (.hdis tag payload) := by
  intro _ f hf; cases hf; rfl

theorem hjoin (tag : Byte) (payload : List Byte) : Statement (.hjoin tag payload) := by
  intro _ f hf; cases hf; rfl

theorem hleave (tag : Byte) (payload : List Byte) : Statement (.hleave tag payload) := by
  intro _ f hf; cases hf; rfl

theorem hclr (tag : Byte) (payload : List Byte) : Statement (.hclr tag payload) := by
  intro _ f hf; cases hf; rfl

theorem hrst (tag : Byte) (payload : List Byte) : Statement (.hrst tag payload) := by
  intro _ f hf; cases hf; rfl

theorem hhome (tag : Byte) (payload : List Byte) : Statement (.hhome tag payload) := by
  intro _ f hf; cases hf; rfl

theorem bob (tag : Byte) (payload : List Byte) : Statement (.bob tag payload) := by
  intro _ f hf; cases hf; rfl

theorem pset (tag : Byte) (payload : List Byte) : Statement (.pset tag payload) := by
  intro _ f hf; cases hf; rfl

theorem pclr (tag : Byte) (payload : List Byte) : Statement (.pclr tag payload) := by
  intro _ f hf; cases hf; rfl

theorem pread (tag : Byte) (payload : List Byte) : Statement (.pread tag payload) := by
  intro _ f hf; cases hf; rfl

theorem mclr (tag : Byte) (payload : List Byte) : Statement (.mclr tag payload) := by
  intro _ f hf; cases hf; rfl

theorem rejoin (tag : Byte) (payload : List Byte) : Statement (.rejoin tag payload) := by
  intro _ f hf; cases hf; rfl

theorem rread (tag : Byte) (payload : List Byte) : Statement (.rread tag payload) := by
  intro _ f hf; cases hf; rfl

theorem rdrop (tag : Byte) (payload : List Byte) : Statement (.rdrop tag payload) := by
  intro _ f hf; cases hf; rfl

theorem patch (tag : Byte) (payload : List Byte) : Statement (.patch tag payload) := by
  intro _ f hf; cases hf; rfl

theorem fread (tag : Byte) (payload : List Byte) : Statement (.fread tag payload) := by
  intro _ f hf; cases hf; rfl

theorem fdrop (tag : Byte) (payload : List Byte) : Statement (.fdrop tag payload) := by
  intro _ f hf; cases hf; rfl

theorem cread (tag : Byte) (payload : List Byte) : Statement (.cread tag payload) := by
  intro _ f hf; cases hf; rfl

theorem crel (tag : Byte) (payload : List Byte) : Statement (.crel tag payload) := by
  intro _ f hf; cases hf; rfl

theorem unknownType (type tag : Byte) (payload : List Byte) :
    Statement (.unknownType type tag payload) := by
  intro h f hf
  cases hf
  have hu : typeUnknown type = true := by
    simp only [Instr.WellFormed, Bool.and_eq_true] at h
    exact h.1
  have hk : ∀ n : Nat, n < 256 → BitVec.ofNat 8 n ∈ commandTypes → type.toNat ≠ n := by
    intro n hn hm ht
    have : type = BitVec.ofNat 8 n := by rw [← ht]; simp
    rw [this] at hu
    simp only [typeUnknown, List.contains_iff_mem.mpr hm] at hu
    exact absurd hu (by decide)
  unfold commandOf
  split
  all_goals first
    | rfl
    | (next heq => exact absurd heq (hk _ (by decide) (by decide)))

theorem lrxByte (byte : Byte) (framingError : Bool) : Statement (.lrxByte byte framingError) := by
  intro _ f hf; cases hf

theorem gapTimeout : Statement .gapTimeout := by
  intro _ f hf; cases hf

theorem linkBreak : Statement .linkBreak := by
  intro _ f hf; cases hf

theorem sendStart : Statement .sendStart := by
  intro _ f hf; cases hf

theorem transmitComplete : Statement .transmitComplete := by
  intro _ f hf; cases hf

theorem estopInputChange (asserted : Bool) : Statement (.estopInputChange asserted) := by
  intro _ f hf; cases hf

theorem estopRecognised : Statement .estopRecognised := by
  intro _ f hf; cases hf

theorem estopReleaseRecognised : Statement .estopReleaseRecognised := by
  intro _ f hf; cases hf

theorem encoderCount : Statement .encoderCount := by
  intro _ f hf; cases hf

theorem angleCountOverflow : Statement .angleCountOverflow := by
  intro _ f hf; cases hf

theorem findCountsExhausted : Statement .findCountsExhausted := by
  intro _ f hf; cases hf

theorem stallTimerExpiry : Statement .stallTimerExpiry := by
  intro _ f hf; cases hf

theorem indexPulse (durationNs : Nat) : Statement (.indexPulse durationNs) := by
  intro _ f hf; cases hf

theorem threadFeedPulse (head : HeadId) : Statement (.threadFeedPulse head) := by
  intro _ f hf; cases hf

theorem stopResolution : Statement .stopResolution := by
  intro _ f hf; cases hf

theorem selectorPulse (head : HeadId) : Statement (.selectorPulse head) := by
  intro _ f hf; cases hf

theorem selectorIndex (head : HeadId) (asserted : Bool) : Statement (.selectorIndex head asserted) := by
  intro _ f hf; cases hf

theorem selectorTimeout (head : HeadId) : Statement (.selectorTimeout head) := by
  intro _ f hf; cases hf

theorem homeSwitch (axis : Axis) (asserted : Bool) : Statement (.homeSwitch axis asserted) := by
  intro _ f hf; cases hf

theorem homingDistanceExhausted (axis : Axis) : Statement (.homingDistanceExhausted axis) := by
  intro _ f hf; cases hf

theorem driveFaultAssert (axis : Axis) : Statement (.driveFaultAssert axis) := by
  intro _ f hf; cases hf

theorem driveFaultRelease (axis : Axis) : Statement (.driveFaultRelease axis) := by
  intro _ f hf; cases hf

theorem frameMoveComplete : Statement .frameMoveComplete := by
  intro _ f hf; cases hf

theorem frameMoveStopped : Statement .frameMoveStopped := by
  intro _ f hf; cases hf

theorem patchStopResolution : Statement .patchStopResolution := by
  intro _ f hf; cases hf

theorem lrxReturnedHigh : Statement .lrxReturnedHigh := by
  intro _ f hf; cases hf

theorem axisLastStepIssued (axis : Axis) : Statement (.axisLastStepIssued axis) := by
  intro _ f hf; cases hf

end Sys2Proof.Laws.FrameCode
end

