-- ==== Sys2Proof/Laws/Store.lean ====
section
/-!
SUPPORT. The moves of the Design Store keep its law (R1, R5, R22, R23).
-/

namespace Sys2Proof.Machine

theorem Ds.lawful_empty : Ds.empty.lawful := by
  refine ⟨le_refl _, Nat.zero_le _, Nat.zero_le _, fun _ => ⟨rfl, rfl, rfl⟩⟩

theorem Ds.lawful_openDesign (n : Nat) : (Ds.openDesign n).lawful := by
  refine ⟨le_refl _, Nat.zero_le _, Nat.zero_le _, fun h => ?_⟩
  simp [Ds.openDesign] at h

theorem Ds.lawful_advance (d : Ds) (h : d.lawful) : d.advance.lawful := by
  unfold Ds.advance
  split_ifs with hs
  · obtain ⟨h1, h2, h3, h4⟩ := h
    refine ⟨?_, ?_, h3, ?_⟩
    · simp only
      omega
    · simp only [Ds.load] at hs ⊢
      omega
    · intro hc
      have := h4 hc
      simp_all [Ds.load]
  · exact h

theorem Ds.lawful_stepBack (d : Ds) (h : d.lawful) : d.stepBack.lawful := by
  unfold Ds.stepBack
  split_ifs with hs
  · obtain ⟨h1, h2, h3, h4⟩ := h
    refine ⟨?_, ?_, h3, ?_⟩
    · simp only
      omega
    · simp only [Ds.load] at h2 ⊢
      omega
    · intro hc
      have := h4 hc
      omega
  · exact h

theorem Ds.lawful_releaseOne (d : Ds) (h : d.lawful) (hs : d.tail < d.sew) :
    d.releaseOne.lawful := by
  obtain ⟨h1, h2, h3, h4⟩ := h
  unfold Ds.releaseOne
  split
  · exact ⟨h1, h2, h3, h4⟩
  · rename_i r rest hr
    simp only [Ds.load, hr, List.length_cons] at h2
    simp only [hr, List.length_cons] at h3
    refine ⟨?_, ?_, ?_, ?_⟩
    · simp only
      omega
    · simp only [Ds.load]
      omega
    · simp only
      omega
    · intro hc
      have := h4 hc
      omega

theorem Ds.lawful_releaseLoop (h : Nat) (e : Option Nat) (mark : Nat) (n : Nat) (d : Ds)
    (crossed : Bool) (hd : d.lawful) : (Ds.releaseLoop h e mark n d crossed).1.lawful := by
  induction n generalizing d crossed with
  | zero => exact hd
  | succ n ih =>
    unfold Ds.releaseLoop
    split_ifs with hm
    · apply ih
      apply Ds.lawful_releaseOne d hd
      simp only [Ds.mayRelease, Ds.history, Bool.and_eq_true] at hm
      have hlt := of_decide_eq_true hm.1
      omega
    · exact hd

theorem Ds.lawful_release (h : Nat) (e : Option Nat) (mark : Nat) (d : Ds) (hd : d.lawful) :
    (d.release h e mark).1.lawful :=
  Ds.lawful_releaseLoop h e mark _ d false hd

theorem Ds.lawful_take (d : Ds) (r : StoredRecord) (hd : d.lawful)
    (hroom : d.records.length < Config.storeCapacity) (hopen : d.channel ≠ .closed) :
    (d.take r).lawful := by
  obtain ⟨h1, h2, h3, -⟩ := hd
  refine ⟨h1, ?_, ?_, ?_⟩
  · simp only [Ds.load, Ds.take, List.length_append, List.length_singleton] at h2 ⊢
    omega
  · simp only [Ds.take, List.length_append, List.length_singleton]
    omega
  · intro hc
    simp only [Ds.take] at hc
    split_ifs at hc
    exact absurd hc hopen

theorem Blocks.releaseTest_lawful (b : Blocks) (h : b.ds.lawful) : b.releaseTest.ds.lawful := by
  have hl := Ds.lawful_release b.cf.settings.retention b.e b.cf.settings.loadMark b.ds h
  unfold Blocks.releaseTest
  simp only
  split_ifs <;> exact hl

theorem Blocks.advance_lawful (b : Blocks) (h : b.ds.lawful) : b.advance.ds.lawful := by
  unfold Blocks.advance
  split_ifs
  · exact Blocks.releaseTest_lawful { b with ds := b.ds.advance } (Ds.lawful_advance _ h)
  · exact h

theorem Blocks.setRanges_lawful (b : Blocks) (rt : Eight (List Range)) (h : b.ds.lawful) :
    (b.setRanges rt).ds.lawful := by
  unfold Blocks.setRanges
  simp only
  split_ifs
  · exact Blocks.releaseTest_lawful { b with rt := rt } h
  · exact h

end Sys2Proof.Machine
end

