-- ==== Sys2Proof/Tests/Slice0.lean ====
section
/-!
SUPPORT. The model's own tests: ill-formed terms that the check refuses, words written out from the
tables of 12.2, a few single steps on small states, and for every statement with hypotheses a state and
operands that meet them.
-/

open Sys2Proof Sys2Proof.Machine Sys2Proof.Claims

namespace Sys2Proof.Tests

set_option Elab.async false

/-! ## Small states -/

/-- An axis with its travel from -100 to 1,000 units. -/
def axisCfg : AxisConfig := ⟨4, 10, -100, 1000, 0⟩

/-- Two heads of three needles. -/
def config2 : MachineConfig := ⟨2, 3, axisCfg, axisCfg, 200, 300⟩

/-- An axis READY at a coordinate. -/
def readyAt (p : Int) : AxisRec := ⟨.ready, some p, none, 0⟩

/-- An axis MOVING from 0 to a target. -/
def movingTo (q : Int) : AxisRec := ⟨.moving, some 0, some q, 0⟩

/-- A head SEWING with needle 1 under its bar. -/
def seat : Head := { Head.fresh with selector := .atNeedle 1 }

/-- COLOR 1, two STITCH records of 0.5 mm, and the position after them; more may follow. -/
def design : Ds :=
  ⟨0, 0, [⟨.color, 0, 0, 1, ⟨0, 0⟩, some 1⟩, ⟨.stitch, 5, 0, 0, ⟨5, 0⟩, some 1⟩,
    ⟨.stitch, 5, 0, 0, ⟨10, 0⟩, some 1⟩], ⟨0, 0⟩, none, ⟨10, 0⟩, some 1, some ⟨0, 10, 0, 0⟩, 0,
    .opened⟩

/-- A configured part at rest in a run state, homed, with a hoop and a plan for slots 1 and 2. -/
def blocks (rs : RunState) : Blocks :=
  { Blocks.reset with
    cf := ⟨true, config2, Settings.default 2⟩
    hu := Eight.tabulate (fun h => if h.num ≤ 2 then seat else Head.absent)
    fc := { Fc.reset with
      hoops := (Eight.const none).set .n1 (some ⟨-100, 1000, -100, 1000⟩)
      active := some .n1, x := readyAt 0, y := readyAt 0 }
    sc := { Sc.reset with state := .stopped, angle := some 0 }
    rc := Rc.reset rs
    tp := [⟨1, [1, 1]⟩, ⟨2, [2, 2]⟩] }

/-- The part with some blocks, at a free link. -/
def part (b : Blocks) : State := ⟨Pl.reset .baud115200, b, []⟩

/-- The link in a receiver state. -/
def receiving (r : Receiver) : State := { State.reset with pl.rx := r }

/-- A queued reply. -/
def someReply : Outbound := ⟨⟨0x81#8, 7#8, [0#8]⟩, .reply⟩

/-- The part with an operation in flight. -/
def working (rs : RunState) (w : Work) : Blocks :=
  { blocks rs with rc.op := some ⟨7#8, .paused (some .host), w⟩ }

/-- The part with the shaft turning through a cycle of record 1. -/
def sewing (k : RecordKind) (angle : Nat) : Blocks :=
  { blocks .running with
    ds := { design with sew := 1 }
    sc := { Sc.reset with
      state := .turning, angle := some angle, plan := some .run, cycle := some ⟨1, k, false, false⟩
      demanded := 200, previous := 200, stallTimer := some 300 } }

/-- A change of head 1 whose selector comes to needle 1, with one pulse to come. -/
def changing (rs : RunState) (k : ChangeKind) (sew : Nat) : Blocks :=
  { blocks rs with
    hu := (blocks rs).hu.set .n1 { seat with selector := .moving 1 2 1, selTimer := some 800 }
    ds := { design with sew := sew }
    rc := { Rc.reset rs with
      change := some ⟨1, k, (Eight.const false).set .n1 true, false, false⟩ } }

/-- The result code of the reply to a command, where the part answers one. -/
def codeOf (o : Host.Outcome State Fault Refusal) : Option Byte :=
  match o with
  | .next s => (s.pl.replies.getLast?).bind (fun r => r.frame.payload.head?)
  | _ => none

/-- The run state a step leads to. -/
def runStateOf (o : Host.Outcome State Fault Refusal) : Option RunState :=
  match o with
  | .next s => some s.blk.rc.runState
  | _ => none

/-! ## WellFormed -/

theorem test_wf_payload_fits : (Instr.ident 0#8 (List.replicate 248 0#8)).WellFormed = true := by
  decide +kernel

theorem test_wf_payload_too_long :
    (Instr.ident 0#8 (List.replicate 249 0#8)).WellFormed = false := by
  decide +kernel

theorem test_wf_type_has_an_owner : (Instr.unknownType 0x21#8 0#8 []).WellFormed = false := by
  decide

theorem test_wf_type_has_none : (Instr.unknownType 0x88#8 0#8 []).WellFormed = true := by
  decide

theorem test_wf_unknown_too_long :
    (Instr.unknownType 0x88#8 0#8 (List.replicate 249 0#8)).WellFormed = false := by
  decide +kernel

theorem test_wf_cycle_takes_no_time : (Instr.indexPulse 0).WellFormed = false := by
  decide

theorem test_wf_cycle_takes_time : (Instr.indexPulse 1).WellFormed = true := by
  decide

/-! ## Words of 12.2 -/

theorem test_crc_of_nothing : crc16 [] = 0xFFFF#16 := by decide

theorem test_crc_of_check_string :
    crc16 [0x31#8, 0x32#8, 0x33#8, 0x34#8, 0x35#8, 0x36#8, 0x37#8, 0x38#8, 0x39#8] = 0x29B1#16 := by
  decide +kernel

theorem test_types_name_commands :
    commandOf ⟨0x02#8, 1#8, []⟩ = .cfg 1#8 [] ∧ commandOf ⟨0x05#8, 1#8, []⟩ = .rst 1#8 []
      ∧ commandOf ⟨0x14#8, 1#8, []⟩ = .dread 1#8 [] ∧ commandOf ⟨0x1A#8, 1#8, []⟩ = .place 1#8 []
      ∧ commandOf ⟨0x26#8, 1#8, []⟩ = .close 1#8 [] ∧ commandOf ⟨0x2F#8, 1#8, []⟩ = .bob 1#8 []
      ∧ commandOf ⟨0x30#8, 1#8, []⟩ = .pset 1#8 [] ∧ commandOf ⟨0x3A#8, 1#8, []⟩ = .rdrop 1#8 []
      ∧ commandOf ⟨0x40#8, 1#8, []⟩ = .fread 1#8 [] := by
  decide

theorem test_no_row_has_bits : decodeTableWord 16 0x21 = none := by decide

/-! ## Single steps -/

theorem test_empty_queue_idles : step State.reset = .next State.reset := rfl

theorem test_ident_reply : codeOf (exec (.ident 7#8 []) State.reset) = some 0x00#8 := by
  decide +kernel

theorem test_ident_length : codeOf (exec (.ident 7#8 [0#8]) State.reset) = some 0x02#8 := by
  decide +kernel

theorem test_run_unconfigured : codeOf (exec (.run 7#8 []) State.reset) = some 0x05#8 := by
  decide +kernel

theorem test_cfg_configures :
    runStateOf (exec (.cfg 7#8 (configBytes config2)) State.reset) = some .idle := by
  decide +kernel

theorem test_cfg_value :
    codeOf (exec (.cfg 7#8 (configBytes { config2 with headCount := 9 })) State.reset)
      = some 0x03#8 := by
  decide +kernel

theorem test_cfg_locked : codeOf (exec (.cfg 7#8 []) (part (blocks .idle))) = some 0x06#8 := by
  decide +kernel

theorem test_setw_takes_the_defaults :
    codeOf (exec (.setw 7#8 (Settings.default 2).bytes) (part (blocks .idle))) = some 0x00#8 := by
  decide +kernel

theorem test_setw_wants_a_step_of_50 :
    codeOf (exec (.setw 7#8 { Settings.default 2 with hostSpeed := 601 }.bytes)
      (part (blocks .idle))) = some 0x03#8 := by
  decide +kernel

theorem test_dopen_wants_a_hoop :
    codeOf (exec (.dopen 7#8 (enc32 0)) (part { blocks .idle with fc.active := none }))
      = some 0x0A#8 := by
  decide +kernel

theorem test_ddata_takes_the_first_record :
    codeOf (exec (.ddata 7#8 (enc24 0 ++ [1#8, 4#8, 1#8, 0#8]))
      (part { blocks .idle with ds := Ds.openDesign 0 })) = some 0x00#8 := by
  decide +kernel

theorem test_ddata_first_record_is_a_color :
    codeOf (exec (.ddata 7#8 (enc24 0 ++ [1#8, 1#8, 1#8, 0#8]))
      (part { blocks .idle with ds := Ds.openDesign 0 })) = some 0x10#8 := by
  decide +kernel

theorem test_ddata_field :
    codeOf (exec (.ddata 7#8 (enc24 3 ++ [1#8, 2#8, 0#8, 127#8]))
      (part { blocks .idle with
        ds := design, fc.hoops := (Eight.const none).set .n1 (some ⟨-10, 20, -10, 20⟩) }))
      = some 0x11#8 := by
  decide +kernel

theorem test_run_starts_with_the_color_change :
    runStateOf (exec (.run 7#8 []) (part { blocks .idle with ds := design })) = some .running := by
  decide +kernel

theorem test_run_travels_first :
    runStateOf (exec (.run 7#8 [])
      (part { blocks .idle with ds := design, fc.x := readyAt 3 })) = some .travel := by
  decide +kernel

theorem test_run_changes_needles :
    runStateOf (exec (.run 7#8 [])
      (part { blocks .idle with ds := design, tp := [⟨1, [2, 1]⟩] })) = some .changing := by
  decide +kernel

theorem test_run_without_a_plan :
    runStateOf (exec (.run 7#8 []) (part { blocks .idle with ds := design, tp := [] }))
      = some .paused := by
  decide +kernel

theorem test_home_finds_the_shaft :
    runStateOf (exec (.home 7#8 []) (part { blocks .idle with sc := Sc.reset })) = some .homing := by
  decide +kernel

theorem test_move_out_of_travel :
    codeOf (exec (.move 7#8 (encPos16 ⟨1001, 0⟩)) (part (blocks .idle))) = some 0x03#8 := by
  decide +kernel

theorem test_back_carries_the_largest :
    (match exec (.back 7#8 (enc16 9)) (part { blocks .paused with ds := { design with sew := 2 } }) with
      | .next s => s.pl.replies.map (·.frame.payload)
      | _ => []) = [[0x03#8, 2#8, 0#8]] := by
  decide +kernel

theorem test_no_head_three :
    codeOf (exec (.hjoin 7#8 [3#8]) (part (blocks .idle))) = some 0x08#8 := by
  decide +kernel

theorem test_close_keeps_ranges :
    codeOf (exec (.close 7#8 [0#8])
      (part { blocks .paused with rt := (Eight.const []).set .n1 [⟨0, some 1⟩] })) = some 0x1A#8 := by
  decide +kernel

theorem test_unknown_type :
    codeOf (exec (.unknownType 0x0C#8 7#8 []) State.reset) = some 0x01#8 := by
  decide +kernel

theorem test_overflow_halts :
    runStateOf (exec .angleCountOverflow (part (sewing .stitch 1023))) = some .halted := by
  decide +kernel

theorem test_feed_pulse_counts :
    (match exec (.threadFeedPulse .n2) (part { blocks .running with
        tm := Eight.const { Monitor.fresh with window := some ⟨65535, .short⟩ } }) with
      | .next s => (s.blk.tm.get .n2).window
      | _ => none) = some ⟨65535, .short⟩ := by
  decide +kernel

theorem test_judge_breaks_at_the_count :
    (({ Monitor.fresh with low := 3, breakStart := some 9 } : Monitor).judge (Settings.default 2) 12
      ⟨1, .short⟩).threadBreak = some 9 := by
  decide +kernel

theorem test_plan_of_a_window :
    (blocks .idle).planK .run 0 = 0
      ∧ ({ blocks .idle with ds := design } : Blocks).planK .run 1 = 2 := by
  decide +kernel

theorem test_the_next_cycle_of_a_run :
    (({ sewing .stitch 400 with sc.previous := 0 } : Blocks).decideNext .run ⟨1, .stitch, true, false⟩).sc.demanded
      = 200 := by
  decide +kernel

/-! ## Hypotheses of the statements, met -/

theorem test_hyp_StepTakesTheFrontCommand :
    ({ State.reset with pending := [.gapTimeout] } : State).pending = .gapTimeout :: [] := rfl

theorem test_hyp_EmptyQueueOnlyMovesAxes :
    (part (blocks .idle)).pending = [] ∧ (blocks .idle).fc.x.steps = false
      ∧ (blocks .idle).fc.y.steps = false ∧ (movingTo 1).state = .moving
      ∧ (movingTo 1).pos = some 0 ∧ (movingTo 1).target = some 1 ∧ (0 : Int) ≠ 1
      ∧ (movingTo 1).state ≠ .homing ∧ AxisRec.seeking.state ≠ .moving
      ∧ (let f : Fc := { (blocks .moving).fc with x := movingTo 1, move := some ⟨.manual, false⟩ }
         (f.axis .x).steps = true ∧ (f.axis .y).steps = false
           ∧ ({ f with move := some ⟨.manual, true⟩ } : Fc).stopAsked = true) := by
  decide

theorem test_hyp_EveryStepKeepsTheLinkLaw :
    State.reset.pl.lawful ∧ step State.reset = .next State.reset :=
  ⟨⟨by decide, by decide, by decide, by decide, by decide, by decide⟩, rfl⟩

theorem test_hyp_EveryStepKeepsTheStoreLaw :
    State.reset.blk.ds.lawful ∧ step State.reset = .next State.reset :=
  ⟨⟨by decide, by decide, by decide, by decide⟩, rfl⟩

theorem test_hyp_EveryStepKeepsTheLogReportAndFilterLaws :
    State.reset.blk.fl.lawful ∧ State.reset.blk.ru.lawful ∧ State.reset.blk.filtersLawful
      ∧ step State.reset = .next State.reset :=
  ⟨⟨by decide, by decide⟩, ⟨by decide, by decide⟩, ⟨by decide, by decide⟩, rfl⟩

theorem test_hyp_BytesOfACommandDoItsRow :
    (Instr.ident 7#8 []).WellFormed = true
      ∧ frameOf (.ident 7#8 (List.replicate 248 0#8)) = some ⟨0x01#8, 7#8, List.replicate 248 0#8⟩
      ∧ State.reset.pl.rx = .hunt ∧ State.reset.pl.lineLow = false := by
  decide +kernel

theorem test_hyp_FramesNameTheirCommands :
    (Instr.crel 7#8 []).WellFormed = true ∧ frameOf (.crel 7#8 []) = some ⟨0x43#8, 7#8, []⟩ := by
  decide

theorem test_hyp_ReceiverTakesBytesByItsState :
    State.reset.pl.lineLow = false ∧ State.reset.pl.rx = .hunt
      ∧ (receiving (.header [])).pl.rx = .header [] ∧ (248#8 : Byte).toNat ≤ 248
      ∧ (receiving (.header [0#8])).pl.rx = .header [0#8]
      ∧ (receiving (.header [0#8, 1#8])).pl.rx = .header [0#8, 1#8]
      ∧ (receiving (.header [248#8, 1#8])).pl.rx = .header [248#8, 1#8] ∧ (248#8 : Byte) ≠ 0#8
      ∧ (receiving (.payload 2#8 1#8 7#8 [])).pl.rx = .payload 2#8 1#8 7#8 []
      ∧ ([] : List Byte).length + 1 < (2#8 : Byte).toNat
      ∧ (receiving (.payload 1#8 1#8 7#8 [])).pl.rx = .payload 1#8 1#8 7#8 []
      ∧ ([] : List Byte).length + 1 = (1#8 : Byte).toNat
      ∧ (receiving (.crc 0#8 1#8 7#8 [] none)).pl.rx = .crc 0#8 1#8 7#8 [] none := by
  decide

theorem test_hyp_ReceiveErrorsAreFlaggedAndQueued :
    State.reset.pl.lineLow = false ∧ (receiving (.header [])).pl.rx = .header []
      ∧ 248 < (249#8 : Byte).toNat ∧ (receiving (.header [0#8])).pl.rx = .header [0#8]
      ∧ (receiving (.payload 1#8 1#8 7#8 [])).pl.rx = .payload 1#8 1#8 7#8 []
      ∧ (receiving (.crc 0#8 1#8 7#8 [] none)).pl.rx = .crc 0#8 1#8 7#8 [] none
      ∧ (receiving (.crc 0#8 1#8 7#8 [] (some 0#8))).pl.rx = .crc 0#8 1#8 7#8 [] (some 0#8)
      ∧ crc16 [0#8, 1#8, 7#8] ≠ 0#8 ++ 0#8 ∧ State.reset.pl.rx = .hunt := by
  decide +kernel

theorem test_hyp_FramesAreHeldOrOverrun :
    frameOf (.run 7#8 []) = some ⟨0x21#8, 7#8, []⟩ ∧ State.reset.pl.makingReady = false
      ∧ (let s : State := { State.reset with
          pl.replies := List.replicate 4 someReply, pl.slots := List.replicate 3 ⟨1#8, 7#8, []⟩ }
         s.pl.slots.length = 3 ∧ s.pl.replies.length = 4)
      ∧ (({ State.reset with pl.replies := List.replicate 4 someReply } : State).pl.slots.length < 4
        ∧ ({ State.reset with pl.replies := List.replicate 4 someReply } : State).pl.replies.length = 4)
      ∧ ({ State.reset with pl.rstTaken := true } : State).pl.rstTaken = true
      ∧ ({ State.reset with pl.slots := List.replicate 4 ⟨1#8, 7#8, []⟩ } : State).pl.slots.length
        = 4 := by
  decide

theorem test_hyp_RefusedCommandsChangeNothing :
    frameOf (.run 7#8 []) = some ⟨0x21#8, 7#8, []⟩ ∧ (0x21#8 : Byte) ≠ 0x11#8
      ∧ State.reset.linkFree
      ∧ (answer State.reset.pl.errs ⟨0x21#8, 7#8, []⟩ State.reset.blk).2.head? ≠ some 0x00#8 := by
  decide +kernel

theorem test_hyp_UnconfiguredAndUnknownAreAnswered :
    frameOf (.run 7#8 []) = some ⟨0x21#8, 7#8, []⟩ ∧ (0x21#8 : Byte) ∈ commandTypes
      ∧ (0x21#8 : Byte) ∉ ([0x01#8, 0x08#8, 0x14#8, 0x02#8, 0x40#8, 0x42#8, 0x0A#8, 0x05#8] : List Byte)
      ∧ State.reset.linkFree ∧ State.reset.blk.cf.lock = false ∧ typeUnknown 0x0C#8 = true := by
  decide

theorem test_hyp_TransmitterSendsRepliesFirst :
    (State.reset.pl.tx = none ∧ State.reset.pl.replies = [] ∧ State.reset.pl.slots = []
      ∧ ReportKind.state ≠ .head
      ∧ firstPending (State.reset.blk.ru.pendingSet State.reset.blk.offHeads) = some .state)
    ∧ ({ State.reset with pl.replies := [someReply] } : State).pl.replies = [someReply]
    ∧ firstPending (({ State.reset with blk.ru.pend := 0#6 } : State).blk.ru.pendingSet
        State.reset.blk.offHeads) = none
    ∧ (let s := part { blocks .idle with
        ru := { Ru.reset with pend := 0#6, heads := Eight.const ⟨1#4, 0#4⟩ } }
       s.pl.tx = none ∧ s.pl.replies = []
         ∧ firstPending (s.blk.ru.pendingSet s.blk.offHeads) = some .head)
    ∧ (let s : State := { State.reset with
        pl.replies := List.replicate 4 someReply, pl.slots := [⟨0x08#8, 7#8, []⟩] }
       s.pl.tx = none ∧ s.pl.replies = someReply :: List.replicate 3 someReply
         ∧ (List.replicate 3 someReply).length < 4 ∧ s.pl.rstTaken = false
         ∧ s.pl.slots = [⟨0x08#8, 7#8, []⟩] ∧ s.pl.makingReady = false) := by
  decide +kernel

theorem test_hyp_TheLastByteOfAFrame :
    State.reset.linkFree
      ∧ ({ State.reset with pl.tx := some someReply } : State).pl.tx = some ⟨someReply.frame, .reply⟩
      ∧ ({ State.reset with pl.tx := some ⟨someReply.frame, .linkError⟩ } : State).pl.tx
        = some ⟨someReply.frame, .linkError⟩
      ∧ (ReportKind.load ≠ .head
        ∧ ({ State.reset with pl.tx := some ⟨someReply.frame, .report .load⟩ } : State).pl.tx
          = some ⟨someReply.frame, .report .load⟩)
      ∧ ({ State.reset with pl.tx := some ⟨someReply.frame, .report .head⟩ } : State).pl.tx
        = some ⟨someReply.frame, .report .head⟩
      ∧ (let s : State := { State.reset with pl.tx := some ⟨someReply.frame, .rstReply⟩ }
         s.pl.tx = some ⟨someReply.frame, .rstReply⟩ ∧ s.blk.fl.waiting = []
           ∧ drivesQuiet s.blk ∧ drivesQuiet (blocks .idle) ∧ (blocks .idle).cf.lock = true
           ∧ ({ Pins.released with driveFaultX := true } : Pins).driveFaultX = true
           ∧ ({ Pins.released with driveFaultY := true } : Pins).driveFaultY = true) := by
  unfold drivesQuiet
  decide

theorem test_hyp_ABreakMakesALinkReset :
    State.reset.pl.rstTaken = false ∧ State.reset.pl.makingReady = false ∧ ReportKind.load ≠ .head
      ∧ ({ State.reset with pl.tx := some ⟨someReply.frame, .report .load⟩ } : State).pl.tx
        = some ⟨someReply.frame, .report .load⟩
      ∧ ({ State.reset with pl.tx := some ⟨someReply.frame, .report .head⟩ } : State).pl.tx
        = some ⟨someReply.frame, .report .head⟩
      ∧ (∀ f k, State.reset.pl.tx ≠ some ⟨f, .report k⟩)
      ∧ ({ State.reset with pl.rstTaken := true } : State).pl.rstTaken = true
      ∧ State.reset.blk.fl.waiting = [] ∧ drivesQuiet State.reset.blk
      ∧ ({ State.reset with pl.lineLow := true } : State).pl.lineLow = true :=
  ⟨rfl, rfl, by decide, rfl, rfl, fun f k h => (by cases h), rfl, rfl, Or.inl rfl, rfl⟩

theorem test_hyp_ReadsAndMasks : State.reset.linkFree ∧ (part (blocks .idle)).linkFree := by
  decide

theorem test_hyp_CfgConfiguresOnce :
    State.reset.linkFree ∧ State.reset.blk.cf.lock = false ∧ configInRange config2
      ∧ axisWide config2.x ∧ axisWide config2.y ∧ State.reset.blk.fl.waiting = []
      ∧ State.reset.blk.pins.driveFaultX = false ∧ State.reset.blk.pins.driveFaultY = false
      ∧ ({ State.reset with blk.pins.driveFaultX := true } : State).blk.pins.driveFaultX = true
      ∧ ({ State.reset with blk.pins.driveFaultY := true } : State).blk.pins.driveFaultY = true
      ∧ (part (blocks .idle)).linkFree ∧ (part (blocks .idle)).blk.cf.lock = true := by
  unfold configInRange axisInRange axisWide
  decide

theorem test_hyp_SettingsAreReplacedAndShown :
    (part (blocks .idle)).linkFree ∧ (blocks .idle).cf.lock = true
      ∧ runIsOf (blocks .halted) [.idle, .paused, .held, .ended, .halted]
      ∧ settingsInRange (blocks .idle) (Settings.default 2) ∧ ¬ runIsOf (blocks .idle) [.held]
      ∧ 65535 < 65536 := by
  unfold settingsInRange speedIn timeIn
  decide +kernel

/-- A held run that a settings record lets go on, and one that it does not. -/
theorem test_hyp_SettingsOfAHeldRun :
    let held : Blocks := { blocks .held with ds := { design with sew := 1 } }
    let eager : Settings := { Settings.default 2 with resumeMark := 1 }
    held.rc.runState = .held ∧ settingsInRange held eager
      ∧ settingsInRange held (Settings.default 2)
      ∧ (eager.resumeMark ≤ held.ds.load - held.ds.sew ∧ held.rc.resume = none
        ∧ mayStart ({ held with cf.settings := eager } : Blocks).releaseTest)
      ∧ (held.ds.load - held.ds.sew < (Settings.default 2).resumeMark
        ∧ held.ds.channel ≠ .finished) := by
  refine ⟨rfl, ?_, ?_, ?_, by decide⟩
  · unfold settingsInRange speedIn timeIn
    decide +kernel
  · unfold settingsInRange speedIn timeIn
    decide +kernel
  · unfold mayStart
    decide +kernel

theorem test_hyp_DopenAndDabtEmptyTheStore :
    (part (blocks .idle)).linkFree ∧ 4294967295 < 4294967296 := by
  decide

theorem test_hyp_FramesThatTakeNoRecord :
    let s := part { blocks .idle with ds := design }
    s.linkFree ∧ s.blk.cf.lock = true ∧ s.blk.ds.channel = .opened
      ∧ (0 < 16777216 ∧ 3 ≤ 80 ∧ (List.replicate 9 0#8 : List Byte).length = 3 * 3
        ∧ 0 + 3 ≤ s.blk.ds.load)
      ∧ (16777215 < 16777216 ∧ (List.replicate 240 0#8 : List Byte).length = 3 * 80
        ∧ s.blk.ds.load < 16777215) ∧ s.blk.ds.load < 4
      ∧ ({ design with channel := .finished } : Ds).channel = .finished
      ∧ (blocks .idle).ds.channel = .closed
      ∧ ({ design with channel := .stalled } : Ds).channel = .stalled
      ∧ (State.reset.linkFree ∧ State.reset.blk.cf.lock = false)
      ∧ [0#8, 0#8, 0#8].length < 4
      ∧ (4 ≤ [0#8, 0#8, 0#8, 0#8].length ∧ ([0#8, 0#8, 0#8, 0#8].getD 3 0#8).toNat < 1)
      ∧ (4 ≤ [0#8, 0#8, 0#8, 81#8].length ∧ 80 < ([0#8, 0#8, 0#8, 81#8].getD 3 0#8).toNat)
      ∧ (1 ≤ ([0#8, 0#8, 0#8, 80#8].getD 3 0#8).toNat
        ∧ ([0#8, 0#8, 0#8, 80#8].getD 3 0#8).toNat ≤ 80
        ∧ [0#8, 0#8, 0#8, 80#8].length ≠ 4 + 3 * 80) := by
  decide +kernel

theorem test_hyp_AFullStore (r : StoredRecord) :
    let d : Ds := { design with records := List.replicate 16384 r }
    d.channel = .opened ∧ 16384 ≤ d.load ∧ d.load < 16384 + 1 ∧ d.free = 0 := by
  have h : (List.replicate 16384 r).length = 16384 := List.length_replicate
  refine ⟨rfl, ?_, ?_, ?_⟩
  · show 16384 ≤ 0 + (List.replicate 16384 r).length
    rw [h]
  · show 0 + (List.replicate 16384 r).length < 16384 + 1
    rw [h]
    decide
  · show 16384 - (List.replicate 16384 r).length = 0
    rw [h]

theorem test_hyp_AStitchIsTaken :
    let s := part { blocks .idle with ds := design }
    s.linkFree ∧ s.blk.cf.lock = true ∧ s.blk.ds.channel = .opened ∧ ¬ runIsOf s.blk [.held]
      ∧ 1 ≤ s.blk.ds.load ∧ s.blk.ds.load < 16777215 ∧ s.blk.ds.records.length < 16384
      ∧ s.blk.ds.declared = 0 ∧ -121 ≤ (0x87#8 : Byte).toInt ∧ (0x79#8 : Byte).toInt ≤ 121
      ∧ s.blk.activeField = some ⟨-100, 1000, -100, 1000⟩
      ∧ -100 ≤ s.blk.fc.origin.x + (s.blk.ds.loadPos.x + (0x79#8 : Byte).toInt)
      ∧ s.blk.fc.origin.x + (s.blk.ds.loadPos.x + (0x79#8 : Byte).toInt) ≤ 1000
      ∧ -100 ≤ s.blk.fc.origin.y + (s.blk.ds.loadPos.y + (0x79#8 : Byte).toInt)
      ∧ s.blk.fc.origin.y + (s.blk.ds.loadPos.y + (0x79#8 : Byte).toInt) ≤ 1000 := by
  decide +kernel

/-- A record of each kind passes its checks, and a held run may then go on. -/
theorem test_hyp_ARecordOfEachKindIsTaken :
    let b : Blocks := { blocks .idle with ds := design }
    let held : Blocks := { blocks .held with ds := { design with sew := 1 } }
    (formed 0 4#8 32#8 0#8 .color 0 0 32 ∧ formed 1 1#8 0x87#8 0x79#8 .stitch (-121) 121 0
      ∧ formed 1 2#8 0x81#8 0x7F#8 .jump (-127) 127 0 ∧ formed 1 3#8 0#8 0#8 .trim 0 0 0
      ∧ formed 1 5#8 0#8 0#8 .mark 0 0 0 ∧ formed 1 6#8 0#8 0#8 .endDesign 0 0 0)
      ∧ (counted b.ds .stitch ∧ counted b.ds .endDesign
        ∧ counted { design with declared := 4 } .endDesign
        ∧ counted { design with declared := 5 } .trim)
      ∧ inField b (posAfter b.ds 121 121)
      ∧ (held.rc.runState = .held ∧ held.rc.resume = none
        ∧ mayStart { held with ds := withRecord held.ds .endDesign 0 0 0 }
        ∧ mayStart { held with ds := withRecord held.ds .stitch 121 121 0 })
      ∧ ¬ held.cf.settings.resumeMark ≤ held.ds.load + 1 - held.ds.sew
      ∧ ({ held with cf.settings := { Settings.default 2 with resumeMark := 3 } } :
          Blocks).cf.settings.resumeMark ≤ held.ds.load + 1 - held.ds.sew := by
  refine ⟨?_, ?_, ⟨⟨-100, 1000, -100, 1000⟩, ?_⟩, ?_⟩
  · refine ⟨?_, ?_, ?_, ?_, ?_, ?_⟩ <;> unfold formed <;> decide
  · unfold counted
    decide
  · decide +kernel
  · unfold mayStart
    decide +kernel

theorem test_hyp_AFailedCheckStallsUntilDunst :
    let b : Blocks := { blocks .idle with ds := design }
    ((part b).linkFree ∧ b.cf.lock = true ∧ b.ds.channel = .opened ∧ b.ds.load < 16777216
      ∧ b.ds.records.length < 16384)
      ∧ (∀ kind dx dy slot, ¬ formed b.ds.load 7#8 0#8 0#8 kind dx dy slot)
      ∧ (∀ kind dx dy slot, ¬ formed b.ds.load 1#8 122#8 0#8 kind dx dy slot)
      ∧ (formed b.ds.load 3#8 0#8 0#8 .trim 0 0 0 ∧ ¬ counted { design with declared := 4 } .trim)
      ∧ (formed b.ds.load 1#8 121#8 0#8 .stitch 121 0 0 ∧ counted design .stitch
        ∧ ¬ inField { b with fc.active := none } (posAfter design 121 0)) := by
  refine ⟨by decide +kernel, ?_, ?_, ⟨?_, ?_⟩, ⟨?_, ?_, ?_⟩⟩
  · intro kind dx dy slot h
    simp [formed] at h
  · rintro kind dx dy slot h
    simp [formed] at h
    omega
  · unfold formed
    decide
  · unfold counted
    decide
  · unfold formed
    decide
  · unfold counted
    decide
  · rintro ⟨f, h, -⟩
    cases h

theorem test_hyp_DreadReadsByIndex :
    State.reset.linkFree ∧ 16777215 < 16777216 := by
  decide

theorem test_hyp_TheReleaseTestFreesTheTail :
    let d : Ds := { design with sew := 3 }
    d.tail ≤ d.sew ∧ d.sew ≤ d.load ∧ d.tail < (d.release 1 none 1).1.tail
      ∧ d.records[(d.release 1 none 1).1.tail - 1 - d.tail]?
        = some ⟨.stitch, 5, 0, 0, ⟨5, 0⟩, some 1⟩
      ∧ (d.release 0 (some 0) 1).1.tail = d.tail ∧ d.tail ≤ 0 := by
  decide

theorem test_hyp_FrameSetupIsTakenInIdle :
    let s := part (blocks .idle)
    let r : Rect := ⟨-100, 1000, -100, 1000⟩
    (s.linkFree ∧ s.blk.cf.lock = true ∧ s.blk.rc.runState = .idle ∧ s.blk.ds.channel = .closed)
      ∧ (-32768 ≤ r.xMin ∧ r.xMax ≤ 32767 ∧ -32768 ≤ r.yMin ∧ r.yMax ≤ 32767)
      ∧ (s.blk.cf.config.x.travelMin ≤ r.xMin ∧ r.xMin < r.xMax
        ∧ r.xMax ≤ s.blk.cf.config.x.travelMax ∧ s.blk.cf.config.y.travelMin ≤ r.yMin
        ∧ r.yMin < r.yMax ∧ r.yMax ≤ s.blk.cf.config.y.travelMax)
      ∧ s.blk.fc.hoops.get .n1 ≠ none ∧ s.blk.fc.hoops.get .n8 = none
      ∧ (let d := part { blocks .idle with ds := design }
         d.blk.ds.channel ≠ .closed ∧ d.blk.ds.box = some ⟨0, 10, 0, 0⟩
           ∧ d.blk.activeField = some r) := by
  decide +kernel

theorem test_hyp_MoveSendsTheFrame :
    let s := part (blocks .ended)
    s.linkFree ∧ s.blk.cf.lock = true ∧ runIsOf s.blk [.idle, .paused, .ended] ∧ axesReady s.blk
      ∧ s.blk.cf.config.x.travelMin ≤ -100 ∧ (1000 : Int) ≤ s.blk.cf.config.x.travelMax
      ∧ standsOff s.blk ⟨-100, 1000⟩ ∧ ¬ standsOff s.blk ⟨0, 0⟩ := by
  decide +kernel

/-- The tests of RUN hold of a part with a design. -/
theorem runTests_of (rs : RunState) (b : Blocks) (hb : b = { blocks rs with ds := design })
    (h : rs = .idle ∨ rs = .paused ∨ rs = .held) : runTests b := by
  subst hb
  rcases h with h | h | h <;> subst h <;>
    refine ⟨⟨rfl, by decide, by decide⟩, fun _ => by decide, ⟨.n1, by decide, rfl⟩, ?_, ?_, ?_,
      fun _ => by decide⟩
  all_goals first
    | (rintro - h' ⟨hn, -⟩
       cases h' <;> simp [blocks, config2, Id8.num, Eight.get, Eight.tabulate, seat, Head.fresh,
         Head.absent] at hn ⊢)
    | (rintro h' ⟨hn, -⟩
       cases h' <;> simp [blocks, config2, Id8.num, Eight.get, Eight.tabulate, seat, Head.fresh,
         Head.absent] at hn ⊢)
    | (intro _ e he
       cases he)

theorem test_hyp_RunIsTakenWhenItsTestsHold :
    runTests { blocks .idle with ds := design } ∧ runTests { blocks .paused with ds := design }
      ∧ runTests { blocks .held with ds := design }
      ∧ (part { blocks .held with ds := design }).linkFree :=
  ⟨runTests_of .idle _ rfl (by decide), runTests_of .paused _ rfl (by decide),
    runTests_of .held _ rfl (by decide), by decide⟩

theorem test_hyp_RunRefusals :
    (blocks .halted).rc.runState = .halted
      ∧ ¬ runIsOf (blocks .running) [.idle, .paused, .held, .halted]
      ∧ (blocks .idle).ds.channel = .closed
      ∧ ({ design with channel := .stalled } : Ds).channel = .stalled
      ∧ ((Ds.openDesign 0).channel = .opened ∧ (Ds.openDesign 0).load = 0)
      ∧ ({ blocks .paused with sc := Sc.reset } : Blocks).sc.state ≠ .stopped
      ∧ ¬ axesReady { blocks .paused with fc := Fc.reset } := by
  decide

/-- The tests of RUN that follow the run state, each failing as the first. -/
theorem test_hyp_RunRefusalsInOrder :
    let b (rs : RunState) (u : Head) : Blocks :=
      { blocks rs with ds := design, hu := (Eight.const Head.absent).set .n1 u }
    let pinned : Blocks := { blocks .held with
      ds := { design with sew := 3 }, cf := ⟨true, config2, { Settings.default 2 with pinLimit := 3 }⟩
      rt := (Eight.const []).set .n2 [⟨0, some 1⟩] }
    let empty : Blocks := { blocks .paused with ds := { design with sew := 3 } }
    (runOpen { b .idle seat with sc := Sc.reset } ∧ ¬ runHomed { b .idle seat with sc := Sc.reset })
      ∧ (runHomed (b .idle Head.absent) ∧ ¬ ∃ h, sews (b .idle Head.absent) h)
      ∧ (sews (b .held { seat with faultFlag := true }) .n1
        ∧ ¬ runUnflagged (b .held { seat with faultFlag := true }))
      ∧ ¬ runAtNeedles (b .paused { seat with selector := .jammed })
      ∧ (runAtNeedles pinned ∧ ¬ runBelowPin pinned)
      ∧ (runBelowPin empty ∧ ¬ runLoaded empty) := by
  refine ⟨⟨⟨rfl, by decide, fun _ => by decide⟩, fun h => ?_⟩, ⟨fun _ => by decide, ?_⟩,
    ⟨⟨by decide, rfl⟩, fun h => ?_⟩, fun h => ?_, ⟨fun h => ?_, fun h => ?_⟩, ⟨fun _ e he => ?_, fun h => ?_⟩⟩
  · exact absurd (h (by decide)).1 (by decide)
  · rintro ⟨h, -, hs⟩
    cases h <;> cases hs
  · exact absurd (h .n1 ⟨by decide, rfl⟩) (by decide)
  · exact (h (by decide) .n1 ⟨by decide, rfl⟩).2 rfl
  · exact absurd h (by decide)
  · exact absurd (h (by decide) 0 (by decide)) (by decide)
  · cases he
  · exact absurd (h (by decide)) (by decide)

theorem test_hyp_RunFromIdleBeginsReturnTravel :
    let b : Blocks := { blocks .idle with ds := design, fc.x := readyAt 1 }
    runTests b ∧ b.rc.runState = .idle ∧ ¬ recordAtSew b .endDesign ∧ ¬ recordAtSew b .mark
      ∧ b.ds.posBefore b.ds.sew = some ⟨0, 0⟩ ∧ standsOff b (b.fc.origin.add ⟨0, 0⟩) := by
  refine ⟨?_, rfl, ?_, ?_, by decide +kernel, by decide +kernel⟩
  · obtain ⟨h1, -, h3, h4, h5, h6, h7⟩ := runTests_of .idle _ rfl (Or.inl rfl)
    exact ⟨h1, fun _ => by decide, h3, h4, h5, h6, h7⟩
  · rintro ⟨r, h, hk⟩
    cases h
    cases hk
  · rintro ⟨r, h, hk⟩
    cases h
    cases hk

theorem test_hyp_PauseByRunState :
    ((sewing .stitch 0).rc.runState = .running ∧ (sewing .stitch 0).sc.state = .turning)
      ∧ (blocks .stopping).rc.runState = .stopping ∧ (blocks .held).rc.runState = .held
      ∧ (let c : Change := ⟨1, .recordDriven 0, Eight.const false, false, false⟩
         ({ blocks .changing with rc.change := some c } : Blocks).rc.change = some c)
      ∧ (let b : Blocks := { blocks .travel with
          fc.x := movingTo 1, fc.move := some ⟨.returnTravel, false⟩ }
         runIsOf b [.travel, .moving] ∧ ¬ axesReady b
           ∧ b.fc.move = some ⟨.returnTravel, false⟩)
      ∧ (let w : PatchWork := ⟨.n1, 1, 2, 1, some 1, ⟨false, false⟩, none⟩
         let b : Blocks := { working .patch (.patch w) with sc.state := .turning }
         b.rc.runState = .patch ∧ b.fc.move = none ∧ b.rc.change = none ∧ b.sc.state = .turning)
      ∧ runIsOf (blocks .halted) [.idle, .paused, .ended, .homing, .halted] := by
  decide +kernel

/-- Moves a PAUSE meets: stopped short before, completed, and of a BACK or FWD. -/
theorem test_hyp_PauseOfAMove :
    (let b : Blocks := { blocks .moving with fc.move := some ⟨.manual, true⟩ }
     runIsOf b [.travel, .moving] ∧ axesReady b ∧ b.fc.move = some ⟨.manual, true⟩)
      ∧ (let b : Blocks := { working .moving .move with fc.move := some ⟨.manual, false⟩ }
         b.rc.runState = .moving ∧ axesReady b ∧ b.fc.move = some ⟨.manual, false⟩
           ∧ b.rc.op = some ⟨7#8, .paused (some .host), .move⟩)
      ∧ (let b : Blocks := { blocks .travel with fc.move := some ⟨.returnTravel, false⟩ }
         b.rc.runState = .travel ∧ axesReady b ∧ b.fc.move = some ⟨.returnTravel, false⟩)
      ∧ (let b : Blocks := { working .reposition (.repo ⟨true, 0, false⟩) with
          fc.move := some ⟨.step, false⟩ }
         b.rc.runState = .reposition
           ∧ b.rc.op = some ⟨7#8, .paused (some .host), .repo ⟨true, 0, false⟩⟩
           ∧ b.fc.move = some ⟨.step, false⟩)
      ∧ (let b : Blocks := { working .reposition (.repo ⟨true, 0, false⟩) with
          fc.x := movingTo 1, fc.move := some ⟨.returnTravel, false⟩ }
         b.fc.move = some ⟨.returnTravel, false⟩ ∧ ¬ axesReady b) := by
  decide +kernel

theorem test_hyp_HomeBeginsWithTheShaft :
    (part (blocks .halted)).linkFree ∧ ({ blocks .running with fl.estop := true } : Blocks).fl.estop = true
      ∧ (blocks .halted).fl.estop = false
      ∧ runIsOf (blocks .halted) [.idle, .paused, .ended, .halted]
      ∧ ({ blocks .halted with sc := Sc.reset } : Blocks).sc.state = .off
      ∧ (blocks .halted).sc.state = .stopped ∧ (blocks .halted).pins.homeSwitchX = false
      ∧ (blocks .halted).fc.x.state ≠ .fault
      ∧ (let b : Blocks := { blocks .halted with fc.x := AxisRec.faulted, pins.homeSwitchX := true }
         b.pins.homeSwitchY = false ∧ b.fc.y.state ≠ .fault)
      ∧ homedByHome (blocks .halted) .n1 ∧ ¬ homedByHome (blocks .halted) .n3 := by
  unfold homedByHome
  decide

theorem test_hyp_BackAndFwdStepTheSewPoint :
    let b : Blocks := { blocks .paused with ds := { design with sew := 2 } }
    ((part b).linkFree ∧ b.cf.lock = true ∧ b.rc.runState = .paused ∧ axesReady b
      ∧ b.ds.sew - b.ds.tail < 65536 ∧ 0 < 1 ∧ b.ds.sew - b.ds.tail < 3
      ∧ 2 ≤ b.ds.sew - b.ds.tail ∧ b.fc.offPosition = false)
      ∧ (forwardMost b < 65536 ∧ forwardMost b < 2 ∧ 1 ≤ forwardMost b ∧ b.ds.tail ≤ b.ds.sew
        ∧ b.ds.posBefore (b.ds.sew + 1) = some ⟨10, 0⟩ ∧ standsOff b (b.fc.origin.add ⟨10, 0⟩))
      ∧ forwardMost { b with ds := { design with sew := 2, channel := .finished } } < 1
      ∧ (let p : Blocks := { b with
          ds := { design with sew := 1 }
          cf := ⟨true, config2, { Settings.default 2 with pinLimit := 2 }⟩
          rt := (Eight.const []).set .n2 [⟨0, some 1⟩] }
         forwardMost p = 1)
      ∧ (let b' : Blocks := { b with fc.x := readyAt 5 }
         b'.ds.posBefore (b'.ds.sew - 1) = some ⟨0, 0⟩
           ∧ standsOff b' (b'.fc.origin.add ⟨0, 0⟩)) := by
  decide +kernel

theorem test_hyp_CloseEndsTheRun :
    (part (blocks .ended)).linkFree ∧ runIsOf (blocks .ended) [.paused, .ended, .halted]
      ∧ 1 < (2#8 : Byte).toNat
      ∧ (∃ h : HeadId, ({ blocks .ended with
          rt := (Eight.const []).set .n8 [⟨0, some 1⟩] } : Blocks).rt.get h ≠ [])
      ∧ ∀ h : HeadId, (blocks .ended).rt.get h = [] :=
  ⟨by decide, by decide, by decide, ⟨.n8, by decide⟩, by intro h; cases h <;> rfl⟩

theorem test_hyp_HeadsJoinLeaveAndAreGated :
    (part (blocks .idle)).linkFree ∧ (blocks .idle).cf.lock = true
      ∧ Id8.num .n2 ≤ (blocks .idle).cf.config.headCount
      ∧ ((blocks .idle).hu.get .n2).state = .sewing
      ∧ runIsOf (blocks .idle) [.idle, .paused, .ended] ∧ (blocks .idle).sc.cycle = none
      ∧ ((blocks .idle).hu.get .n2).selector.busy = false
      ∧ ({ seat with selector := .homing } : Head).selector.busy = true
      ∧ ({ seat with state := .isolated } : Head).state = .isolated
      ∧ (let u : Head := { seat with state := .off, kept := some .standby }
         u.state = .off ∧ u.kept = some .standby) := by
  decide

theorem test_hyp_HclrBobAndMclrByTheirTables :
    (part (blocks .idle)).linkFree ∧ 65535 < 65536 := by
  decide

theorem test_hyp_HrstResetsOneHead :
    (part (blocks .halted)).linkFree ∧ Id8.num .n2 ≤ (blocks .halted).cf.config.headCount
      ∧ runIsOf (blocks .halted) [.idle, .paused, .ended, .halted]
      ∧ ((blocks .halted).hu.get .n2).selector.busy = false := by
  decide

theorem test_hyp_HhomeHomesOneSelector :
    (part (blocks .ended)).linkFree ∧ ((blocks .ended).hu.get .n2).state ≠ .off
      ∧ runIsOf (blocks .ended) [.idle, .paused, .ended]
      ∧ ({ blocks .ended with sc := Sc.reset } : Blocks).sc.state ≠ .stopped
      ∧ (blocks .ended).sc.state = .stopped ∧ (blocks .ended).pins.selIndex.get .n2 = false
      ∧ ({ blocks .ended with pins.selIndex := Eight.const true } : Blocks).pins.selIndex.get .n2
        = true := by
  decide

theorem test_hyp_ThePlanIsSetClearedAndRead :
    (part (blocks .idle)).linkFree ∧ (blocks .idle).cf.lock = true ∧ 1 ≤ 32 ∧ 32 ≤ 32
      ∧ ([1#8, 3#8] : List Byte).length = (blocks .idle).cf.config.headCount
      ∧ (∀ b ∈ ([1#8, 3#8] : List Byte),
          1 ≤ b.toNat ∧ b.toNat ≤ (blocks .idle).cf.config.needleCount)
      ∧ (blocks .idle).rc.runExists = false ∧ ¬ runIsOf (blocks .idle) [.changing, .patch]
      ∧ (let b : Blocks := { blocks .paused with
          rc.runExists := true, rc.slotInEffect := some 1 }
         b.rc.runExists = true ∧ b.rc.slotInEffect = some 1
           ∧ planEntry b.tp 1 = some ⟨1, [1, 1]⟩) := by
  decide +kernel

theorem test_hyp_AnOpenRangeClosesAtTheSewPoint :
    let b : Blocks := { blocks .paused with
      rt := (Eight.const []).set .n1 [⟨0, some 1⟩, ⟨2, none⟩] }
    b.rt.get .n1 = [⟨0, some 1⟩] ++ [⟨2, none⟩]
      ∧ (∀ r ∈ ([⟨0, some 1⟩] : List Machine.Range), r.b ≠ none) ∧ 2 < 3 ∧ ¬ 2 < 2 := by
  decide

/-- Faults that name a head: answered with ISOLATE, in RUNNING and in ENDED, and with STOP_ALL. -/
theorem test_hyp_FaultsThatNameAHead :
    let isolating : Settings := { Settings.default 2 with policy := .isolate, looseAction := .stop }
    let run : Blocks := { sewing .stitch 0 with cf := ⟨true, config2, isolating⟩ }
    let ended : Blocks := { blocks .ended with cf := ⟨true, config2, isolating⟩ }
    (policyFault run .n1 (.threadBreak .n1 (some 1) (some 1) 1 1)
        ∧ policyFault run .n1 (.tensionLoose .n1 (some 1) (some 1) 1)
        ∧ policyFault run .n1 (.bobbinEmpty .n1 (some 1) (some 1) 1)
        ∧ policyFault run .n1 (.selectorChange .n1 1 1 (.reconciliation 1)))
      ∧ isolates run .n1 (.threadBreak .n1 (some 1) (some 1) 1 1)
      ∧ (isolates ended .n1 (.bobbinEmpty .n1 none none 1) ∧ ended.rc.runState = .ended)
      ∧ ¬ isolates (sewing .stitch 0) .n1 (.threadBreak .n1 (some 1) (some 1) 1 1)
      ∧ ¬ policyFault (sewing .stitch 0) .n1 (.tensionLoose .n1 (some 1) (some 1) 1)
      ∧ ((run.hu.get .n1).faultFlag = false
        ∧ ({ seat with faultFlag := true } : Head).faultFlag = true)
      ∧ (run.rc.runState = .running ∧ run.sc.state = .turning ∧ run.patchWork = none
        ∧ (blocks .held).rc.runState = .held)
      ∧ (let c : Change := ⟨1, .recordDriven 0, Eight.const true, false, false⟩
         ({ blocks .changing with rc.change := some c } : Blocks).rc.change = some c) := by
  refine ⟨by simp [policyFault],
    ⟨rfl, by decide, ⟨.n2, by decide, by decide, rfl⟩, by decide, by decide⟩, ⟨⟨rfl, by decide, ⟨.n2, by decide, by decide, rfl⟩, by decide, by decide⟩, rfl⟩, ?_, ?_,
    by decide, by decide, by decide⟩
  · rintro ⟨h, -⟩
    cases h
  · rintro ⟨-, h⟩
    cases h

/-- STOP_ALL meets travel before and after its last steps. -/
theorem test_hyp_StopAllInTravel :
    let b : Blocks := { blocks .travel with fc.move := some ⟨.returnTravel, false⟩ }
    let fault : Condition := .bobbinEmpty .n1 (some 1) (some 1) 1
    policyFault b .n1 fault ∧ ¬ isolates b .n1 fault ∧ (b.hu.get .n1).faultFlag = false
      ∧ b.rc.runState = .travel ∧ b.patchWork = none ∧ axesReady b ∧ b.fc.stopAsked = false
      ∧ ¬ axesReady { b with fc.x := movingTo 1 } := by
  refine ⟨rfl, fun h => absurd h.1 (by decide), ?_⟩
  decide +kernel

/-- STOP_ALL meets a patch run in travel, in its change, with the shaft turning, and at rest. -/
theorem test_hyp_StopAllInPatch :
    let w : PatchWork := ⟨.n1, 1, 3, 2, some 1, ⟨false, false⟩, some 1⟩
    let b := working .patch (.patch w)
    let turning : Blocks := { b with sc := (sewing .stitch 900).sc }
    let resting : Blocks := { b with rc := { b.rc with
      stop := some ⟨some 1, 2, false, ⟨false, false, false, false, false, true⟩⟩ } }
    (b.hu.get .n1).faultFlag = false ∧ b.rc.runState = .patch
      ∧ b.rc.op = some ⟨7#8, .paused (some .host), .patch w⟩
      ∧ (let t : Blocks := { b with fc.x := movingTo 1, fc.move := some ⟨.patchTravel, false⟩ }
         t.fc.move = some ⟨.patchTravel, false⟩ ∧ ¬ axesReady t)
      ∧ (let t : Blocks := { b with fc.move := some ⟨.patchTravel, false⟩ }
         axesReady t ∧ t.fc.stopAsked = false)
      ∧ (b.fc.move = none ∧ (changing .patch (.recordDriven 0) 0).rc.change
        = some ⟨1, .recordDriven 0, (Eight.const false).set .n1 true, false, false⟩)
      ∧ (turning.sc.state ∈ ([.turning, .stopping] : List ShaftState) ∧ turning.rc.change = none)
      ∧ (resting.rc.stop ≠ none ∧ resting.sc.state ∉ ([.turning, .stopping] : List ShaftState))
      ∧ (b.rc.stop = none ∧ b.fc.busy = false)
      ∧ (failedStart w = 1 ∧ failedStart { w with breakStart := some 2 } = 2
        ∧ failedStart { w with breakStart := none } = 2) := by
  decide +kernel

theorem test_hyp_IsolatedHeadsReturnOrLeave :
    let b : Blocks := { blocks .paused with
      hu := (blocks .paused).hu.set .n2 { seat with state := .isolated } }
    (part b).linkFree ∧ b.cf.lock = true ∧ Id8.num .n2 ≤ b.cf.config.headCount
      ∧ (b.hu.get .n2).state = .isolated ∧ b.rc.runState = .paused
      ∧ (b.hu.get .n2).selector = .atNeedle 1 ∧ b.sc.cycle = none
      ∧ ({ seat with selector := .jammed } : Head).selector.lost = true := by
  decide

theorem test_hyp_RangesAreReadAndDropped :
    let b : Blocks := { blocks .paused with
      rt := (Eight.const []).set .n2 [⟨0, some 1⟩, ⟨2, none⟩] }
    (part b).linkFree ∧ Id8.num .n2 ≤ b.cf.config.headCount ∧ (b.hu.get .n2).state ≠ .off
      ∧ (b.rt.get .n2).length < 3 ∧ 8 ≤ 8
      ∧ (b.rt.get .n2)[2 - 1]? = some ⟨2, none⟩ ∧ (b.rt.get .n2)[1 - 1]? = some ⟨0, some 1⟩
      ∧ b.patchWork = none := by
  decide +kernel

theorem test_hyp_PatchTravelsToTheRange :
    let b : Blocks := { blocks .ended with
      ds := { design with sew := 3 }, rt := (Eight.const []).set .n2 [⟨2, some 3⟩] }
    (part b).linkFree ∧ b.cf.lock = true ∧ Id8.num .n2 ≤ b.cf.config.headCount
      ∧ runIsOf b [.paused, .ended] ∧ (b.rt.get .n2)[1 - 1]? = some ⟨2, some 3⟩
      ∧ (b.hu.get .n2).state = .sewing ∧ (b.hu.get .n2).faultFlag = false
      ∧ (b.hu.get .n2).selector = .atNeedle 1 ∧ b.sc.state = .stopped ∧ axesReady b
      ∧ b.ds.posBefore 2 = some ⟨5, 0⟩ ∧ standsOff b (b.fc.origin.add ⟨5, 0⟩) := by
  decide +kernel

theorem test_hyp_TheLogAndTheCaptureAreRead :
    State.reset.linkFree ∧ 4294967295 < 4294967296 := by
  decide

theorem test_hyp_AnEntryIsWritten :
    let e := (blocks .running).entry .estop
    Fl.reset.log.length < 32 ∧ 32 ≤ ({ Fl.reset with log := List.replicate 32 e } : Fl).log.length
      ∧ Fl.reset.capture = none ∧ ({ Fl.reset with capture := some e } : Fl).capture = some e := by
  decide +kernel

theorem test_hyp_EstopIsRecognisedAndReleased :
    ({ Fl.reset with assertTiming := true } : Fl).assertTiming = true
      ∧ Fl.reset.assertTiming = false ∧ State.reset.blk.cf.lock = false
      ∧ (blocks .running).cf.lock = true ∧ (blocks .running).fl.waiting = []
      ∧ ({ Fl.reset with estop := true, releaseTiming := true } : Fl).releaseTiming = true
      ∧ Fl.reset.releaseTiming = false := by
  decide

theorem test_hyp_ShaftFaultsHaltThePart :
    (sewing .stitch 1023).fl.waiting = []
      ∧ (sewing .stitch 1023).sc.state ∈ ([.finding, .turning, .stopping] : List ShaftState)
      ∧ (sewing .stitch 1023).sc.stallTimer ≠ none
      ∧ (blocks .idle).sc.state ∈ ([.off, .stopped] : List ShaftState)
      ∧ (sewing .stitch 1023).sc.angle = some 1023 ∧ (sewing .stitch 1022).sc.angle ≠ some 1023
      ∧ (blocks .idle).sc.state ∉ ([.turning, .stopping] : List ShaftState) := by
  decide

/-- The halt meets a patch run, an operation that is none, and no operation. -/
theorem test_hyp_HaltedOperations :
    let w : PatchWork := ⟨.n1, 1, 2, 1, some 1, ⟨false, false⟩, none⟩
    (working .patch (.patch w)).rc.op = some ⟨7#8, .paused (some .host), .patch w⟩
      ∧ (working .moving .move).rc.op = some ⟨7#8, .paused (some .host), .move⟩
      ∧ Work.move ≠ .patch w ∧ (blocks .running).rc.op = none := by
  decide

theorem test_hyp_EncoderCountsMoveTheAngle :
    Sc.reset.state = .off
      ∧ ((blocks .idle).sc.state = .stopped ∧ (blocks .idle).sc.angle = some 0)
      ∧ (let x : Sc := { Sc.reset with state := .finding, angle := some 1022 }
         x.state = .finding ∧ x.angle = some 1022 ∧ 1022 < 1023)
      ∧ (let b := sewing .stitch 199
         b.sc.state ∈ ([.turning, .stopping] : List ShaftState) ∧ b.sc.angle = some 199
           ∧ b.sc.cycle = some ⟨1, .stitch, false, false⟩ ∧ 199 + 1 = b.cf.config.entryAngle
           ∧ b.fc.notDone 1 = false)
      ∧ (let b : Blocks := { sewing .stitch 199 with
          fc.x := movingTo 5, fc.move := some ⟨.cycle 1, false⟩ }
         b.fc.notDone 1 = true ∧ b.fl.waiting = [] ∧ b.rc.runState = .running
           ∧ b.sc.state = .turning ∧ b.patchWork = none)
      ∧ (let b := sewing .trim 299
         299 + 1 = b.cf.config.trimAngle ∧ 299 + 1 ≠ b.cf.config.entryAngle)
      ∧ (let b := sewing .trim 298
         298 + 1 ≠ b.cf.config.trimAngle ∧ 298 + 1 ≠ b.cf.config.entryAngle) := by
  decide +kernel

theorem test_hyp_HomingFailuresAreCounted :
    let w : HomeWork := ⟨true, Eight.const true, none, none, Eight.const false⟩
    let b : Blocks := { working .homing (.home w) with
      sc := { Sc.reset with state := .finding, angle := some 1023 }, fc.x := AxisRec.seeking }
    b.fl.waiting = [] ∧ b.sc.state = .finding ∧ b.sc.angle = some 1023
      ∧ b.rc.op = some ⟨7#8, .paused (some .host), .home w⟩ ∧ (b.fc.axis .x).state = .homing
      ∧ w.await ≠ Eight.const false ∧ (b.fc.axis .y).state ≠ .homing
      ∧ (blocks .idle).sc.state ≠ .finding := by
  decide +kernel

/-- HOME goes on with the outcome of an axis, or ends with it, from each base state of R88. -/
theorem test_hyp_TheLastAxisOfHome :
    let w : HomeWork := ⟨true, Eight.const false, none, some .homed, Eight.const false⟩
    let b (base : BaseState) : Blocks :=
      { blocks .homing with rc.op := some ⟨7#8, base, .home w⟩, fc.x := AxisRec.seeking }
    ((b .idle).fc.axis .x).state = .homing ∧ (b .halted).rc.op = some ⟨7#8, .halted, .home w⟩
      ∧ allHomed (w.setAxis .x .homeFail) ∧ allHomed (w.setAxis .x .homed)
      ∧ ¬ allHomed ({ w with yOutcome := none } : HomeWork)
      ∧ (b .halted).sc.state = .stopped ∧ axesReady { b .halted with fc.x := readyAt 0 }
      ∧ (b .halted).rc.runExists = false
      ∧ ¬ axesReady { b .halted with fc.x := AxisRec.unhomed } := by
  unfold allHomed
  decide +kernel

theorem test_hyp_TheIndexEndsACycle :
    Sc.reset.state = .off ∧ (blocks .idle).sc.state = .stopped
      ∧ ({ Sc.reset with state := .finding } : Sc).state = .finding
      ∧ (let b : Blocks := { sewing .stitch 900 with sc.state := .stopping }
         b.sc.state ∈ ([.turning, .stopping] : List ShaftState) ∧ b.sc.plan = some .run
           ∧ b.sc.cycle = some ⟨1, .stitch, false, false⟩ ∧ b.ds.sew < b.ds.load
           ∧ b.sc.state = .stopping ∧ b.sc.demanded ≤ 200 ∧ b.fl.waiting = []
           ∧ runIsOf b [.running, .stopping] ∧ b.patchWork = none ∧ 1 = b.ds.sew
           ∧ b.ds.tail ≤ b.ds.sew ∧ b.cf.settings.policy = .stopAll) := by
  decide +kernel

/-- The end of a cycle of a patch run, at rest and going on, and that of a JUMP that is late. -/
theorem test_hyp_TheIndexEndsAPatchCycleOrALateJump :
    (let w : PatchWork := ⟨.n1, 1, 3, 1, some 1, ⟨false, false⟩, none⟩
     let b : Blocks := { working .patch (.patch w) with
       ds := { design with sew := 3 }, sc := { (sewing .stitch 900).sc with plan := some (.patch 3) } }
     b.sc.state ∈ ([.turning, .stopping] : List ShaftState) ∧ b.sc.plan = some (.patch w.b)
       ∧ b.sc.cycle = some ⟨1, .stitch, false, false⟩
       ∧ b.rc.op = some ⟨7#8, .paused (some .host), .patch w⟩ ∧ b.rc.runState = .patch
       ∧ b.fl.waiting = [] ∧ b.fc.move = none ∧ b.rc.change = none
       ∧ ({ b with sc.state := .stopping } : Blocks).sc.demanded ≤ 200)
      ∧ (let b : Blocks := { sewing .jump 900 with
          fc.x := movingTo 5, fc.move := some ⟨.cycle 1, false⟩ }
         b.sc.plan = some .run ∧ b.sc.cycle = some ⟨1, .jump, false, false⟩
           ∧ b.fc.notDone 1 = true ∧ b.fl.waiting = [] ∧ runIsOf b [.running, .stopping]
           ∧ b.patchWork = none)
      ∧ (RecordKind.trim ≠ .stitch ∧ (sewing .jump 900).fc.notDone 1 = false) := by
  decide +kernel

theorem test_hyp_TheNextCycleIsPlanned :
    (let b : Blocks := { sewing .stitch 0 with sc.state := .stopping }
     b.sc.state = .stopping ∧ b.sc.previous ≤ 200)
      ∧ (sewing .stitch 0).planK .run (2 + 1) = 0
      ∧ (let b := sewing .stitch 0
         ¬ (b.sc.state = .stopping ∧ b.sc.previous ≤ 200) ∧ b.planK .run (1 + 1) ≠ 0
           ∧ b.ds.record (b.cycleIndex .run (1 + 1))
             = some ⟨.stitch, 5, 0, 0, ⟨10, 0⟩, some 1⟩) := by
  decide +kernel

/-- A start request by each of its tests, and the answers RC meets. -/
theorem test_hyp_StartRequests :
    let b : Blocks := { blocks .held with ds := { design with sew := 1 } }
    (sewing .stitch 0).sc.state ≠ .stopped ∧ b.sc.state = .stopped
      ∧ ({ b with hu := Eight.const { seat with selector := .moving 2 1 1 } } :
          Blocks).selectorMoving = true
      ∧ (b.selectorMoving = false ∧ axesReady b ∧ b.fc.busy = false)
      ∧ ¬ axesReady { b with fc.x := movingTo 1 }
      ∧ ({ b with fc.move := some ⟨.cycle 1, false⟩ } : Blocks).fc.busy = true
      ∧ (b.planK .run 1 ≠ 0 ∧ b.ds.record (b.cycleIndex .run 1)
        = some ⟨.stitch, 5, 0, 0, ⟨5, 0⟩, some 1⟩)
      ∧ b.planK .run 0 = 0
      ∧ (b.rc.resume = none ∧ (b.startRequest .run b.ds.sew).2 = .started)
      ∧ (let c : Blocks := { b with ds := design }
         (c.startRequest .run c.ds.sew).2 = .atStop (c.points .run 0))
      ∧ ((sewing .stitch 0).startRequest .run 1).2 = .notReady .turning
      ∧ ({ b with rc.resume := some .resume } : Blocks).rc.resume ≠ none := by
  decide +kernel

/-- A cycle move to elsewhere, to where the frame stands, and behind another. -/
theorem test_hyp_CycleMoves :
    let f := (blocks .running).fc
    f.x.state = .ready ∧ f.y.state = .ready ∧ f.move = none ∧ f.waiting = []
      ∧ f.x.pos ≠ some 5 ∧ f.x.pos = some 0 ∧ f.y.pos = some 0
      ∧ (movingTo 5).state ≠ .ready
      ∧ ({ f with move := some ⟨.cycle 1, false⟩ } : Fc).move ≠ none := by
  decide +kernel

theorem test_hyp_FeedPulsesAreCountedAndJudged :
    let w : Window := ⟨65535, .short⟩
    let b : Blocks := { blocks .running with
      tm := (Eight.const Monitor.fresh).set .n2 { Monitor.fresh with window := some w } }
    Id8.num .n2 ≤ b.cf.config.headCount ∧ (b.hu.get .n2).state ≠ .off
      ∧ (b.tm.get .n2).window = some w ∧ (b.tm.get .n1).window = none
      ∧ b.cf.config.headCount < Id8.num .n3
      ∧ 1 < (Settings.default 2).breakFloor ∧ (Settings.default 2).breakFloor ≤ 2
      ∧ 12 ≤ (Settings.default 2).looseShort ∧ (Settings.default 2).looseShort < 13
      ∧ Monitor.fresh.low = 0 := by
  decide +kernel

/-- Monitors at a break, with a warning to raise, and the two counts of a bobbin. -/
theorem test_hyp_WindowsAndBobbinsOfACycleEnd :
    let m : Monitor := { Monitor.fresh with
      state := .armed, bigK := 4, low := 3, breakStart := some 9, soft := 19
      window := some ⟨1, .short⟩ }
    seat.takesPart = false ∧ ({ seat with takesPart := true } : Head).takesPart = true
      ∧ (m.judge (Settings.default 2) 12 ⟨1, .short⟩).threadBreak = some 9
      ∧ (m.judge (Settings.default 2) 12 ⟨1, .short⟩).warn = true
      ∧ (Monitor.fresh.judge (Settings.default 2) 12 ⟨1, .short⟩).warn = false
      ∧ ({ m with state := .settling } : Monitor).state = .settling
      ∧ seat.bobbin = none ∧ ({ seat with bobbin := some 500 } : Head).bobbin = some (499 + 1)
      ∧ ({ seat with bobbin := some 1 } : Head).bobbin = some (0 + 1) := by
  decide +kernel

/-- An index that ends a STITCH whose move is late, with head 1 at a break and its bobbin empty. -/
theorem test_hyp_TheIndexJudgesAndLowers :
    let m : Monitor := { Monitor.fresh with
      state := .armed, bigK := 4, low := 3, breakStart := some 9, soft := 19
      window := some ⟨1, .short⟩ }
    let b : Blocks := { sewing .stitch 900 with
      fc.x := movingTo 5, fc.move := some ⟨.cycle 1, false⟩
      hu := (blocks .running).hu.set .n1 { seat with takesPart := true, bobbin := some 1 }
      tm := (Eight.const Monitor.fresh).set .n1 m }
    let c : Machine.Cycle := ⟨1, .stitch, false, false⟩
    b.sc.state ∈ ([.turning, .stopping] : List ShaftState) ∧ b.sc.plan = some .run
      ∧ b.sc.cycle = some c ∧ b.fl.waiting = [] ∧ b.ds.channel ≠ .closed
      ∧ b.fc.move = some ⟨.cycle 1, false⟩ ∧ MoveOwner.cycle 1 ≠ .patchTravel
      ∧ lateAtEnd b c ≠ [] ∧ emptyAtEnd b c .n1 ≠ [] ∧ emptyAtEnd b c .n2 = []
      ∧ judgedAtEnd b c .n1 = some (m.judge (Settings.default 2) 1 ⟨1, .short⟩)
      ∧ (m.judge (Settings.default 2) 1 ⟨1, .short⟩).warn = true
      ∧ judgedKeys b c .n1 (judgedAtEnd b c .n1) ≠ []
      ∧ judgedKeys b c .n2 (judgedAtEnd b c .n2) = []
      ∧ (b.hu.get .n1).bobbin = some (0 + 1) ∧ (b.hu.get .n1).lowLatch = false
      ∧ (b.hu.get .n2).takesPart = false := by
  decide +kernel

theorem test_hyp_StopsAreResolvedInOrder :
    let stop : Stop := ⟨some 0, 1, true, ⟨false, false, false, true, false, false⟩⟩
    let b : Blocks := { blocks .stopping with rc.stop := some stop, ds := design }
    b.fl.waiting = [] ∧ b.rc.stop = some stop ∧ runIsOf b [.running, .stopping]
      ∧ b.fc.busy = false ∧ ¬ runIsOf (blocks .held) [.running, .stopping]
      ∧ ({ b with fc.move := some ⟨.cycle 0, false⟩ } : Blocks).fc.busy = true
      ∧ (⟨true, true⟩ : StopCauses).fault = true ∧ stop.points.pin = false
      ∧ (⟨true, false⟩ : StopCauses).host = true ∧ b.rc.causes = ⟨false, false⟩
      ∧ b.ds.load - b.ds.sew < b.cf.settings.resumeMark ∧ b.ds.channel ≠ .finished := by
  decide +kernel

/-- A part in STOPPING with a stop to resolve at S, with S at the last of some records. -/
def stopped (k : RecordKind) (p : StopPoints) : Blocks :=
  { blocks .stopping with
    ds := { design with
      sew := 3
      records := design.records ++ [⟨k, 0, 0, if k = .color then 2 else 0, ⟨10, 0⟩, some 1⟩] }
    rc := { Rc.reset .stopping with stop := some ⟨some 2, 3, true, p⟩ } }

theorem test_hyp_AStopAtThePin :
    let b := stopped .stitch ⟨false, false, false, false, true, false⟩
    b.rc.stop = some ⟨some 2, 3, true, ⟨false, false, false, false, true, false⟩⟩
      ∧ b.fl.waiting = [] ∧ runIsOf b [.running, .stopping] ∧ b.fc.busy = false := by
  decide +kernel

theorem test_hyp_AStopAtAMark :
    let b := stopped .mark ⟨false, true, false, false, false, false⟩
    b.rc.stop = some ⟨some 2, 3, true, ⟨false, true, false, false, false, false⟩⟩
      ∧ b.rc.causes = ⟨false, false⟩ ∧ b.fc.busy = false ∧ b.ds.sew < b.ds.load
      ∧ b.ds.hasKind b.ds.sew .mark = true := by
  decide +kernel

theorem test_hyp_AStopAtAColor :
    let b := stopped .color ⟨true, false, false, false, false, false⟩
    let r : StoredRecord := ⟨.color, 0, 0, 2, ⟨10, 0⟩, some 1⟩
    b.rc.stop = some ⟨some 2, 3, true, ⟨true, false, false, false, false, false⟩⟩
      ∧ b.rc.causes = ⟨false, false⟩ ∧ b.fc.busy = false ∧ b.ds.record b.ds.sew = some r
      ∧ r.kind = .color ∧ planEntry [] r.slot = none
      ∧ planEntry b.tp r.slot = some ⟨2, [2, 2]⟩ ∧ Id8.num .n1 ≤ b.cf.config.headCount
      ∧ (b.hu.get .n1).state = .sewing ∧ (b.hu.get .n1).selector = .atNeedle 1
      ∧ ([2, 2] : List Nat)[Id8.num .n1 - 1]? = some 2 ∧ (1 : Nat) ≠ 2 := by
  decide +kernel

/-- A COLOR that every head stands at already, and the run that goes on behind it. -/
theorem test_hyp_AColorThatMovesNoSelector :
    let p : StopPoints := ⟨true, false, false, false, false, false⟩
    let b : Blocks := { blocks .stopping with ds := design }
    let a := b.advance
    let r : StoredRecord := ⟨.color, 0, 0, 1, ⟨0, 0⟩, some 1⟩
    ({ b with rc.stop := some ⟨some 0, 0, true, p⟩ } : Blocks).fc.busy = false
      ∧ b.rc.causes = ⟨false, false⟩ ∧ b.ds.record b.ds.sew = some r ∧ r.kind = .color
      ∧ planEntry b.tp r.slot = some ⟨1, [1, 1]⟩
      ∧ (∀ h : HeadId, h.num ≤ b.cf.config.headCount → (b.hu.get h).state = .sewing →
          ([1, 1] : List Nat)[h.num - 1]? = some 1 ∧ (b.hu.get h).selector = .atNeedle 1)
      ∧ mayStart a ∧ a.rc.slotInEffect = some 1 ∧ a.needlesDiffer 1 = false
      ∧ b.ds.sew < b.ds.load := by
  unfold mayStart
  refine ⟨by decide +kernel, by decide +kernel, by decide +kernel, by decide +kernel,
    by decide +kernel, ?_, by decide +kernel⟩
  intro h
  cases h <;> decide +kernel

/-- A run at the end of the pending records that goes on at once, its resume condition met. -/
theorem test_hyp_AHeldRunResumesAtOnce :
    let p : StopPoints := ⟨false, false, false, true, false, false⟩
    let b : Blocks := { blocks .stopping with
      ds := { design with sew := 1 }
      cf := ⟨true, config2, { Settings.default 2 with resumeMark := 1 }⟩ }
    p.mark = false ∧ p.color = false ∧ p.endRec = false ∧ p.endOfPending = true
      ∧ b.cf.settings.resumeMark ≤ b.ds.load - b.ds.sew ∧ mayStart b := by
  unfold mayStart
  decide +kernel

theorem test_hyp_AStopAtTheEnd :
    let b := stopped .endDesign ⟨false, false, true, false, false, false⟩
    b.rc.stop = some ⟨some 2, 3, true, ⟨false, false, true, false, false, false⟩⟩
      ∧ b.rc.causes = ⟨false, false⟩ ∧ b.fc.busy = false ∧ b.ds.sew < b.ds.load
      ∧ b.ds.hasKind b.ds.sew .endDesign = true := by
  decide +kernel

theorem test_hyp_PatchStopsAreResolved :
    let w : PatchWork := ⟨.n1, 1, 2, 2, some 1, ⟨false, false⟩, none⟩
    let stop : Stop := ⟨some 1, 2, false, ⟨false, false, false, false, false, true⟩⟩
    let b : Blocks := { working .patch (.patch w) with
      rc := { (working .patch (.patch w)).rc with stop := some stop } }
    b.rc.stop = some stop ∧ b.rc.op = some ⟨7#8, .paused (some .host), .patch w⟩
      ∧ b.rc.runState = .patch ∧ b.fc.busy = false ∧ w.causes = ⟨false, false⟩ ∧ w.p = w.b
      ∧ (⟨true, true⟩ : StopCauses).fault = true ∧ (blocks .idle).rc.runState ≠ .patch := by
  decide +kernel

/-- A patch run that ends early, its break before p, and one that stands at a COLOR. -/
theorem test_hyp_PatchesEndEarlyOrChange :
    (let w : PatchWork := ⟨.n1, 0, 3, 2, some 1, ⟨true, true⟩, some 1⟩
     w.causes.fault = true ∧ (match w.breakStart with
       | some a => if a < w.p then a else w.p
       | none => w.p) = 1)
      ∧ (let w : PatchWork := ⟨.n1, 0, 3, 2, some 1, ⟨true, false⟩, none⟩
         w.causes = ⟨true, false⟩)
      ∧ (let w : PatchWork := ⟨.n1, 0, 3, 0, none, ⟨false, false⟩, none⟩
         let b : Blocks := { working .patch (.patch w) with
           ds := { design with sew := 3 }, tp := [⟨1, [2, 1]⟩] }
         let r : StoredRecord := ⟨.color, 0, 0, 1, ⟨0, 0⟩, some 1⟩
         w.p ≠ w.b ∧ b.ds.record w.p = some r ∧ r.kind = .color
           ∧ planEntry b.tp r.slot = some ⟨1, [2, 1]⟩ ∧ w.head.num ≤ b.cf.config.headCount
           ∧ (b.hu.get w.head).selector = .atNeedle 1
           ∧ ([2, 1] : List Nat)[w.head.num - 1]? = some 2 ∧ (1 : Nat) ≠ 2
           ∧ planEntry [] r.slot = none) := by
  decide +kernel

theorem test_hyp_SelectorEventsMoveTheSelector :
    let c : Change := ⟨1, .recordDriven 0, (Eight.const false).set .n1 true, false, false⟩
    let b := changing .changing (.recordDriven 0) 0
    ({ seat with selector := .moving 3 1 2 } : Head).selector = .moving 3 1 2 ∧ 2 ≤ 2
      ∧ (b.hu.get .n1).selector = .moving 1 2 1 ∧ 1 ≤ 1 ∧ b.rc.change = some c
      ∧ (b.hu.get .n1).selTimer = some 800 ∧ runIsOf b [.changing, .patch]
      ∧ b.fl.waiting = [] ∧ b.fc.move = none
      ∧ seat.selector.busy = false ∧ seat.selector ≠ .homing ∧ seat.selTimer = none
      ∧ ({ seat with selector := .homing, selTimer := some 800 } : Head).selector = .homing
      ∧ (working .homing (.hhome .n1)).rc.op = some ⟨7#8, .paused (some .host), .hhome .n1⟩ := by
  decide +kernel

/-- Another selector of a change moves, at a pulse and at a timeout; or none is left to. -/
theorem test_hyp_AChangeIsCollected :
    (let b : Blocks := { changing .changing (.recordDriven 0) 0 with
        rc.change := some ⟨1, .recordDriven 0, Eight.const true, false, false⟩
        hu := Eight.const { seat with selector := .moving 1 2 1, selTimer := some 800 } }
     ((Eight.const true : Eight Bool).get .n2 = true
        ∧ ((selectorAtRest b .n1 (.atNeedle 1)).hu.get .n2).selector = .moving 1 2 1
        ∧ (((selectorAtRest b .n1 .jammed).take (.selectorChange .n1 1 1 (.recordDriven 0))).hu.get
            .n2).selector = .moving 1 2 1))
    ∧ (selectorAtRest (blocks .idle) .n1 (.atNeedle 1)).rc.change = none
    ∧ (let b := changing .patch (.recordDriven 0) 0
       b.rc.runState = .patch
         ∧ b.changeMoving ⟨1, .recordDriven 0, (Eight.const false).set .n1 true, false, false⟩ = true
         ∧ (selectorAtRest b .n1 .jammed).changeMoving
            ⟨1, .recordDriven 0, (Eight.const false).set .n1 true, false, false⟩ = false) := by
  decide +kernel

/-- HOME goes on with an outcome, or ends with the last, from each base state of R88. -/
theorem test_hyp_HomeCollects :
    let two : HomeWork := ⟨true, Eight.const true, some .homed, some .homeFail, Eight.const false⟩
    let one : HomeWork := { two with await := (Eight.const false).set .n1 true }
    let b (base : BaseState) (w : HomeWork) : Blocks :=
      { blocks .homing with
        rc.op := some ⟨7#8, base, .home w⟩
        hu := (blocks .homing).hu.set .n1
          { seat with selector := .homing, selTimer := some 800 } }
    ((b .idle one).hu.get .n1).selector = .homing ∧ ((b .idle one).hu.get .n1).selTimer = some 800
      ∧ (b .idle one).rc.op = some ⟨7#8, .idle, .home one⟩ ∧ (b .idle one).fl.waiting = []
      ∧ two.await.set .n1 false ≠ Eight.const false
      ∧ one.await.set .n1 false = Eight.const false
      ∧ one.second = true ∧ one.xOutcome ≠ none ∧ one.yOutcome ≠ none
      ∧ BaseState.idle ≠ .halted ∧ (b .halted one).sc.state = .stopped ∧ axesReady (b .halted one)
      ∧ (b .halted one).rc.runExists = false
      ∧ ({ b .halted one with rc.runExists := true } : Blocks).rc.runExists = true
      ∧ ¬ axesReady { b .halted one with fc.y := AxisRec.unhomed } := by
  decide +kernel

/-- A timeout of a change meets a head flagged already, ISOLATE, and STOP_ALL. -/
theorem test_hyp_ATimeoutIsTaken :
    let b := changing .changing (.recordDriven 0) 0
    let i : Blocks := { b with cf.settings.policy := .isolate, cf.settings.isolationLimit := 1 }
    let cond : Condition := .selectorChange .n1 1 1 (.recordDriven 0)
    isolates i .n1 cond ∧ ¬ isolates b .n1 cond ∧ (b.hu.get .n1).faultFlag = false
      ∧ (i.hu.get .n1).faultFlag = false
      ∧ ({ seat with faultFlag := true } : Head).faultFlag = true
      ∧ b.rc.runState = .changing
      ∧ ((selectorAtRest i .n1 .jammed).take cond).rc.change = b.rc.change
      ∧ ((selectorAtRest i .n1 .jammed).take cond).changeMoving
          ⟨1, .recordDriven 0, (Eight.const false).set .n1 true, false, false⟩ = false
      ∧ ((selectorAtRest b .n1 .jammed).take cond).rc.change
          = some ⟨1, .recordDriven 0, (Eight.const false).set .n1 true, true, false⟩ := by
  unfold isolates
  refine ⟨⟨?_, ?_, ⟨.n2, ?_, ?_, ?_⟩, ?_, ?_⟩, fun h => absurd h.1 ?_, ?_⟩ <;> decide +kernel

/-- The last selector of a change stands, or jams under ISOLATE, and the run may go on. -/
theorem test_hyp_AChangeEnds :
    let moved : Eight Bool := (Eight.const false).set .n1 true
    let ended (b : Blocks) : Blocks := { b with
      rc.change := none
      tm := Eight.tabulate (fun g =>
        if moved.get g then { b.tm.get g with owed := true } else b.tm.get g) }
    let stands (k : ChangeKind) (i : Nat) : Blocks :=
      ended (selectorAtRest (changing .changing k i) .n1 (.atNeedle 1))
    let jams (k : ChangeKind) (i : Nat) : Blocks :=
      ended ((selectorAtRest { changing .changing k i with
        cf.settings.policy := .isolate, cf.settings.isolationLimit := 1 } .n1 .jammed).take
          (.selectorChange .n1 1 1 k))
    let passed (b : Blocks) : Blocks :=
      { b.advance with ru.pend := b.advance.ru.pend ||| (0b010000#6 &&& ~~~b.advance.ru.kindMask) }
    (∀ b ∈ [stands (.reconciliation 1) 1, jams (.reconciliation 1) 1], mayStart b)
      ∧ (∀ b ∈ [stands (.recordDriven 0) 0, jams (.recordDriven 0) 0],
          mayStart (passed b) ∧ (passed b).rc.slotInEffect = some 1
            ∧ (passed b).needlesDiffer 1 = false ∧ b.ds.sew < b.ds.load)
      ∧ (⟨1, .recordDriven 0, moved, true, false⟩ : Change).stopAll = true
      ∧ (⟨1, .recordDriven 0, moved, false, true⟩ : Change).paused = true := by
  unfold mayStart
  decide +kernel

/-- The change of a patch run ends, and the patch run may go on at the record after its COLOR. -/
theorem test_hyp_APatchChangeEnds :
    let w : PatchWork := ⟨.n1, 0, 3, 0, none, ⟨false, false⟩, none⟩
    let b : Blocks := { selectorAtRest (changing .patch (.recordDriven 0) 3) .n1 (.atNeedle 1) with
      rc.op := some ⟨7#8, .paused (some .host), .patch w⟩ }
    b.rc.runState = .patch ∧ b.rc.op = some ⟨7#8, .paused (some .host), .patch w⟩
      ∧ b.ds.record 1 = some ⟨.stitch, 5, 0, 0, ⟨5, 0⟩, some 1⟩
      ∧ RecordKind.stitch ≠ .mark ∧ RecordKind.stitch ≠ .color ∧ 1 ≠ w.b
      ∧ b.sc.state = .stopped ∧ b.selectorMoving = false ∧ axesReady b ∧ b.fc.busy = false
      ∧ b.planK (.patch w.b) 1 ≠ 0 := by
  decide +kernel

/-- No other selector of that change moves. -/
theorem test_hyp_TheLastSelectorOfAChange :
    ¬ stillMoving (selectorAtRest (changing .changing (.recordDriven 0) 0) .n1 (.atNeedle 1))
      ⟨1, .recordDriven 0, (Eight.const false).set .n1 true, false, false⟩ := by
  rintro ⟨g, _, _, _, hg, hs⟩
  cases g <;> first
    | exact absurd hg (by decide)
    | exact absurd hs (by simp [selectorAtRest, withHead, Eight.get, Eight.set])

theorem test_hyp_AxisInputsAreTaken :
    let w : HomeWork := ⟨true, Eight.const false, none, some .homed, Eight.const false⟩
    let b : Blocks := { working .homing (.home w) with fc.x := AxisRec.seeking }
    State.reset.blk.cf.lock = false
      ∧ AxisRec.unhomed.state ∈ ([.unhomed, .fault] : List AxisState)
      ∧ ((blocks .idle).fc.axis .x).state ∈ ([.ready, .moving] : List AxisState)
      ∧ ((blocks .idle).fc.axis .x).pos = some ((blocks .idle).axisConfig .x).homeOffset
      ∧ (readyAt 1).pos ≠ some ((blocks .idle).axisConfig .x).homeOffset
      ∧ (blocks .idle).cf.lock = true ∧ (blocks .idle).fl.waiting = []
      ∧ (b.fc.axis .x).state = .homing ∧ b.rc.op = some ⟨7#8, .paused (some .host), .home w⟩
      ∧ (Eight.const true : Eight Bool) ≠ Eight.const false
      ∧ w.second = true ∧ w.await = Eight.const false ∧ w.failed = Eight.const false
      ∧ (w.setAxis .x .homed).xOutcome = some .homed ∧ (w.setAxis .x .homed).yOutcome = some .homed
      ∧ AxisRec.faulted.state = .fault ∧ (b.fc.axis .x).state ≠ .fault := by
  decide +kernel

theorem test_hyp_FrameMovesEnd :
    (blocks .idle).fc.move = none
      ∧ (let b : Blocks := { blocks .running with fc.move := some ⟨.cycle 1, false⟩ }
         b.fc.move = some ⟨.cycle 1, false⟩ ∧ b.fc.waiting = [])
      ∧ (let b : Blocks := { working .moving .move with fc.move := some ⟨.manual, false⟩ }
         b.fc.move = some ⟨.manual, false⟩ ∧ b.rc.op = some ⟨7#8, .paused (some .host), .move⟩)
      ∧ (let w : RepoWork := ⟨true, 0, false⟩
         let b : Blocks := { working .reposition (.repo w) with fc.move := some ⟨.step, false⟩ }
         b.fc.move = some ⟨.step, false⟩ ∧ w.stepsLeft = 0)
      ∧ (let b : Blocks := { blocks .travel with
          ds := { design with sew := 1 }, fc.move := some ⟨.returnTravel, false⟩ }
         b.fc.move = some ⟨.returnTravel, false⟩ ∧ b.rc.runState = .travel ∧ b.fc.waiting = []
           ∧ ({ b.fc with x := b.fc.x.arrive, y := b.fc.y.arrive, move := none } : Fc).ready = true
           ∧ b.sc.state = .stopped ∧ b.selectorMoving = false ∧ b.planK .run b.ds.sew ≠ 0
           ∧ b.rc.slotInEffect = none ∧ b.needlesDiffer 1 = false)
      ∧ (let b : Blocks := { working .moving .move with fc.move := some ⟨.manual, true⟩ }
         b.fc.move = some ⟨.manual, true⟩)
      ∧ (let b : Blocks := { blocks .travel with fc.move := some ⟨.returnTravel, true⟩ }
         b.fc.move = some ⟨.returnTravel, true⟩ ∧ b.rc.runState = .travel) := by
  decide +kernel

/-- A cycle move waits at a completion, for elsewhere and for where the frame stands. -/
theorem test_hyp_ACycleMoveThatWaits :
    let m : CycleMove := ⟨2, ⟨10, 0⟩⟩
    let f : Fc := { (blocks .running).fc with
      x := movingTo 5, move := some ⟨.cycle 1, false⟩, waiting := [m] }
    let stands : Fc := { f with x := movingTo 10 }
    f.move = some ⟨.cycle 1, false⟩ ∧ f.waiting = m :: [] ∧ f.x.arrive.state = .ready
      ∧ f.y.arrive.state = .ready ∧ f.x.arrive.pos ≠ some 10 ∧ stands.x.arrive.pos = some 10
      ∧ stands.y.arrive.pos = some 0 := by
  decide +kernel

/-- The end of a step or of return travel in REPOSITION: the next step moves the frame, or none, or fails. -/
theorem test_hyp_TheNextStep :
    let w (forward : Bool) : RepoWork := ⟨forward, 1, false⟩
    let b (forward : Bool) (sew : Nat) (owner : MoveOwner) : Blocks :=
      { working .reposition (.repo (w forward)) with
        ds := { design with sew := sew }, fc.move := some ⟨owner, false⟩ }
    let at1 : Blocks := { b true 1 .step with fc.move := none }
    ((b true 1 .step).rc.op = some ⟨7#8, .paused (some .host), .repo (w true)⟩
      ∧ (b true 1 .returnTravel).rc.runState = .reposition ∧ (w true).stepsLeft = 0 + 1)
      ∧ ((b true 3 .step).ds.load ≤ (b true 3 .step).ds.sew
        ∧ (b false 0 .step).ds.sew ≤ (b false 0 .step).ds.tail)
      ∧ ((b true 1 .step).ds.sew < (b true 1 .step).ds.load
        ∧ (b false 2 .step).ds.tail < (b false 2 .step).ds.sew)
      ∧ (at1.advance.ds.posBefore 2 = some ⟨5, 0⟩ ∧ standsOff at1 ⟨5, 0⟩
        ∧ ¬ standsOff { at1 with fc.x := readyAt 5 } ⟨5, 0⟩)
      ∧ ({ at1.fc with x := AxisRec.unhomed } : Fc).ready = false
      ∧ ({ working .reposition (.repo (w true)) with
          fc.move := some ⟨.returnTravel, true⟩ } : Blocks).fc.move = some ⟨.returnTravel, true⟩ := by
  decide +kernel

/-- Return travel ends where the needles differ: at a COLOR, and for the slot in effect. -/
theorem test_hyp_ReturnTravelThatLeadsToAChange :
    let b (sew : Nat) : Blocks := { blocks .travel with
      ds := { design with sew := sew }, tp := [⟨1, [2, 1]⟩], rc.slotInEffect := some 1
      fc.move := some ⟨.returnTravel, false⟩ }
    let r : StoredRecord := ⟨.color, 0, 0, 1, ⟨0, 0⟩, some 1⟩
    (b 0).ds.record (b 0).ds.sew = some r ∧ r.kind = .color ∧ r.slot = 1
      ∧ (b 1).ds.hasKind (b 1).ds.sew .color = false ∧ (b 1).rc.slotInEffect = some 1
      ∧ planEntry (b 1).tp 1 = some ⟨1, [2, 1]⟩ ∧ Id8.num .n1 ≤ (b 1).cf.config.headCount
      ∧ ((b 1).hu.get .n1).state = .sewing ∧ ((b 1).hu.get .n1).selector = .atNeedle 1
      ∧ ([2, 1] : List Nat)[Id8.num .n1 - 1]? = some 2 ∧ (1 : Nat) ≠ 2 := by
  decide +kernel

/-- Patch travel ends: with no plan, before a change, at the needle, with no slot, and stopped. -/
theorem test_hyp_PatchTravelEnds :
    let w (slot : Option Nat) (p : Nat) : PatchWork := ⟨.n1, p, 3, p, slot, ⟨false, true⟩, some 1⟩
    let b (slot : Option Nat) (p : Nat) : Blocks :=
      { working .patch (.patch (w slot p)) with
        ds := { design with sew := 3 }, fc.move := some ⟨.patchTravel, false⟩ }
    let rest : Blocks := { b (some 1) 1 with fc.move := none }
    let r : StoredRecord := ⟨.color, 0, 0, 1, ⟨0, 0⟩, some 1⟩
    (b (some 1) 1).rc.op = some ⟨7#8, .paused (some .host), .patch (w (some 1) 1)⟩
      ∧ (b none 0).rc.runState = .patch
      ∧ ((w (some 3) 1).slot = some 3 ∧ planEntry (b (some 3) 1).tp 3 = none)
      ∧ ((w none 0).slot = none ∧ (w none 0).p ≠ (w none 0).b
        ∧ (b none 0).ds.record 0 = some r ∧ r.kind = .color ∧ r.slot = 1)
      ∧ (planEntry (b (some 2) 1).tp 2 = some ⟨2, [2, 2]⟩
        ∧ (w (some 2) 1).head.num ≤ (b (some 2) 1).cf.config.headCount
        ∧ ((b (some 2) 1).hu.get .n1).selector = .atNeedle 1
        ∧ ([2, 2] : List Nat)[Id8.num .n1 - 1]? = some 2 ∧ (1 : Nat) ≠ 2)
      ∧ (planEntry rest.tp 1 = some ⟨1, [1, 1]⟩ ∧ ([1, 1] : List Nat)[Id8.num .n1 - 1]? = some 1
        ∧ rest.ds.record 1 = some ⟨.stitch, 5, 0, 0, ⟨5, 0⟩, some 1⟩ ∧ (w (some 1) 1).p ≠ 3
        ∧ rest.sc.state = .stopped ∧ rest.selectorMoving = false ∧ axesReady rest
        ∧ rest.fc.busy = false ∧ rest.planK (.patch 3) 1 ≠ 0)
      ∧ ({ b none 0 with fc.move := some ⟨.patchTravel, true⟩ } : Blocks).fc.move
        = some ⟨.patchTravel, true⟩
      ∧ (w none 0).causes.fault = true := by
  decide +kernel

theorem test_hyp_TheLastStepOfAnAxis :
    (readyAt 0).state ≠ .moving ∧ (movingTo 1).state = .moving ∧ (movingTo 1).target = some 1
      ∧ (movingTo 1).pos = some 0 ∧ (0 : Int) ≠ 1
      ∧ AxisRec.seeking.state = .homing
      ∧ (readyAt 0).state ∉ ([.moving, .homing] : List AxisState)
      ∧ ({ Fc.reset with move := some ⟨.manual, false⟩ } : Fc).stopAsked = false
      ∧ ({ Fc.reset with move := some ⟨.manual, true⟩ } : Fc).stopAsked = true := by
  decide

end Sys2Proof.Tests
end

section
/-!
SUPPORT. What the operations of a run do to the store (R1, R5, R22, R23): they move its pointers and
release its tail, and so keep its law, its channel and its load point.
-/

namespace Sys2Proof.Machine

/-! ## Stores that moves and releases lead to -/

/-- What advances, steps and releases keep of a store: its law, its channel and its load point. -/
structure Ds.Moved (d d' : Ds) : Prop where
  lawful : d.lawful → d'.lawful
  channel : d'.channel = d.channel
  load : d'.load = d.load

@[simp] theorem Ds.Moved.refl (d : Ds) : d.Moved d := ⟨id, rfl, rfl⟩

theorem Ds.Moved.trans {d e f : Ds} (h : d.Moved e) (k : e.Moved f) : d.Moved f :=
  ⟨k.lawful ∘ h.lawful, k.channel.trans h.channel, k.load.trans h.load⟩

variable {d : Ds} {b : Blocks}

@[simp] theorem Blocks.moved_releaseTest (h : d.Moved b.ds) : d.Moved b.releaseTest.ds :=
  h.trans ⟨b.releaseTest_lawful, by simp, by simp⟩

@[simp] theorem Blocks.moved_advance (h : d.Moved b.ds) : d.Moved b.advance.ds :=
  h.trans ⟨b.advance_lawful, by simp, by simp⟩

theorem Ds.moved_stepBack (d : Ds) : d.Moved d.stepBack := by
  refine ⟨d.lawful_stepBack, ?_, ?_⟩ <;> unfold Ds.stepBack <;> split <;> rfl

@[simp] theorem Blocks.moved_setRanges (h : d.Moved b.ds) (rt : Eight (List Range)) :
    d.Moved (b.setRanges rt).ds :=
  h.trans ⟨b.setRanges_lawful rt, by simp, by simp⟩

@[simp] theorem Blocks.moved_closeRange (h : d.Moved b.ds) (g : HeadId) (s : Nat) :
    d.Moved (b.closeRange g s).ds := by
  simp [Blocks.closeRange, h]

theorem Blocks.moved_moveSew {b' : Blocks} {forward : Bool} (h : d.Moved b.ds)
    (hb : b.moveSew forward = some b') : d.Moved b'.ds := by
  unfold Blocks.moveSew at hb
  split_ifs at hb <;> cases hb
  · exact Blocks.moved_advance h
  · exact h.trans b.ds.moved_stepBack

@[simp] theorem Blocks.moved_patchSettle (h : d.Moved b.ds) (w : PatchWork) (start : Nat) :
    d.Moved (b.patchSettle w start).ds := by
  simp [Blocks.patchSettle, h]

@[simp] theorem Blocks.moved_patchEnd (h : d.Moved b.ds) (w : PatchWork) (r : OpResult)
    (start : Nat) : d.Moved (b.patchEnd w r start).ds := by
  simp [Blocks.patchEnd, h]

@[simp] theorem Blocks.moved_patchStopped (h : d.Moved b.ds) (w : PatchWork) :
    d.Moved (b.patchStopped w).ds := by
  simp [Blocks.patchStopped, h]

/-! ## The halt and the outcomes of faults -/

@[simp] theorem Blocks.moved_haltRun (h : d.Moved b.ds) : d.Moved b.haltRun.ds := by
  unfold Blocks.haltRun; dsimp only; split <;> simp [h]

@[simp] theorem Blocks.moved_halt (h : d.Moved b.ds) : d.Moved b.halt.ds := by
  simp [Blocks.halt, h]

@[simp] theorem Blocks.moved_patchInterrupt (h : d.Moved b.ds) (w : PatchWork) (fault : Bool) :
    d.Moved (b.patchInterrupt w fault).ds := by
  unfold Blocks.patchInterrupt; dsimp only; repeat' split
  case h_3.isFalse.isFalse => exact Blocks.moved_patchStopped (b := b.setWork _) h _
  all_goals simp [h]

@[simp] theorem Blocks.moved_stopAll (h : d.Moved b.ds) : d.Moved b.stopAll.ds := by
  unfold Blocks.stopAll; repeat' split
  all_goals simp [h]

@[simp] theorem Blocks.moved_isolate (h : d.Moved b.ds) (g : HeadId) (c : Condition) :
    d.Moved (b.isolate g c).ds := by
  unfold Blocks.isolate; dsimp only; split <;> simp [h]

@[simp] theorem Blocks.moved_handIsolate (h : d.Moved b.ds) (c : Condition) :
    d.Moved (b.handIsolate c).ds := by
  unfold Blocks.handIsolate; split <;> simp [h]

@[simp] theorem Blocks.moved_handStopAll (h : d.Moved b.ds) (c : Condition) :
    d.Moved (b.handStopAll c).ds := by
  unfold Blocks.handStopAll; repeat' split
  all_goals simp [h]

@[simp] theorem Blocks.moved_take (h : d.Moved b.ds) (c : Condition) : d.Moved (b.take c).ds := by
  unfold Blocks.take; dsimp only; repeat' split
  all_goals simp [h]

@[simp] theorem Blocks.moved_takeAll (h : d.Moved b.ds) (cs : List Condition) :
    d.Moved (b.takeAll cs).ds :=
  Blocks.takeAll_keeps (P := fun x => d.Moved x.ds) (fun _ c hx => Blocks.moved_take hx c) cs b h

@[simp] theorem Blocks.moved_report (h : d.Moved b.ds) (cs : List Condition) :
    d.Moved (b.report cs).ds := by
  unfold Blocks.report; split <;> simp [h]

@[simp] theorem Blocks.moved_raiseAll (h : d.Moved b.ds) (cs : List Condition) :
    d.Moved (b.raiseAll cs).ds := by
  unfold Blocks.raiseAll; split <;> simp [h]

/-! ## The stitch cycle -/

@[simp] theorem Blocks.moved_giveEntry (h : d.Moved b.ds) (c : Cycle) :
    d.Moved (b.giveEntry c).ds := by
  simp [Blocks.giveEntry, Blocks.needleEntry, h]

@[simp] theorem Blocks.trimPoint_ds (b : Blocks) (c : Cycle) : (b.trimPoint c).ds = b.ds := rfl

@[simp] theorem Blocks.moved_eventsAtIndex (h : d.Moved b.ds) (c : Cycle) :
    d.Moved (b.eventsAtIndex c).ds := by
  unfold Blocks.eventsAtIndex; dsimp only; repeat' split
  all_goals simp [h]

theorem Blocks.lowerBobbinOf_ds (i : Nat) (acc : Blocks × List Condition) (g : HeadId) :
    (Blocks.lowerBobbinOf i acc g).1.ds = acc.1.ds := by
  unfold Blocks.lowerBobbinOf; dsimp only; repeat' split
  all_goals simp

theorem Blocks.closeWindowOf_ds (plan : PlanMode) (c : Cycle) (acc : Blocks × List Condition)
    (g : HeadId) : (Blocks.closeWindowOf plan c acc g).1.ds = acc.1.ds := by
  unfold Blocks.closeWindowOf; dsimp only; repeat' split
  all_goals simp

/-- A fold of operations that leave the store alone leaves it alone. -/
theorem Blocks.foldl_ds {α β : Type} {f : Blocks × β → α → Blocks × β}
    (hf : ∀ acc a, (f acc a).1.ds = acc.1.ds) (l : List α) (acc : Blocks × β) :
    (l.foldl f acc).1.ds = acc.1.ds := by
  induction l generalizing acc with
  | nil => rfl
  | cons a l ih => exact (ih _).trans (hf acc a)

@[simp] theorem Blocks.lowerBobbins_ds (i : Nat) (l : List HeadId)
    (acc : Blocks × List Condition) : (l.foldl (Blocks.lowerBobbinOf i) acc).1.ds = acc.1.ds :=
  Blocks.foldl_ds (Blocks.lowerBobbinOf_ds i) l acc

@[simp] theorem Blocks.closeWindows_ds (plan : PlanMode) (c : Cycle) (l : List HeadId)
    (acc : Blocks × List Condition) :
    (l.foldl (Blocks.closeWindowOf plan c) acc).1.ds = acc.1.ds :=
  Blocks.foldl_ds (Blocks.closeWindowOf_ds plan c) l acc

@[simp] theorem Blocks.moved_countSewn (h : d.Moved b.ds) (plan : PlanMode) (c : Cycle) :
    d.Moved (b.countSewn plan c).ds := by
  unfold Blocks.countSewn; repeat' split
  all_goals simp [h]

@[simp] theorem Blocks.cycleStart_ds (b : Blocks) (plan : PlanMode) (i : Nat) (r : StoredRecord)
    (v : Nat) : (b.cycleStart plan i r v).ds = b.ds := rfl

@[simp] theorem Blocks.comeToRest_ds (b : Blocks) (plan : PlanMode) (n i : Nat) :
    (b.comeToRest plan n i).ds = b.ds := rfl

@[simp] theorem Blocks.decideNext_ds (b : Blocks) (plan : PlanMode) (c : Cycle) :
    (b.decideNext plan c).ds = b.ds := by
  unfold Blocks.decideNext; dsimp only; repeat' split
  all_goals simp

@[simp] theorem Blocks.moved_endCycle (h : d.Moved b.ds) (choice : Nat → Nat) (ns : Nat)
    (plan : PlanMode) (c : Cycle) : d.Moved (Blocks.endCycle choice ns plan c b).ds := by
  unfold Blocks.endCycle
  extract_lets given counted lowered empties firstOnes taken closed judged late rest moment _ done
    sewn decided ended _
  have hlowered : d.Moved lowered.1.ds := by
    have hgiven := Blocks.moved_eventsAtIndex h c
    unfold lowered
    split
    · rw [Blocks.lowerBobbins_ds]; exact hgiven
    · exact hgiven
  have hclosed : d.Moved closed.1.ds := by
    rw [Blocks.closeWindows_ds]
    exact Blocks.moved_report hlowered _
  have hsewn : d.Moved sewn.ds := Blocks.moved_countSewn (b := done) hclosed plan c
  have hdecided : d.Moved decided.ds := by
    rw [Blocks.decideNext_ds]
    exact Blocks.moved_report hsewn _
  have hended : d.Moved ended.ds := Blocks.moved_report hdecided _
  split
  · exact hended
  · exact Blocks.moved_report hended _

@[simp] theorem Blocks.startRequest_ds (b : Blocks) (plan : PlanMode) (i : Nat) :
    (b.startRequest plan i).1.ds = b.ds := by
  unfold Blocks.startRequest; dsimp only; repeat' split
  all_goals simp

/-! ## The stages of RC's work -/

theorem Blocks.beginChange_ds {b b' : Blocks} {slot : Nat} {scope : HeadId → Bool}
    {kind : ChangeKind} (h : b.beginChange slot scope kind = some b') : b'.ds = b.ds := by
  unfold Blocks.beginChange at h
  split at h <;> cases h
  rfl

theorem Blocks.travel_ds {b b' : Blocks} {o : MoveOwner} {rel : Option Pos}
    (h : b.travel o rel = some b') : b'.ds = b.ds := by
  unfold Blocks.travel at h
  split at h
  · split_ifs at h; cases h; rfl
  · cases h

@[simp] theorem Blocks.pauseFor_ds (b : Blocks) (c : PauseCause) : (b.pauseFor c).ds = b.ds := by
  simp [Blocks.pauseFor]

@[simp] theorem Blocks.moved_passEnd (h : d.Moved b.ds) : d.Moved b.passEnd.ds := by
  simp [Blocks.passEnd, h]

@[simp] theorem Blocks.moved_sequencePhase (h : d.Moved b.ds) : d.Moved b.sequencePhase.1.ds := by
  unfold Blocks.sequencePhase
  extract_lets _ start travelling
  have htravelling : d.Moved travelling.ds := by
    unfold travelling start
    split <;> simpa using h
  split
  · exact Blocks.moved_passEnd h
  · split
    · exact Blocks.moved_advance h
    · split
      · split
        · simpa using htravelling
        · next ht =>
          have hds := Blocks.travel_ds ht
          split <;> simpa [hds] using htravelling
      · unfold start
        split <;> exact h

@[simp] theorem Blocks.moved_noPlanStop (h : d.Moved b.ds) (slot i : Nat) :
    d.Moved (b.noPlanStop slot i).ds := by
  unfold Blocks.noPlanStop; dsimp only; split <;> simp [h]

@[simp] theorem Blocks.moved_changePhase (h : d.Moved b.ds) (slot : Nat) (scope : HeadId → Bool)
    (kind : ChangeKind) : d.Moved (b.changePhase slot scope kind).1.ds := by
  unfold Blocks.changePhase
  split
  · simp [h]
  · next hb => simpa [Blocks.beginChange_ds hb] using h

@[simp] theorem Blocks.moved_reconcilePhase (h : d.Moved b.ds) :
    d.Moved b.reconcilePhase.1.ds := by
  unfold Blocks.reconcilePhase; repeat' split
  all_goals simp [h]

@[simp] theorem Blocks.oweParticipants_ds (b : Blocks) : b.oweParticipants.ds = b.ds := rfl

@[simp] theorem Blocks.startPhase_ds (b : Blocks) : b.startPhase.1.ds = b.ds := by
  unfold Blocks.startPhase; dsimp only; repeat' split
  all_goals simp

@[simp] theorem Blocks.moved_resolvePhase (h : d.Moved b.ds) (causes : StopCauses)
    (p : StopPoints) : d.Moved (b.resolvePhase causes p).1.ds := by
  unfold Blocks.resolvePhase; dsimp only; repeat' split
  all_goals simp [h]

@[simp] theorem Blocks.oweMoved_ds (b : Blocks) (c : Change) : (b.oweMoved c).ds = b.ds := rfl

@[simp] theorem Blocks.patchChangeDone_ds (b : Blocks) (w : PatchWork) (c : Change) :
    (b.patchChangeDone w c).ds = b.ds := by
  unfold Blocks.patchChangeDone; dsimp only; split <;> simp

@[simp] theorem Blocks.moved_changeCheckPhase (h : d.Moved b.ds) :
    d.Moved b.changeCheckPhase.1.ds := by
  unfold Blocks.changeCheckPhase
  split
  · exact h
  · split
    · exact h
    · dsimp only
      split
      · repeat' split
        all_goals simp [h]
      · repeat' split
        case h_1 => exact Blocks.moved_advance (b := Blocks.oweMoved _ _) h
        all_goals simp [h]

@[simp] theorem Blocks.moved_stepPhase (h : d.Moved b.ds) : d.Moved b.stepPhase.1.ds := by
  unfold Blocks.stepPhase
  split
  · split
    · simp [h]
    · split
      · simp [h]
      · split
        · simp [h]
        · next hm =>
          have hd := Blocks.moved_moveSew h hm
          split
          · simp [hd]
          · next ht => simpa [Blocks.travel_ds ht] using hd
  · exact h

@[simp] theorem Blocks.moved_patchTestPhase (h : d.Moved b.ds) :
    d.Moved b.patchTestPhase.1.ds := by
  unfold Blocks.patchTestPhase
  split
  · exact h
  · extract_lets w set asked
    have hset : d.Moved set.ds := h
    have hasked : d.Moved asked.1.ds := by rw [Blocks.startRequest_ds]; exact hset
    split
    · exact Blocks.moved_patchEnd hset _ _ _
    · split
      · exact Blocks.moved_changePhase hset _ _ _
      · split
        · exact hasked
        · exact Blocks.moved_patchEnd hasked _ _ _

theorem Blocks.moved_phase (h : d.Moved b.ds) (p : Phase) : d.Moved (b.phase p).1.ds := by
  cases p <;> simp [Blocks.phase, h]

theorem Blocks.moved_follow (n : Nat) (p : Phase) (b : Blocks) (h : d.Moved b.ds) :
    d.Moved (Blocks.follow n p b).ds := by
  induction n generalizing p b with
  | zero => exact h
  | succ n ih =>
    unfold Blocks.follow
    dsimp only
    split
    · exact Blocks.moved_phase h p
    · exact ih _ _ (Blocks.moved_phase h p)

@[simp] theorem Blocks.moved_go (h : d.Moved b.ds) (p : Phase) : d.Moved (b.go p).ds :=
  Blocks.moved_follow _ p b h

@[simp] theorem Blocks.moved_heldTest (h : d.Moved b.ds) : d.Moved b.heldTest.ds := by
  unfold Blocks.heldTest; split <;> simp [h]

end Sys2Proof.Machine
end

section
/-!
SUPPORT. What homing, the owners' answers and the events do to the store: all but CFG, DOPEN, DDATA,
DUNST, DABT and CLOSE only move it.
-/

namespace Sys2Proof.Machine

variable {d : Ds} {b : Blocks}

/-! ## Homing -/

@[simp] theorem Blocks.modHome_ds (b : Blocks) (f : HomeWork → HomeWork) :
    (b.modHome f).ds = b.ds := by
  unfold Blocks.modHome; split <;> simp

@[simp] theorem Blocks.beginAxisHoming_ds (b : Blocks) (ax : Axis) :
    (b.beginAxisHoming ax).ds = b.ds := by
  unfold Blocks.beginAxisHoming; dsimp only; repeat' split
  all_goals simp

@[simp] theorem Blocks.endHome_ds (b : Blocks) (r : OpResult) (f : OpFailures) :
    (b.endHome r f).ds = b.ds := by
  unfold Blocks.endHome; repeat' split
  all_goals simp

@[simp] theorem Blocks.homeCheck_ds (b : Blocks) : b.homeCheck.ds = b.ds := by
  unfold Blocks.homeCheck; repeat' split
  all_goals simp

@[simp] theorem Blocks.homeSecond_ds (b : Blocks) : b.homeSecond.ds = b.ds := by
  simp [Blocks.homeSecond]

@[simp] theorem Blocks.homeFirst_ds (b : Blocks) : b.homeFirst.ds = b.ds := by
  unfold Blocks.homeFirst; split <;> simp

@[simp] theorem Blocks.moved_findFailed (h : d.Moved b.ds) : d.Moved b.findFailed.ds := by
  simp [Blocks.findFailed, h]

@[simp] theorem Blocks.selectorHomed_ds (b : Blocks) (g : HeadId) :
    (b.selectorHomed g).ds = b.ds := by
  unfold Blocks.selectorHomed; dsimp only; repeat' split
  all_goals simp

@[simp] theorem Blocks.moved_selectorHomingFailed (h : d.Moved b.ds) (g : HeadId) :
    d.Moved (b.selectorHomingFailed g).ds := by
  have reported : d.Moved ((b.modHead g (fun u =>
      { u with selector := .jammed, selTimer := none })).report [.selectorHoming g]).ds :=
    Blocks.moved_report (b := b.modHead g _) h _
  unfold Blocks.selectorHomingFailed
  dsimp only
  repeat' split
  all_goals simp [reported]

/-! ## Events -/

@[simp] theorem Blocks.moved_stall (h : d.Moved b.ds) : d.Moved b.stall.ds := by
  simp [Blocks.stall, h]

@[simp] theorem Blocks.moved_angleEvents (h : d.Moved b.ds) : d.Moved b.angleEvents.ds := by
  unfold Blocks.angleEvents; repeat' split
  all_goals simp [h]

@[simp] theorem Blocks.moved_encoderCount (h : d.Moved b.ds) : d.Moved b.encoderCount.ds := by
  unfold Blocks.encoderCount; repeat' split
  all_goals simp [h]

@[simp] theorem Blocks.moved_countOverflow (h : d.Moved b.ds) : d.Moved b.countOverflow.ds := by
  unfold Blocks.countOverflow; split <;> simp [h]

@[simp] theorem Blocks.moved_findExhausted (h : d.Moved b.ds) : d.Moved b.findExhausted.ds := by
  unfold Blocks.findExhausted; split <;> simp [h]

@[simp] theorem Blocks.moved_stallExpiry (h : d.Moved b.ds) : d.Moved b.stallExpiry.ds := by
  unfold Blocks.stallExpiry; split <;> simp [h]

@[simp] theorem Blocks.moved_indexPulse (h : d.Moved b.ds) (ns : Nat) :
    d.Moved (b.indexPulse ns).ds := by
  unfold Blocks.indexPulse; repeat' split
  all_goals simp [h]

@[simp] theorem Blocks.feedPulse_ds (b : Blocks) (g : HeadId) : (b.feedPulse g).ds = b.ds := by
  unfold Blocks.feedPulse; split <;> simp

@[simp] theorem Blocks.moved_resolveStop (h : d.Moved b.ds) : d.Moved b.resolveStop.ds := by
  unfold Blocks.resolveStop; repeat' split
  all_goals simp [h]

@[simp] theorem Blocks.moved_resolvePatchStop (h : d.Moved b.ds) :
    d.Moved b.resolvePatchStop.ds := by
  unfold Blocks.resolvePatchStop; repeat' split
  all_goals simp [h]

@[simp] theorem Blocks.estopLevel_ds (b : Blocks) (a : Bool) : (b.estopLevel a).ds = b.ds := rfl

@[simp] theorem Blocks.moved_estopRecognised (h : d.Moved b.ds) :
    d.Moved b.estopRecognised.ds := by
  unfold Blocks.estopRecognised; dsimp only; repeat' split
  all_goals simp [h]

@[simp] theorem Blocks.estopReleased_ds (b : Blocks) : b.estopReleased.ds = b.ds := by
  unfold Blocks.estopReleased; split <;> rfl

@[simp] theorem Blocks.moved_selectorPulse (h : d.Moved b.ds) (g : HeadId) :
    d.Moved (b.selectorPulse g).ds := by
  unfold Blocks.selectorPulse
  split
  · split
    · exact Blocks.moved_go (b := b.modHead g _) h _
    · exact h
  · exact h

@[simp] theorem Blocks.selectorIndex_ds (b : Blocks) (g : HeadId) (a : Bool) :
    (b.selectorIndex g a).ds = b.ds := by
  unfold Blocks.selectorIndex; dsimp only; split <;> simp

@[simp] theorem Blocks.moved_moveTimedOut (h : d.Moved b.ds) (g : HeadId) (n : Nat) :
    d.Moved (b.moveTimedOut g n).ds := by
  unfold Blocks.moveTimedOut
  dsimp only
  split
  · exact Blocks.moved_go (Blocks.moved_report (b := b.modHead g _) h _) _
  · exact h

@[simp] theorem Blocks.moved_selectorExpiry (h : d.Moved b.ds) (g : HeadId) :
    d.Moved (b.selectorExpiry g).ds := by
  unfold Blocks.selectorExpiry; split <;> simp [h]

@[simp] theorem Blocks.moved_homeSeen (h : d.Moved b.ds) (ax : Axis) :
    d.Moved (b.homeSeen ax).ds := by
  unfold Blocks.homeSeen; repeat' split
  all_goals simp [h]

@[simp] theorem Blocks.moved_homeSwitch (h : d.Moved b.ds) (ax : Axis) (a : Bool) :
    d.Moved (b.homeSwitch ax a).ds := by
  unfold Blocks.homeSwitch; dsimp only; split <;> simp [h]

@[simp] theorem Blocks.moved_homingExhausted (h : d.Moved b.ds) (ax : Axis) :
    d.Moved (b.homingExhausted ax).ds := by
  unfold Blocks.homingExhausted; split <;> simp [h]

@[simp] theorem Blocks.homingFaulted_ds (b : Blocks) (ax : Axis) :
    (b.homingFaulted ax).ds = b.ds := by
  unfold Blocks.homingFaulted; split <;> simp

@[simp] theorem Blocks.moved_driveFaultOn (h : d.Moved b.ds) (ax : Axis) :
    d.Moved (b.driveFaultOn ax).ds := by
  unfold Blocks.driveFaultOn; dsimp only; split <;> simp [h]

@[simp] theorem Blocks.driveFaultOff_ds (b : Blocks) (ax : Axis) :
    (b.driveFaultOff ax).ds = b.ds := by
  unfold Blocks.driveFaultOff; dsimp only; split <;> rfl

@[simp] theorem Blocks.moved_returned (h : d.Moved b.ds) : d.Moved b.returned.ds := by
  unfold Blocks.returned; dsimp only; split <;> simp [h]

@[simp] theorem Blocks.moved_followOn {r : Blocks × Option Phase} (h : d.Moved r.1.ds) :
    d.Moved (followOn r).ds := by
  unfold followOn; split <;> simp [h]

@[simp] theorem Blocks.moved_patchArrived (h : d.Moved b.ds) (w : PatchWork) :
    d.Moved (b.patchArrived w).ds := by
  unfold Blocks.patchArrived; split <;> simp [h]

@[simp] theorem Blocks.moved_patchTravelled (h : d.Moved b.ds) : d.Moved b.patchTravelled.ds := by
  unfold Blocks.patchTravelled; split <;> simp [h]

@[simp] theorem Blocks.moved_moveComplete (h : d.Moved b.ds) : d.Moved b.moveComplete.ds := by
  unfold Blocks.moveComplete
  split
  · dsimp only
    split <;> simp [h]
  · exact h

@[simp] theorem Blocks.returnStopped_ds (b : Blocks) : b.returnStopped.ds = b.ds := by
  unfold Blocks.returnStopped; split <;> simp

@[simp] theorem Blocks.moved_patchTravelStopped (h : d.Moved b.ds) :
    d.Moved b.patchTravelStopped.ds := by
  unfold Blocks.patchTravelStopped; split <;> simp [h]

@[simp] theorem Blocks.moved_moveStopped (h : d.Moved b.ds) : d.Moved b.moveStopped.ds := by
  unfold Blocks.moveStopped
  split
  · dsimp only
    split <;> simp [h]
  · exact h

@[simp] theorem Blocks.lastStep_ds (b : Blocks) (ax : Axis) : (b.lastStep ax).ds = b.ds := rfl

@[simp] theorem Blocks.tick_ds (b : Blocks) : b.tick.ds = b.ds := by
  unfold Blocks.tick; split <;> rfl

/-! ## The owners' answers -/

/-- A refused command leaves the store, and one that is taken does what its owner does. -/
theorem Blocks.moved_judgeWith (h : d.Moved b.ds) (l : List (Bool × Code))
    (f : Code → List Byte) {a : Answer} (ha : d.Moved a.1.ds) :
    d.Moved (b.judgeWith l f a).1.ds := by
  unfold Blocks.judgeWith; split
  · exact h
  · exact ha

theorem Blocks.moved_judge (h : d.Moved b.ds) (l : List (Bool × Code)) {b' : Blocks}
    {fields : List Byte} (hb : d.Moved b'.ds) : d.Moved (b.judge l (okWith b' fields)).1.ds :=
  Blocks.moved_judgeWith h l _ hb

@[simp] theorem Blocks.moved_runTaken (h : d.Moved b.ds) : d.Moved b.runTaken.ds := by
  unfold Blocks.runTaken; split <;> simp [h]

@[simp] theorem Blocks.pauseMove_ds (b : Blocks) : b.pauseMove.ds = b.ds := by
  unfold Blocks.pauseMove; split <;> simp

@[simp] theorem Blocks.pauseReposition_ds (b : Blocks) (w : RepoWork) :
    (b.pauseReposition w).ds = b.ds := by
  unfold Blocks.pauseReposition; repeat' split
  all_goals simp

@[simp] theorem Blocks.moved_pauseTaken (h : d.Moved b.ds) : d.Moved b.pauseTaken.ds := by
  unfold Blocks.pauseTaken; repeat' split
  all_goals simp [h]

@[simp] theorem Blocks.moved_beginStepping (h : d.Moved b.ds) (tag : Byte) (forward : Bool)
    (n : Nat) : d.Moved (b.beginStepping tag forward n).ds := by
  unfold Blocks.beginStepping
  extract_lets begun
  have hbegun : d.Moved begun.ds := by simpa [begun] using h
  split
  · split
    · simpa using hbegun
    · next ht =>
      have hds := Blocks.travel_ds ht
      split
      · exact Blocks.moved_go (by simpa [hds] using hbegun) _
      · simpa [hds] using hbegun
  · exact Blocks.moved_go hbegun _

@[simp] theorem Blocks.moved_watchDrives (h : d.Moved b.ds) : d.Moved b.watchDrives.ds := by
  unfold Blocks.watchDrives; dsimp only; split <;> simp [h]

@[simp] theorem Blocks.moved_configure (h : d.Moved b.ds) (c : MachineConfig) :
    d.Moved (b.configure c).ds := by
  simp [Blocks.configure, h]

@[simp] theorem Blocks.moved_writeSettings (h : d.Moved b.ds) (x : Settings) :
    d.Moved (b.writeSettings x).ds := by
  simp [Blocks.writeSettings, h]

@[simp] theorem Blocks.moved_closeIfIsolated (h : d.Moved b.ds) (g : HeadId) :
    d.Moved (b.closeIfIsolated g).ds := by
  unfold Blocks.closeIfIsolated; split <;> simp [h]

@[simp] theorem Blocks.moved_disable (h : d.Moved b.ds) (g : HeadId) :
    d.Moved (b.disable g).ds := by
  simp [Blocks.disable, h]

@[simp] theorem Blocks.moved_leave (h : d.Moved b.ds) (g : HeadId) : d.Moved (b.leave g).ds := by
  simp [Blocks.leave, h]

@[simp] theorem Blocks.moved_resetHead (h : d.Moved b.ds) (g : HeadId) :
    d.Moved (b.resetHead g).ds :=
  Blocks.moved_setRanges (b := (b.modHead g _).modMonitor g _) h _

@[simp] theorem Blocks.homeHead_ds (b : Blocks) (tag : Byte) (g : HeadId) :
    (b.homeHead tag g).ds = b.ds := by
  unfold Blocks.homeHead; dsimp only; split <;> simp

@[simp] theorem Blocks.moved_beginPatch (h : d.Moved b.ds) (tag : Byte) (w : PatchWork) :
    d.Moved (b.beginPatch tag w).ds := by
  unfold Blocks.beginPatch
  extract_lets begun
  have hbegun : d.Moved begun.ds := by simpa [begun, Blocks.restOthers] using h
  split
  · exact Blocks.moved_patchEnd hbegun _ _ _
  · next ht =>
    have ht' := Blocks.travel_ds ht
    split
    · exact Blocks.moved_patchArrived (ht' ▸ hbegun) _
    · exact ht' ▸ hbegun

@[simp] theorem Blocks.beginManual_ds (b : Blocks) (tag : Byte) (p : Pos) :
    (b.beginManual tag p).ds = b.ds := by
  unfold Blocks.beginManual; dsimp only; split <;> simp

end Sys2Proof.Machine
end

section
/-!
SUPPORT. The owners' answers and the law of the store, and a property that every row of the table keeps.
-/

namespace Sys2Proof.Machine

variable {b : Blocks}

/-! ## The commands of the store -/

theorem Blocks.judgeWith_lawful (h : b.ds.lawful) (l : List (Bool × Code)) (f : Code → List Byte)
    {a : Answer} (ha : firstRefusal l = none → a.1.ds.lawful) : (b.judgeWith l f a).1.ds.lawful := by
  unfold Blocks.judgeWith
  split
  · exact h
  · next hl => exact ha hl

theorem Blocks.emptyStore_ds (b : Blocks) : b.emptyStore.ds = Ds.empty := by
  unfold Blocks.emptyStore; dsimp only; split <;> rfl

theorem Ds.take_channel (d : Ds) (r : StoredRecord) :
    (d.take r).channel = if r.kind = .endDesign then .finished else d.channel := rfl

/-- A record is taken in a channel that is not CLOSED, and it stays so (R12, R16). -/
theorem Blocks.takeRecord_lawful (r : StoredRecord) (h : b.ds.lawful)
    (hroom : b.ds.free ≠ 0) (hopen : b.ds.channel ≠ .closed) :
    (b.takeRecord r).ds.lawful ∧ (b.takeRecord r).ds.channel ≠ .closed := by
  have taken : (b.ds.take r).Moved (b.takeRecord r).ds := by simp [Blocks.takeRecord]
  refine ⟨taken.lawful (Ds.lawful_take _ r h ?_ hopen), ?_⟩
  · unfold Ds.free at hroom; omega
  · rw [taken.channel, Ds.take_channel]
    split
    · decide
    · exact hopen

theorem Blocks.offer_lawful (rs : List RawRecord) (n : Nat) (b : Blocks) (h : b.ds.lawful)
    (hopen : b.ds.channel ≠ .closed) : (b.offer rs n).1.ds.lawful := by
  induction rs generalizing n b with
  | nil => exact h
  | cons r rest ih =>
    unfold Blocks.offer
    split
    · exact h
    · next hroom =>
      split
      · obtain ⟨order, bound, room, -⟩ := h
        exact ⟨order, bound, room, nofun⟩
      · next rec' _ =>
        obtain ⟨hl, hc⟩ := Blocks.takeRecord_lawful rec' h hroom hopen
        split
        · exact hl
        · exact ih _ _ hl hc

theorem Blocks.designData_lawful (p : List Byte) (h : b.ds.lawful)
    (hopen : b.ds.channel ≠ .closed) : (b.designData p).1.ds.lawful := by
  unfold Blocks.designData
  dsimp only
  split
  · exact h
  · split
    · exact h
    · exact Blocks.offer_lawful _ _ _ h hopen

theorem cmdDopen_lawful (tag : Byte) (p : List Byte) (h : b.ds.lawful) :
    (cmdDopen tag p b).1.ds.lawful :=
  Blocks.judgeWith_lawful h _ _ fun _ => Ds.lawful_openDesign _

theorem cmdDdata_lawful (tag : Byte) (p : List Byte) (h : b.ds.lawful) :
    (cmdDdata tag p b).1.ds.lawful := by
  refine Blocks.judgeWith_lawful h _ _ fun hl => Blocks.designData_lawful p h fun hc => ?_
  rw [firstRefusal_none] at hl
  have := hl (b.ds.channel != .closed, .closed) (by simp)
  simp [hc] at this

theorem cmdDunst_lawful (tag : Byte) (p : List Byte) (h : b.ds.lawful) :
    (cmdDunst tag p b).1.ds.lawful := by
  refine Blocks.judgeWith_lawful h _ _ fun _ => ?_
  obtain ⟨order, bound, room, -⟩ := h
  exact ⟨order, bound, room, nofun⟩

theorem cmdDabt_lawful (tag : Byte) (p : List Byte) (h : b.ds.lawful) :
    (cmdDabt tag p b).1.ds.lawful :=
  Blocks.judgeWith_lawful h _ _ fun _ => b.emptyStore_ds ▸ Ds.lawful_empty

theorem Blocks.closeTaken_ds (b : Blocks) : b.closeTaken.ds = Ds.empty := by
  simp [Blocks.closeTaken, Blocks.emptyStore_ds]

theorem cmdClose_lawful (tag : Byte) (p : List Byte) (h : b.ds.lawful) :
    (cmdClose tag p b).1.ds.lawful :=
  Blocks.judgeWith_lawful h _ _ fun _ => b.closeTaken_ds ▸ Ds.lawful_empty

/-! ## Every owner -/

theorem cmdPatch_lawful (tag : Byte) (p : List Byte) (h : b.ds.lawful) :
    (cmdPatch tag p b).1.ds.lawful := by
  refine Blocks.judgeWith_lawful h _ _ fun _ => ?_
  split
  · exact (Blocks.moved_beginPatch (.refl _) tag _).lawful h
  · exact h

theorem answer_lawful (errs : LinkFlags) (f : Frame) (b : Blocks) (h : b.ds.lawful) :
    (answer errs f b).1.ds.lawful := by
  have kept : ∀ (l : List (Bool × Code)) (g : Code → List Byte) (a : Answer), b.ds.Moved a.1.ds →
      (b.judgeWith l g a).1.ds.lawful := fun l g a ha =>
    Blocks.judgeWith_lawful h l g fun _ => ha.lawful h
  unfold answer
  split
  case h_10 => exact cmdDopen_lawful _ _ h
  case h_11 => exact cmdDdata_lawful _ _ h
  case h_12 => exact cmdDunst_lawful _ _ h
  case h_13 => exact cmdDabt_lawful _ _ h
  case h_25 => exact cmdClose_lawful _ _ h
  case h_41 => exact cmdPatch_lawful _ _ h
  case h_46 => exact h
  all_goals exact kept _ _ _ (by simp [okWith])

/-! ## A property every row keeps -/

/-- A property of the blocks is kept by all that the link does to them and by every event. -/
structure Blocks.Kept (P : Blocks → Prop) : Prop where
  answer : ∀ errs f b, P b → P (answer errs f b).1
  beginReport : ∀ s k, P s.blk → P (State.beginReport s k).blk
  headSent : ∀ b, P b → P { b with ru := b.ru.headSent }
  abandon : ∀ b o, P b → P { b with ru := b.ru.abandon o }
  controllerReset : ∀ b, P b → P b.controllerReset
  powerUp : ∀ s rate, P s.blk → P (State.powerUp s rate).blk
  tick : ∀ b, P b → P b.tick
  estopLevel : ∀ b a, P b → P (b.estopLevel a)
  estopRecognised : ∀ b, P b → P b.estopRecognised
  estopReleased : ∀ b, P b → P b.estopReleased
  encoderCount : ∀ b, P b → P b.encoderCount
  countOverflow : ∀ b, P b → P b.countOverflow
  findExhausted : ∀ b, P b → P b.findExhausted
  stallExpiry : ∀ b, P b → P b.stallExpiry
  indexPulse : ∀ b ns, P b → P (b.indexPulse ns)
  feedPulse : ∀ b g, P b → P (b.feedPulse g)
  resolveStop : ∀ b, P b → P b.resolveStop
  resolvePatchStop : ∀ b, P b → P b.resolvePatchStop
  selectorPulse : ∀ b g, P b → P (b.selectorPulse g)
  selectorIndex : ∀ b g a, P b → P (b.selectorIndex g a)
  selectorExpiry : ∀ b g, P b → P (b.selectorExpiry g)
  homeSwitch : ∀ b ax a, P b → P (b.homeSwitch ax a)
  homingExhausted : ∀ b ax, P b → P (b.homingExhausted ax)
  driveFaultOn : ∀ b ax, P b → P (b.driveFaultOn ax)
  driveFaultOff : ∀ b ax, P b → P (b.driveFaultOff ax)
  moveComplete : ∀ b, P b → P b.moveComplete
  moveStopped : ∀ b, P b → P b.moveStopped
  lastStep : ∀ b ax, P b → P (b.lastStep ax)

namespace Blocks.Kept

variable {P : Blocks → Prop} (k : Blocks.Kept P)
include k

theorem takeFrame (f : Frame) (s : State) (h : P s.blk) : P (s.takeFrame f).blk :=
  k.answer _ _ _ h

theorem drain (n : Nat) (s : State) (h : P s.blk) : P (s.drain n).blk := by
  induction n generalizing s with
  | zero => exact h
  | succ n ih =>
    unfold State.drain
    split
    · exact h
    · split
      · exact ih _ (k.takeFrame _ _ h)
      · exact h

theorem decode (s : State) (h : P s.blk) : P s.decode.blk := k.drain _ s h

theorem arrive (f : Frame) (s : State) (h : P s.blk) : P (arrive f s).blk := by
  unfold Machine.arrive
  split
  · exact k.decode _ h
  · exact h

theorem receive (s : State) (byte : Byte) (framing : Bool) (h : P s.blk) :
    P (s.receive byte framing).blk := by
  have judged : ∀ len type tag payload low high,
      P (s.judgeFrame len type tag payload low high).blk := by
    intro len type tag payload low high
    unfold State.judgeFrame
    split
    · exact k.arrive _ _ h
    · exact h
  have good : P (s.goodByte byte).blk := by
    unfold State.goodByte
    split
    case h_7 => exact judged _ _ _ _ _ _
    all_goals (try split) <;> exact h
  unfold State.receive
  split
  · exact h
  · split
    · split <;> exact h
    · exact good

theorem sendStart (s : State) (h : P s.blk) : P s.sendStart.blk := by
  unfold State.sendStart
  split
  · exact h
  · split
    · exact k.decode _ h
    · split
      · exact k.beginReport _ _ h
      · exact h

theorem sent (s : State) (h : P s.blk) : P s.sent.blk := by
  unfold State.sent
  split
  · exact h
  · dsimp only
    split
    · exact k.controllerReset _ h
    · exact k.headSent _ h
    · exact h

theorem linkReset (s : State) (h : P s.blk) : P s.linkReset.blk := by
  unfold State.linkReset
  dsimp only
  split
  · exact k.controllerReset _ (k.abandon _ _ h)
  · exact k.abandon _ _ h

/-- Every row of the table keeps the property: a command frame by its owner's answer, an event by
what its block does. -/
theorem exec (i : Instr) (s t : State) (h : P s.blk) (ht : exec i s = .next t) : P t.blk := by
  cases i <;> cases ht
  case powerOn rate => exact k.powerUp s rate h
  case lrxByte => exact k.receive _ _ _ h
  case gapTimeout =>
    unfold State.gap
    split <;> exact h
  case linkBreak => exact k.linkReset _ h
  case lrxReturnedHigh => exact h
  case sendStart => exact k.sendStart _ h
  case transmitComplete => exact k.sent _ h
  case estopInputChange => exact k.estopLevel _ _ h
  case estopRecognised => exact k.estopRecognised _ h
  case estopReleaseRecognised => exact k.estopReleased _ h
  case encoderCount => exact k.encoderCount _ h
  case angleCountOverflow => exact k.countOverflow _ h
  case findCountsExhausted => exact k.findExhausted _ h
  case stallTimerExpiry => exact k.stallExpiry _ h
  case indexPulse => exact k.indexPulse _ _ h
  case threadFeedPulse => exact k.feedPulse _ _ h
  case stopResolution => exact k.resolveStop _ h
  case patchStopResolution => exact k.resolvePatchStop _ h
  case selectorPulse => exact k.selectorPulse _ _ h
  case selectorIndex => exact k.selectorIndex _ _ _ h
  case selectorTimeout => exact k.selectorExpiry _ _ h
  case homeSwitch => exact k.homeSwitch _ _ _ h
  case homingDistanceExhausted => exact k.homingExhausted _ _ h
  case driveFaultAssert => exact k.driveFaultOn _ _ h
  case driveFaultRelease => exact k.driveFaultOff _ _ h
  case frameMoveComplete => exact k.moveComplete _ h
  case frameMoveStopped => exact k.moveStopped _ h
  case axisLastStepIssued => exact k.lastStep _ _ h
  all_goals exact k.arrive _ _ h

theorem step (s t : State) (h : P s.blk) (ht : step s = .next t) : P t.blk := by
  unfold Machine.step at ht
  split at ht
  · cases ht
    exact k.tick _ h
  · next c rest _ => exact k.exec c { s with pending := rest } t h ht

end Blocks.Kept

/-! ## The law of the store -/

theorem Blocks.controllerReset_lawful (b : Blocks) : b.controllerReset.ds.lawful := by
  unfold Blocks.controllerReset
  dsimp only
  split
  · exact (Blocks.moved_watchDrives (.refl _)).lawful Ds.lawful_empty
  · exact Ds.lawful_empty

theorem State.beginReport_ds (s : State) (k : ReportKind) : (s.beginReport k).blk.ds = s.blk.ds :=
  rfl

/-- T ≤ S ≤ L within the ring, and an empty store while CLOSED, is kept by every row (R1, R5, R6). -/
theorem storeLaw_kept : Blocks.Kept (fun b => b.ds.lawful) := by
  have moved : ∀ {b b' : Blocks}, b.ds.Moved b'.ds → b.ds.lawful → b'.ds.lawful := fun m => m.lawful
  constructor
  case answer => exact answer_lawful
  case beginReport => exact fun _ _ h => h
  case headSent => exact fun _ h => h
  case abandon => exact fun _ _ h => h
  case controllerReset => exact fun b _ => b.controllerReset_lawful
  case powerUp => exact fun _ _ _ => Ds.lawful_empty
  all_goals intros; refine moved ?_ ‹_›; simp

end Sys2Proof.Machine

namespace Sys2Proof.Proofs

open Sys2Proof.Machine

/-- Settles O6: every row of the table keeps the law of the store. -/
theorem everyStepKeepsTheStoreLaw : Obligations.EveryStepKeepsTheStoreLaw :=
  fun s t h ht => storeLaw_kept.step s t h ht

/-- Settles O3: each value is the one `State.reset` is written with (R7, R44, R65, R157, R167). -/
theorem resetLeavesThePowerOnValues : Obligations.ResetLeavesThePowerOnValues := by
  unfold Obligations.ResetLeavesThePowerOnValues
  and_intros <;> rfl

/-- Settles O4: the reset state has no frame, an empty store, an empty log, STATE alone pending and no
filter timing. -/
theorem resetKeepsEveryLaw : Obligations.ResetKeepsEveryLaw := by
  have link : State.reset.pl.lawful := by
    refine ⟨rfl, ?_, rfl, ?_, nofun, rfl⟩ <;> decide
  have log : State.reset.blk.fl.lawful := ⟨by decide, rfl⟩
  have reports : State.reset.blk.ru.lawful := ⟨by decide, by decide⟩
  have filters : State.reset.blk.filtersLawful := ⟨nofun, nofun⟩
  exact ⟨link, Ds.lawful_empty, log, reports, filters⟩

end Sys2Proof.Proofs
end

section
/-!
SUPPORT. The commands of the design channel (R8 to R20): how the tests of a command read one after
another, what a payload holds of the operands it was made of, and the offered records of a DDATA frame.
-/

namespace Sys2Proof.Machine

open Sys2Proof.Claims

/-! ## Tests one after another -/

theorem Blocks.judgeWith_nil (b : Blocks) (f : Code → List Byte) (a : Answer) :
    b.judgeWith [] f a = a := rfl

theorem Blocks.judgeWith_cons (b : Blocks) (c : Bool) (code : Code) (l : List (Bool × Code))
    (f : Code → List Byte) (a : Answer) :
    b.judgeWith ((c, code) :: l) f a
      = if c = true then b.judgeWith l f a else (b, code.byte :: f code) := by
  unfold Blocks.judgeWith
  cases c <;> rfl

theorem Blocks.judge_nil (b : Blocks) (a : Answer) : b.judge [] a = a := rfl

theorem Blocks.judge_cons (b : Blocks) (c : Bool) (code : Code) (l : List (Bool × Code))
    (a : Answer) :
    b.judge ((c, code) :: l) a = if c = true then b.judge l a else refused b code.byte :=
  b.judgeWith_cons c code l _ a

theorem Blocks.runIs_eq (b : Blocks) (l : List RunState) :
    b.runIs l = (decide (b.rc.runState ∈ l), .state) := by
  simp [Blocks.runIs, Blocks.runIn]

/-- The row of a command is stated by the answer its owner gives. -/
theorem next_answered {s : State} {type tag : Byte} {a a' : Answer} (h : a = a') :
    (.next (s.replied type tag a.2 a.1) : Host.Outcome State Fault Refusal)
      = .next (answered s type tag a') := by
  rw [h, answered]

/-! ## DOPEN, DABT, DUNST and DREAD -/

theorem u32_enc32_alone (n : Nat) (h : n < 4294967296) : u32 (enc32 n) 0 = n := by
  simpa using u32_enc32 n [] h

theorem cmdDopen_enc32 (tag : Byte) (n : Nat) (b : Blocks) (hn : n < 4294967296) :
    cmdDopen tag (enc32 n) b =
      if b.cf.lock = false then refused b 0x05#8
      else if b.rc.runState ≠ .idle ∨ b.ds.channel ≠ .closed then refused b 0x04#8
      else if n ≠ 0 ∧ (n < 2 ∨ 16777216 < n) then refused b 0x03#8
      else if b.fc.active = none then refused b 0x0A#8
      else ({ b with ds := ⟨0, 0, [], ⟨0, 0⟩, none, ⟨0, 0⟩, none, none, n, .opened⟩ }, [0x00#8]) := by
  have length : lengthIs (enc32 n) 4 = (true, .length) := rfl
  have value : (n == 0 || within 2 16777216 n) = true ↔ ¬ (n ≠ 0 ∧ (n < 2 ∨ 16777216 < n)) := by
    simp only [within, Bool.or_eq_true, beq_iff_eq, decide_eq_true_eq]
    omega
  unfold cmdDopen
  simp only [Blocks.isConfigured, length, Blocks.runIs_eq, u32_enc32_alone n hn, Blocks.judge_cons,
    Blocks.judge_nil, value]
  cases hlock : b.cf.lock
  · rfl
  by_cases hidle : b.rc.runState = .idle
  · by_cases hclosed : b.ds.channel = .closed
    · simp only [hidle, hclosed, if_true, reduceCtorEq, ne_eq, not_true_eq_false, or_self, if_false,
        List.mem_singleton, decide_true, beq_self_eq_true]
      by_cases hvalue : n ≠ 0 ∧ (n < 2 ∨ 16777216 < n)
      · rw [if_neg (not_not.mpr hvalue), if_pos hvalue]
        rfl
      · rw [if_pos hvalue, if_neg hvalue]
        cases b.fc.active <;> rfl
    · simp [hidle, hclosed, Code.byte]
  · simp [hidle, Code.byte]

/-- The emptying of the store, field by field (R6, R26, R68, R126). -/
theorem Blocks.emptyStore_eq (b : Blocks) :
    b.emptyStore = { b with
      ds := ⟨0, 0, [], ⟨0, 0⟩, none, ⟨0, 0⟩, none, none, 0, .closed⟩
      rc.slotInEffect := none
      tm := Eight.tabulate (fun h => { b.tm.get h with low := 0, high := 0, breakStart := none })
      ru := if b.ds.free < b.cf.settings.loadMark ∧ b.cf.settings.loadMark ≤ 16384 then
              { b.ru with pend := b.ru.pend ||| (0b100000#6 &&& ~~~b.ru.kindMask) }
            else b.ru } := by
  have crossing : crosses b.cf.settings.loadMark b.ds.free Ds.empty.free = true
      ↔ b.ds.free < b.cf.settings.loadMark ∧ b.cf.settings.loadMark ≤ 16384 := by
    simp [crosses, Ds.free, Ds.empty, Config.storeCapacity]
  unfold Blocks.emptyStore
  dsimp only
  by_cases h : b.ds.free < b.cf.settings.loadMark ∧ b.cf.settings.loadMark ≤ 16384
  · rw [if_pos (crossing.mpr h), if_pos h]
    rfl
  · rw [if_neg (crossing.not.mpr h), if_neg h]
    rfl

theorem cmdDabt_empty (tag : Byte) (b : Blocks) :
    cmdDabt tag [] b =
      if b.cf.lock = false then refused b 0x05#8
      else if b.rc.runState ≠ .idle then refused b 0x04#8
      else (b.emptyStore, [0x00#8]) := by
  have length : lengthIs [] 0 = (true, .length) := rfl
  unfold cmdDabt
  simp only [Blocks.isConfigured, length, Blocks.runIs_eq, Blocks.judge_cons, Blocks.judge_nil]
  cases hlock : b.cf.lock
  · rfl
  · by_cases hidle : b.rc.runState = .idle <;> simp [hidle, Code.byte, okWith]

theorem cmdDunst_empty (tag : Byte) (b : Blocks) :
    cmdDunst tag [] b =
      if b.cf.lock = false then refused b 0x05#8
      else if b.ds.channel ≠ .stalled then refused b 0x04#8
      else ({ b with ds.channel := .opened }, [0x00#8]) := by
  have length : lengthIs [] 0 = (true, .length) := rfl
  unfold cmdDunst
  simp only [Blocks.isConfigured, length, Blocks.judge_cons, Blocks.judge_nil]
  cases hlock : b.cf.lock
  · rfl
  · by_cases hst : b.ds.channel = .stalled <;> simp [hst, Code.byte, okWith]

/-- An entry of DREAD for a record that is held (R20). -/
theorem Ds.readEntry_held (d : Ds) (i : Nat) (r : StoredRecord) (h : d.record i = some r) :
    d.readEntry i = enc32 i ++
      ([if i < d.sew then 0x01#8 else 0x02#8, BitVec.ofNat 8 r.kind.code]
        ++ encS8 r.dx ++ encS8 r.dy ++ enc8 r.slot ++ encS32 r.relAfter.x
        ++ encS32 r.relAfter.y ++ enc8 (r.slotAfter.getD 0)) := by
  have side : (if i < d.sew then enc8 1 else enc8 2) = [if i < d.sew then 0x01#8 else 0x02#8] := by
    split <;> rfl
  have slot : encOrZero r.slotAfter = enc8 (r.slotAfter.getD 0) := by
    cases r.slotAfter <;> rfl
  simp only [Ds.readEntry, h, side, slot, List.append_assoc]
  rfl

theorem Ds.readEntry_notHeld (d : Ds) (i : Nat) (h : d.record i = none) :
    d.readEntry i = enc32 i ++ 0x15#8 :: List.replicate 13 0#8 := by
  simp only [Ds.readEntry, h]
  rfl

theorem cmdDread_enc24 (tag m : Byte) (i : Nat) (b : Blocks) (hi : i < 16777216) :
    cmdDread tag (enc24 i ++ [m]) b =
      if m.toNat < 1 ∨ 8 < m.toNat then refused b 0x03#8
      else (b, 0x00#8 :: (List.range m.toNat).flatMap (fun k => b.ds.readEntry (i + k))) := by
  have length : lengthIs (enc24 i ++ [m]) 4 = (true, .length) := rfl
  have count : u8 (enc24 i ++ [m]) 3 = m.toNat := rfl
  unfold cmdDread
  simp only [length, count, u24_enc24 i [m] hi, Blocks.judge_cons, Blocks.judge_nil, within,
    decide_eq_true_eq, if_true]
  by_cases hm : m.toNat < 1 ∨ 8 < m.toNat
  · rw [if_neg (by omega), if_pos hm]
    rfl
  · rw [if_pos (by omega), if_neg hm]
    rfl

end Sys2Proof.Machine

namespace Sys2Proof.Proofs

open Sys2Proof.Machine

/-- Settles O23: the owners' answers to DOPEN and DABT, at a link that is free. -/
theorem dopenAndDabtEmptyTheStore : Obligations.DopenAndDabtEmptyTheStore := by
  unfold Obligations.DopenAndDabtEmptyTheStore
  constructor
  · intro tag n s hfree hn
    rw [exec_dopen _ _ _ hfree]
    exact next_answered (cmdDopen_enc32 tag n s.blk hn)
  · intro tag s hfree
    rw [exec_dabt _ _ _ hfree, ← Blocks.emptyStore_eq]
    exact next_answered (cmdDabt_empty tag s.blk)

/-- Settles O27: the owner's answer to DREAD, entry by entry. -/
theorem dreadReadsByIndex : Obligations.DreadReadsByIndex := by
  unfold Obligations.DreadReadsByIndex
  intro tag m i s hfree hi
  rw [exec_dread _ _ _ hfree]
  refine next_answered ?_
  rw [cmdDread_enc24 tag m i s.blk hi]
  congr 4
  funext k
  cases hr : s.blk.ds.record (i + k) with
  | none => exact Ds.readEntry_notHeld _ _ hr
  | some r => exact Ds.readEntry_held _ _ r hr

end Sys2Proof.Proofs
end

section
/-!
SUPPORT. A DDATA frame: the tests of R9, the records it offers, and the FORMAT, COUNT and FIELD checks
in the words of the statements (R9 to R16).
-/

namespace Sys2Proof.Machine

open Sys2Proof.Claims

variable {b : Blocks}

/-! ## The tests of the frame -/

theorem Blocks.loadFields_none (b : Blocks) (code : Code) :
    (b, code.byte :: b.loadFields 0) = noneTaken b code.byte := rfl

theorem cmdDdata_unconfigured (tag : Byte) (p : List Byte) (h : b.cf.lock = false) :
    cmdDdata tag p b = noneTaken b 0x05#8 := by
  unfold cmdDdata
  rw [Blocks.isConfigured, Blocks.judgeWith_cons, if_neg (by simp [h])]
  rfl

theorem cmdDdata_short (tag : Byte) (p : List Byte) (h : b.cf.lock = true) (hp : p.length < 4) :
    cmdDdata tag p b = noneTaken b 0x02#8 := by
  unfold cmdDdata
  rw [Blocks.isConfigured, Blocks.judgeWith_cons, if_pos h, Blocks.judgeWith_cons,
    if_neg (by simpa using hp)]
  rfl

theorem cmdDdata_value (tag : Byte) (p : List Byte) (h : b.cf.lock = true) (hp : 4 ≤ p.length)
    (hn : u8 p 3 < 1 ∨ 80 < u8 p 3) : cmdDdata tag p b = noneTaken b 0x03#8 := by
  unfold cmdDdata
  rw [Blocks.isConfigured, Blocks.judgeWith_cons, if_pos h, Blocks.judgeWith_cons,
    if_pos (by simpa using hp), Blocks.judgeWith_cons,
    if_neg (by simp only [within, decide_eq_true_eq]; omega)]
  rfl

theorem cmdDdata_length (tag : Byte) (p : List Byte) (h : b.cf.lock = true) (hp : 4 ≤ p.length)
    (hn : 1 ≤ u8 p 3) (hn' : u8 p 3 ≤ 80) (hl : p.length ≠ 4 + 3 * u8 p 3) :
    cmdDdata tag p b = noneTaken b 0x02#8 := by
  unfold cmdDdata
  rw [Blocks.isConfigured, Blocks.judgeWith_cons, if_pos h, Blocks.judgeWith_cons,
    if_pos (by simpa using hp), Blocks.judgeWith_cons,
    if_pos (by simp only [within, decide_eq_true_eq]; omega), Blocks.judgeWith_cons,
    if_neg (by simpa using hl)]
  rfl

/-- A payload that begins with f and n and then holds n records of three bytes (R184). -/
def dataFrame (f n : Nat) (recs : List Byte) : List Byte := enc24 f ++ enc8 n ++ recs

section Frame

variable {f n : Nat} {recs : List Byte} (hf : f < 16777216) (h1 : 1 ≤ n) (h80 : n ≤ 80)
  (hrecs : recs.length = 3 * n)

include h80 in
theorem dataFrame_count : u8 (dataFrame f n recs) 3 = n := by
  have : u8 (dataFrame f n recs) 3 = n % 256 := BitVec.toNat_ofNat n 8
  omega

theorem dataFrame_length : (dataFrame f n recs).length = 4 + recs.length := by
  simp [dataFrame, enc24, enc16, enc8]
  omega

include hf in
theorem dataFrame_first : u24 (dataFrame f n recs) 0 = f := by
  rw [dataFrame, List.append_assoc, u24_enc24 _ _ hf]

theorem dataFrame_records : (dataFrame f n recs).drop 4 = recs := rfl

include h1 h80 hrecs in
/-- A frame that passes the tests of its length is answered by the channel's state (R9). -/
theorem cmdDdata_frame (tag : Byte) (h : b.cf.lock = true) :
    cmdDdata tag (dataFrame f n recs) b =
      if b.ds.channel = .closed then noneTaken b 0x0D#8
      else if b.ds.channel = .stalled then noneTaken b 0x14#8
      else
        ((b.designData (dataFrame f n recs)).1,
          (b.designData (dataFrame f n recs)).2.1.byte ::
            (b.designData (dataFrame f n recs)).1.loadFields
              (b.designData (dataFrame f n recs)).2.2) := by
  have hcount := dataFrame_count (f := f) (recs := recs) h80
  have hlength := dataFrame_length (f := f) (n := n) (recs := recs)
  unfold cmdDdata
  rw [Blocks.isConfigured, Blocks.judgeWith_cons, if_pos h, Blocks.judgeWith_cons,
    if_pos (by simp [hlength]), Blocks.judgeWith_cons,
    if_pos (by simp only [within, hcount, decide_eq_true_eq]; omega), Blocks.judgeWith_cons,
    if_pos (by simp [hcount, hlength, hrecs]), Blocks.judgeWith_cons, Blocks.judgeWith_cons,
    Blocks.judgeWith_nil]
  cases b.ds.channel <;> rfl

include hf h80 in
/-- What a frame does that has passed R9 (R10, R11). -/
theorem designData_frame (b : Blocks) :
    b.designData (dataFrame f n recs) =
      if b.ds.channel = .finished then (b, if f + n - 1 < b.ds.load then .ok else .afterEnd, 0)
      else if b.ds.load < f then (b, .gap, 0)
      else b.offer ((rawRecords recs).drop (b.ds.load - f)) 0 := by
  unfold Blocks.designData
  rw [dataFrame_first hf, dataFrame_count h80, dataFrame_records]

end Frame

theorem rawRecords_length (n : Nat) (recs : List Byte) (h : recs.length = 3 * n) :
    (rawRecords recs).length = n := by
  induction n generalizing recs with
  | zero => rw [List.length_eq_zero_iff.mp h]; rfl
  | succ n ih =>
    match recs, h with
    | _ :: _ :: _ :: rest, h =>
      have hrest : rest.length = 3 * n := by simp only [List.length_cons] at h; omega
      simp [rawRecords, ih rest hrest]

/-! ## The checks of a record -/

theorem signed_toNat (d : Byte) : signed 256 d.toNat = d.toInt := by
  rw [signed, BitVec.toInt_eq_toNat_cond]
  split <;> split <;> omega

theorem toInt_ge_iff (d : Byte) : d ≠ 0x80#8 ↔ -127 ≤ d.toInt := by
  have low : -128 ≤ d.toInt := BitVec.le_toInt d
  have least : d = 0x80#8 ↔ d.toInt = -128 := BitVec.toInt_inj.symm
  rw [Ne, least]
  omega

theorem lengthOf_le_iff (dx dy : Int) :
    lengthOf dx dy ≤ 121 ↔ -121 ≤ dx ∧ dx ≤ 121 ∧ -121 ≤ dy ∧ dy ≤ 121 := by
  unfold lengthOf
  omega

theorem RecordKind.ofCode_eq_some (n : Nat) (k : RecordKind) :
    RecordKind.ofCode n = some k ↔ n = k.code := by
  unfold RecordKind.ofCode
  split
  case h_7 => cases k <;> simp only [RecordKind.code, reduceCtorEq, false_iff] <;> assumption
  all_goals cases k <;> simp [RecordKind.code]

/-- The kind code of a record that is well formed. -/
theorem formed_code {i : Nat} {code d1 d2 : Byte} {kind : RecordKind} {dx dy : Int} {slot : Nat}
    (h : formed i code d1 d2 kind dx dy slot) : code = BitVec.ofNat 8 kind.code := by
  unfold formed at h
  rcases h with ⟨rfl, rfl, _⟩ | ⟨_, _, ⟨rfl, rfl, _⟩ | ⟨rfl, rfl, _⟩ | ⟨_, _, _, _, h⟩⟩
  · rfl
  · rfl
  · rfl
  · rcases h with ⟨rfl, rfl⟩ | ⟨rfl, rfl⟩ | ⟨rfl, rfl⟩ <;> rfl

/-- The records of a kind that FORMAT passes at an index. -/
def wellFormed (i : Nat) (d1 d2 : Byte) (dx dy : Int) (slot : Nat) : RecordKind → Prop
  | .color => 1 ≤ d1.toNat ∧ d1.toNat ≤ 32 ∧ d2 = 0#8 ∧ dx = 0 ∧ dy = 0 ∧ slot = d1.toNat
  | .stitch => 1 ≤ i ∧ slot = 0 ∧ dx = d1.toInt ∧ dy = d2.toInt ∧ -121 ≤ dx ∧ dx ≤ 121
      ∧ -121 ≤ dy ∧ dy ≤ 121
  | .jump => 1 ≤ i ∧ slot = 0 ∧ dx = d1.toInt ∧ dy = d2.toInt ∧ -127 ≤ dx ∧ -127 ≤ dy
  | .trim | .mark | .endDesign => 1 ≤ i ∧ slot = 0 ∧ dx = 0 ∧ dy = 0 ∧ d1 = 0#8 ∧ d2 = 0#8

theorem formed_iff_wellFormed (i : Nat) (d1 d2 : Byte) (kind : RecordKind) (dx dy : Int)
    (slot : Nat) :
    formed i (BitVec.ofNat 8 kind.code) d1 d2 kind dx dy slot
      ↔ wellFormed i d1 d2 dx dy slot kind := by
  cases kind <;> simp [formed, wellFormed, RecordKind.code]

/-- FORMAT judges a record by its kind. -/
theorem formatCheck_kind (i : Nat) (k : RecordKind) (d1 d2 : Byte) (kind : RecordKind)
    (dx dy : Int) (slot : Nat) :
    formatCheck i ⟨BitVec.ofNat 8 k.code, d1, d2⟩ = some (kind, dx, dy, slot)
      ↔ kind = k ∧ wellFormed i d1 d2 dx dy slot k := by
  have moves : (d1 != 0x80#8 && d2 != 0x80#8) = true ↔ -127 ≤ d1.toInt ∧ -127 ≤ d2.toInt := by
    simp only [Bool.and_eq_true, bne_iff_ne, toInt_ge_iff]
  have stitches : ((d1 != 0x80#8 && d2 != 0x80#8) && decide (lengthOf d1.toInt d2.toInt ≤ 121)) = true
      ↔ -121 ≤ d1.toInt ∧ d1.toInt ≤ 121 ∧ -121 ≤ d2.toInt ∧ d2.toInt ≤ 121 := by
    rw [Bool.and_eq_true, moves, decide_eq_true_eq, lengthOf_le_iff]
    omega
  have blank : (d1 == 0#8 && d2 == 0#8) = true ↔ d1 = 0#8 ∧ d2 = 0#8 := by
    simp only [Bool.and_eq_true, beq_iff_eq]
  have hk : RecordKind.ofCode (BitVec.ofNat 8 k.code).toNat = some k := by cases k <;> rfl
  unfold formatCheck
  rw [hk]
  simp only [signed_toNat]
  cases k <;>
    simp only [Option.ite_none_left_eq_some, Option.ite_none_right_eq_some, moves, stitches, blank,
      wellFormed, Option.some.injEq, Prod.mk.injEq]
  case stitch | jump => constructor <;> rintro ⟨h, _⟩ <;> grind
  case color | trim | mark | endDesign => grind

/-- FORMAT passes exactly the records that are well formed (R13, R184). -/
theorem formatCheck_iff (i : Nat) (code d1 d2 : Byte) (kind : RecordKind) (dx dy : Int)
    (slot : Nat) :
    formatCheck i ⟨code, d1, d2⟩ = some (kind, dx, dy, slot)
      ↔ formed i code d1 d2 kind dx dy slot := by
  cases hc : RecordKind.ofCode code.toNat with
  | none =>
    have unformed : ¬ formed i code d1 d2 kind dx dy slot := by
      intro h
      rw [formed_code h] at hc
      cases kind <;> cases hc
    simp [formatCheck, hc, unformed]
  | some k =>
    have hcode : code = BitVec.ofNat 8 k.code := by
      rw [RecordKind.ofCode_eq_some] at hc
      rw [← hc, BitVec.ofNat_toNat, BitVec.setWidth_eq]
    rw [hcode, formatCheck_kind]
    constructor
    · rintro ⟨rfl, h⟩
      exact (formed_iff_wellFormed _ _ _ _ _ _ _).mpr h
    · intro h
      have same : k = kind := by
        have := formed_code h
        revert this
        cases k <;> cases kind <;> decide
      subst same
      exact ⟨rfl, (formed_iff_wellFormed _ _ _ _ _ _ _).mp h⟩

end Sys2Proof.Machine

namespace Sys2Proof.Proofs

open Sys2Proof.Machine Sys2Proof.Claims

/-- Settles O24: the tests of R9 in their order, and a frame that passes them by the channel's state and
by its place against L. -/
theorem framesThatTakeNoRecord : Obligations.FramesThatTakeNoRecord := by
  unfold Obligations.FramesThatTakeNoRecord
  refine ⟨?_, ?_, ?_, ?_⟩
  · intro tag f n recs s hfree hlock hf h1 h80 hrecs hopen hheld
    rw [exec_ddata _ _ _ hfree]
    refine next_answered ?_
    change cmdDdata tag (dataFrame f n recs) s.blk = _
    have passed : (rawRecords recs).drop (s.blk.ds.load - f) = [] :=
      List.drop_of_length_le (by rw [rawRecords_length n recs hrecs]; omega)
    rw [cmdDdata_frame h1 h80 hrecs tag hlock, designData_frame hf h80]
    simp only [hopen, reduceCtorEq, if_false, passed, if_neg (show ¬ s.blk.ds.load < f by omega)]
    rfl
  · intro tag f n recs s hfree hlock hf h1 h80 hrecs hopen habove
    rw [exec_ddata _ _ _ hfree]
    refine next_answered ?_
    change cmdDdata tag (dataFrame f n recs) s.blk = _
    rw [cmdDdata_frame h1 h80 hrecs tag hlock, designData_frame hf h80]
    simp only [hopen, reduceCtorEq, if_false, if_pos habove]
    rfl
  · intro tag f n recs s hfree hlock hf h1 h80 hrecs frame
    rw [exec_ddata _ _ _ hfree]
    have answer := cmdDdata_frame (b := s.blk) (f := f) h1 h80 hrecs tag hlock
    rw [designData_frame hf h80] at answer
    refine ⟨fun hopen hle hlt hfull => ?_, fun hfin => ?_, fun hclosed => ?_, fun hst => ?_⟩
    · refine next_answered (answer.trans ?_)
      have offered : (rawRecords recs).drop (s.blk.ds.load - f) ≠ [] := by
        rw [Ne, List.drop_eq_nil_iff, rawRecords_length n recs hrecs]
        omega
      obtain ⟨r, rest, hr⟩ := List.exists_cons_of_ne_nil offered
      simp only [hopen, reduceCtorEq, if_false, if_neg (show ¬ s.blk.ds.load < f by omega), hr,
        Blocks.offer, if_pos hfull]
      rfl
    · refine next_answered (answer.trans ?_)
      simp only [hfin, reduceCtorEq, if_false, if_true]
      split <;> rfl
    · exact next_answered (answer.trans (if_pos hclosed))
    · refine next_answered (answer.trans ?_)
      rw [if_neg (by simp [hst]), if_pos hst]
  · intro tag p s hfree n
    rw [exec_ddata _ _ _ hfree]
    exact ⟨fun h => next_answered (cmdDdata_unconfigured tag p h),
      fun h hp => next_answered (cmdDdata_short tag p h hp),
      fun h hp hn => next_answered (cmdDdata_value tag p h hp hn),
      fun h hp h1 h80 hl => next_answered (cmdDdata_length tag p h hp h1 h80 hl)⟩

end Sys2Proof.Proofs
end

section
/-!
SUPPORT. A record offered at L: what it becomes when it passes its checks, what it leaves when it fails
one, and a held run that goes on by itself (R12 to R16, R18, R73).
-/

namespace Sys2Proof.Machine

open Sys2Proof.Claims

variable {b : Blocks}

/-! ## A held run that goes on -/

theorem Blocks.heldTest_rests (h : b.rc.runState ≠ .held ∨ b.resumeCondition = false) :
    b.heldTest = b := by
  unfold Blocks.heldTest
  rw [if_neg]
  rintro ⟨hheld, hresume⟩
  rcases h with h | h
  · exact h hheld
  · rw [hresume] at h; cases h

theorem Fc.ready_of_axes (f : Fc) (h : f.x.state = .ready ∧ f.y.state = .ready) :
    f.ready = true := by
  simp [Fc.ready, h.1, h.2]

/-- A start request that may be made starts the cycle of the record at S (R49, R50). -/
theorem Blocks.startPhase_runsOn (hresume : b.rc.resume = none) (h : mayStart b) :
    b.startPhase.2 = none ∧ runsOn b b.startPhase.1 := by
  obtain ⟨hsc, hsel, hax, hbusy, hk⟩ := h
  obtain ⟨r, hr⟩ := b.record_of_planK .run b.ds.sew hk
  have started := b.startRequest_started .run b.ds.sew r
    ⟨hsc, hsel, b.fc.ready_of_axes hax, hbusy⟩ hk hr
  dsimp only at started
  unfold Blocks.startPhase
  simp only [hresume, Option.isSome_none, Bool.false_eq_true, if_false, started, true_and]
  refine ⟨Blocks.goto_runState _ _ _, ?_, ?_, ?_, ?_, ?_⟩
  · rw [Blocks.goto_rc]; exact hresume
  all_goals simp only [Blocks.goto_sc, Blocks.goto_ds]; rfl

theorem Blocks.heldTest_runsOn (hheld : b.rc.runState = .held) (hcond : b.resumeCondition = true)
    (hresume : b.rc.resume = none) (h : mayStart b) : runsOn b b.heldTest := by
  obtain ⟨hend, hruns⟩ := Blocks.startPhase_runsOn hresume h
  rw [Blocks.heldTest, if_pos ⟨hheld, hcond⟩, Blocks.go_end .start b hend]
  exact hruns

/-! ## The checks -/

/-- COUNT, as the statements say it (R14). -/
theorem countCheck_iff (d : Ds) (kind : RecordKind) :
    countCheck d.declared d.load kind = true ↔ counted d kind := by
  have end_iff : ((kind == .endDesign) == (d.load + 1 == d.declared)) = true
      ↔ (kind = .endDesign ↔ d.load + 1 = d.declared) := by
    rw [beq_iff_eq, Bool.eq_iff_iff, beq_iff_eq, beq_iff_eq]
  unfold countCheck counted
  rw [Bool.and_eq_true, Bool.or_eq_true, Bool.or_eq_true, end_iff, bne_iff_ne, beq_iff_eq,
    beq_iff_eq, Config.maxIndex, ← imp_iff_not_or, ← or_iff_not_imp_left]

theorem Rect.holds_iff (r : Rect) (p : Pos) :
    r.holds p = true ↔ r.xMin ≤ p.x ∧ p.x ≤ r.xMax ∧ r.yMin ≤ p.y ∧ p.y ≤ r.yMax :=
  decide_eq_true_iff

section Checks

variable {code d1 d2 : Byte} {kind : RecordKind} {dx dy : Int} {slot : Nat}

theorem Ds.check_format (d : Ds) (field : Option Rect) (origin : Pos)
    (h : ∀ kind dx dy slot, ¬ formed d.load code d1 d2 kind dx dy slot) :
    d.check field origin ⟨code, d1, d2⟩ = .error .format := by
  have none' : formatCheck d.load ⟨code, d1, d2⟩ = none := by
    rw [Option.eq_none_iff_forall_ne_some]
    rintro ⟨kind, dx, dy, slot⟩ hf
    exact h _ _ _ _ ((formatCheck_iff _ _ _ _ _ _ _ _).mp hf)
  simp [Ds.check, none']

theorem Ds.check_count (d : Ds) (field : Option Rect) (origin : Pos)
    (hf : formed d.load code d1 d2 kind dx dy slot) (hc : ¬ counted d kind) :
    d.check field origin ⟨code, d1, d2⟩ = .error .count := by
  rw [← countCheck_iff, Bool.not_eq_true] at hc
  simp [Ds.check, (formatCheck_iff _ _ _ _ _ _ _ _).mpr hf, hc]

/-- A record that passes FORMAT and COUNT is judged by FIELD (R15). -/
theorem Ds.check_field (d : Ds) (field : Option Rect) (origin : Pos)
    (hf : formed d.load code d1 d2 kind dx dy slot) (hc : counted d kind) :
    d.check field origin ⟨code, d1, d2⟩ =
      if field.any (·.holds (origin.add (posAfter d dx dy))) then .ok (d.stored kind dx dy slot)
      else .error .field := by
  rw [← countCheck_iff] at hc
  unfold Ds.check
  rw [(formatCheck_iff _ _ _ _ _ _ _ _).mpr hf]
  simp only [hc, Bool.not_true, Bool.false_eq_true, if_false]
  cases field <;> rfl

theorem inField_iff (b : Blocks) (p : Pos) :
    inField b p ↔ b.activeField.any (·.holds (b.fc.origin.add p)) = true := by
  simp only [inField, Option.any_eq_true, Rect.holds_iff, Pos.add]

/-- Taking the stored record is the store with the record taken (R2, R12, R16, R21). -/
theorem Ds.take_stored (d : Ds) (kind : RecordKind) (dx dy : Int) (slot : Nat) :
    d.take (d.stored kind dx dy slot) = withRecord d kind dx dy slot := by
  unfold Ds.take withRecord Ds.stored widen
  cases d.box <;> rfl

end Checks

/-! ## A frame from L on -/

/-- A frame whose first index is L offers all its records in OPEN (R11, R12). -/
theorem cmdDdata_fromLoad (tag : Byte) (n : Nat) (recs : List Byte) (hlock : b.cf.lock = true)
    (hopen : b.ds.channel = .opened) (hload : b.ds.load < 16777216) (h1 : 1 ≤ n) (h80 : n ≤ 80)
    (hrecs : recs.length = 3 * n) :
    cmdDdata tag (dataFrame b.ds.load n recs) b =
      ((b.offer (rawRecords recs) 0).1, (b.offer (rawRecords recs) 0).2.1.byte ::
        (b.offer (rawRecords recs) 0).1.loadFields (b.offer (rawRecords recs) 0).2.2) := by
  rw [cmdDdata_frame h1 h80 hrecs tag hlock, designData_frame hload h80]
  simp [hopen]

section Offer

variable {r : RawRecord} {rest : List RawRecord} {n : Nat}

theorem Ds.free_ne_zero {d : Ds} (h : d.records.length < 16384) : d.free ≠ 0 := by
  unfold Ds.free Config.storeCapacity
  omega

theorem Blocks.offer_rejected {c : Code} (hroom : b.ds.free ≠ 0)
    (hc : b.ds.check b.activeField b.fc.origin r = .error c) :
    b.offer (r :: rest) n = ({ b with ds.channel := .stalled }, c, n) := by
  simp [Blocks.offer, hroom, hc]

theorem Blocks.offer_accepted {x : StoredRecord} (hroom : b.ds.free ≠ 0)
    (hc : b.ds.check b.activeField b.fc.origin r = .ok x) :
    b.offer (r :: rest) n =
      if x.kind = .endDesign then
        (b.takeRecord x, if rest.isEmpty then .ok else .afterEnd, n + 1)
      else Blocks.offer rest (n + 1) (b.takeRecord x) := by
  simp [Blocks.offer, hroom, hc]

/-- A frame of one record takes it and answers OK, END or not. -/
theorem Blocks.offer_one {x : StoredRecord} (hroom : b.ds.free ≠ 0)
    (hc : b.ds.check b.activeField b.fc.origin r = .ok x) :
    b.offer [r] 0 = (b.takeRecord x, .ok, 1) := by
  rw [Blocks.offer_accepted hroom hc]
  split <;> rfl

end Offer

/-- The load fields after one record taken. -/
theorem loadFields_withRecord {t : Blocks} {kind : RecordKind} {dx dy : Int} {slot : Nat}
    (h : t.ds = withRecord b.ds kind dx dy slot) :
    t.loadFields 1 = 0x01#8 ::
      (enc32 (b.ds.load + 1) ++ enc16 (16384 - (b.ds.records.length + 1))) := by
  have load : t.ds.load = b.ds.load + 1 := by simp [h, Ds.load, withRecord]; omega
  have free : t.ds.free = 16384 - (b.ds.records.length + 1) := by
    simp [h, Ds.free, withRecord, Config.storeCapacity]
  rw [Blocks.loadFields, load, free]
  rfl

/-- The answer to a frame that begins at L and of which one record was taken. -/
theorem cmdDdata_tookOne (tag : Byte) (n : Nat) (recs : List Byte) (hlock : b.cf.lock = true)
    (hopen : b.ds.channel = .opened) (hload : b.ds.load < 16777216) (h1 : 1 ≤ n) (h80 : n ≤ 80)
    (hrecs : recs.length = 3 * n) {t : Blocks} {c : Code} {kind : RecordKind} {dx dy : Int}
    {slot : Nat} (hoffer : b.offer (rawRecords recs) 0 = (t, c, 1))
    (ht : t.ds = withRecord b.ds kind dx dy slot) :
    cmdDdata tag (dataFrame b.ds.load n recs) b =
      (t, [c.byte, 0x01#8] ++
        (enc32 (b.ds.load + 1) ++ enc16 (16384 - (b.ds.records.length + 1)))) := by
  rw [cmdDdata_fromLoad tag n recs hlock hopen hload h1 h80 hrecs, hoffer, loadFields_withRecord ht]
  rfl

/-- The resume condition after a record taken in OPEN (R73). -/
theorem resumeCondition_withRecord {kind : RecordKind} {dx dy : Int} {slot : Nat}
    (hopen : b.ds.channel = .opened) :
    ({ b with ds := withRecord b.ds kind dx dy slot } : Blocks).resumeCondition = true ↔
      kind = .endDesign ∨ b.cf.settings.resumeMark ≤ b.ds.load + 1 - b.ds.sew := by
  have load : (withRecord b.ds kind dx dy slot).load = b.ds.load + 1 := by
    simp [Ds.load, withRecord]; omega
  have finished : (withRecord b.ds kind dx dy slot).channel = .finished ↔ kind = .endDesign := by
    unfold withRecord
    by_cases hk : kind = .endDesign <;> simp [hk, hopen]
  rw [Blocks.resumeCondition, Bool.or_eq_true, decide_eq_true_eq, Ds.endLoaded, beq_iff_eq, finished,
    Ds.pending, load, or_comm]
  rfl

section Passed

variable {code d1 d2 : Byte} {kind : RecordKind} {dx dy : Int} {slot : Nat}
  (hroom : b.ds.records.length < 16384) (hformed : formed b.ds.load code d1 d2 kind dx dy slot)
  (hcounted : counted b.ds kind) (hfield : inField b (posAfter b.ds dx dy))

include hformed hcounted hfield

theorem Ds.check_passed : b.ds.check b.activeField b.fc.origin ⟨code, d1, d2⟩
    = .ok (b.ds.stored kind dx dy slot) := by
  rw [Ds.check_field _ _ _ hformed hcounted, if_pos ((inField_iff _ _).mp hfield)]

include hroom

/-- A frame of one record that passes its checks takes it, and the resume test follows (R16, R73). -/
theorem cmdDdata_takes (tag : Byte) (hlock : b.cf.lock = true) (hopen : b.ds.channel = .opened)
    (hload : b.ds.load < 16777216) {t : Blocks}
    (ht : ({ b with ds := withRecord b.ds kind dx dy slot } : Blocks).heldTest = t)
    (hds : t.ds = withRecord b.ds kind dx dy slot) :
    cmdDdata tag (enc24 b.ds.load ++ [1#8, code, d1, d2]) b =
      (t, [0x00#8, 0x01#8] ++
        (enc32 (b.ds.load + 1) ++ enc16 (16384 - (b.ds.records.length + 1)))) := by
  have offered := Blocks.offer_one (Ds.free_ne_zero hroom)
    (Ds.check_passed hformed hcounted hfield)
  rw [Blocks.takeRecord, Ds.take_stored, ht] at offered
  exact cmdDdata_tookOne tag 1 [code, d1, d2] hlock hopen hload le_rfl (by omega) rfl offered hds

/-- A record behind END is answered AFTER_END (R12). -/
theorem cmdDdata_takesEnd (tag x y z : Byte) (hlock : b.cf.lock = true)
    (hopen : b.ds.channel = .opened) (hload : b.ds.load < 16777216) (hend : kind = .endDesign)
    {t : Blocks} (ht : ({ b with ds := withRecord b.ds kind dx dy slot } : Blocks).heldTest = t)
    (hds : t.ds = withRecord b.ds kind dx dy slot) :
    cmdDdata tag (enc24 b.ds.load ++ [2#8, code, d1, d2, x, y, z]) b =
      (t, [0x13#8, 0x01#8] ++
        (enc32 (b.ds.load + 1) ++ enc16 (16384 - (b.ds.records.length + 1)))) := by
  have offered := Blocks.offer_accepted (rest := [⟨x, y, z⟩]) (n := 0) (Ds.free_ne_zero hroom)
    (Ds.check_passed hformed hcounted hfield)
  rw [if_pos (show (b.ds.stored kind dx dy slot).kind = .endDesign from hend), Blocks.takeRecord,
    Ds.take_stored, ht] at offered
  exact cmdDdata_tookOne tag 2 [code, d1, d2, x, y, z] hlock hopen hload (by omega) (by omega) rfl
    offered hds

end Passed

end Sys2Proof.Machine

namespace Sys2Proof.Proofs

open Sys2Proof.Machine Sys2Proof.Claims

/-- Settles O26: the three checks in their order, and DUNST. -/
theorem aFailedCheckStallsUntilDunst : Obligations.AFailedCheckStallsUntilDunst := by
  unfold Obligations.AFailedCheckStallsUntilDunst
  constructor
  · intro tag code d1 d2 s hfree hlock hopen hload hroom stalled
    have rejected : ∀ c : Code, s.blk.ds.check s.blk.activeField s.blk.fc.origin ⟨code, d1, d2⟩
        = .error c → stalled c.byte := by
      intro c hc
      unfold stalled
      rw [exec_ddata _ _ _ hfree]
      refine next_answered ?_
      change cmdDdata tag (dataFrame s.blk.ds.load 1 [code, d1, d2]) s.blk = _
      rw [cmdDdata_fromLoad tag 1 _ hlock hopen hload le_rfl (by omega) rfl,
        show rawRecords [code, d1, d2] = [⟨code, d1, d2⟩] from rfl,
        Blocks.offer_rejected (Ds.free_ne_zero hroom) hc]
      rfl
    refine ⟨fun hf => rejected .format (Ds.check_format _ _ _ hf), fun kind dx dy slot hf =>
      ⟨fun hc => rejected .count (Ds.check_count _ _ _ hf hc), fun hc hfield =>
        rejected .field ?_⟩⟩
    rw [Ds.check_field _ _ _ hf hc, if_neg (by rwa [← inField_iff])]
  · intro tag s hfree
    rw [exec_dunst _ _ _ hfree]
    exact next_answered (cmdDunst_empty tag s.blk)

/-- Settles O25: a frame of one record that passes its checks takes it and makes the resume test; END is
the last record taken. -/
theorem aStitchIsTaken : Obligations.AStitchIsTaken := by
  unfold Obligations.AStitchIsTaken
  constructor
  · intro tag dx dy fld s hfree hlock hopen hheld h1 hload hroom hdeclared x0 x1 y0 y1 hfld p
      px0 px1 py0 py1
    have hformed : formed s.blk.ds.load 0x01#8 dx dy .stitch dx.toInt dy.toInt 0 :=
      (formed_iff_wellFormed _ _ _ .stitch _ _ _).mpr ⟨h1, rfl, rfl, rfl, x0, x1, y0, y1⟩
    have hcounted : counted s.blk.ds .stitch := by
      refine ⟨fun h => by omega, fun h => ?_⟩
      simp only [reduceCtorEq, false_iff]
      exact hdeclared.resolve_left h
    rw [exec_ddata _ _ _ hfree]
    exact next_answered (cmdDdata_takes hroom hformed hcounted ⟨fld, hfld, px0, px1, py0, py1⟩ tag
      hlock hopen (by omega) (Blocks.heldTest_rests (Or.inl fun h => hheld (List.mem_singleton.mpr h))) rfl)
  · intro tag code d1 d2 kind dx dy slot s hfree hlock hopen hload hroom hformed hcounted hfield b
      fields frame resumes
    have takes : ∀ {t : Blocks}, b.heldTest = t → t.ds = b.ds → _ := fun {t} =>
      cmdDdata_takes hroom hformed hcounted hfield tag hlock hopen hload (t := t)
    have rests : ¬ runIsOf s.blk [.held] → b.heldTest = b := fun h =>
      Blocks.heldTest_rests (Or.inl fun hr => h (List.mem_singleton.mpr hr))
    have resumes_iff : b.resumeCondition = true ↔ resumes := resumeCondition_withRecord hopen
    rw [exec_ddata _ _ _ hfree]
    refine ⟨fun h => ?_, fun hheld hres hnone hstart => ?_, fun hend hheld x y z => ?_⟩
    · have rest : b.heldTest = b := h.elim rests fun h =>
        Blocks.heldTest_rests (Or.inr (Bool.not_eq_true _ ▸ resumes_iff.not.mpr h))
      exact next_answered (takes rest rfl)
    · have runs := Blocks.heldTest_runsOn (b := b) hheld (resumes_iff.mpr hres) hnone hstart
      obtain ⟨-, -, -, -, -, hds⟩ := id runs
      exact ⟨_, next_answered (takes rfl hds), runs, rfl⟩
    · rw [exec_ddata _ _ _ hfree]
      exact next_answered (cmdDdata_takesEnd hroom hformed hcounted hfield tag x y z hlock hopen hload
        hend (rests hheld) rfl)

end Sys2Proof.Proofs
end

section
/-!
SUPPORT. SETW, SETR and SPEED (R80, R163, R164): the settings record read back from its bytes, and the
stages of RC's work, which leave the configuration block alone.
-/

namespace Sys2Proof.Machine

open Sys2Proof.Claims

/-! ## The stages leave the configuration block -/

@[simp] theorem Blocks.pauseFor_cf (b : Blocks) (c : PauseCause) : (b.pauseFor c).cf = b.cf := by
  simp [Blocks.pauseFor]

@[simp] theorem Blocks.passEnd_cf (b : Blocks) : b.passEnd.cf = b.cf := by
  simp [Blocks.passEnd]

theorem Blocks.travel_cf {b b' : Blocks} {o : MoveOwner} {rel : Option Pos}
    (h : b.travel o rel = some b') : b'.cf = b.cf := by
  unfold Blocks.travel at h
  split at h
  · split_ifs at h; cases h; rfl
  · cases h

theorem Blocks.beginChange_cf {b b' : Blocks} {slot : Nat} {scope : HeadId → Bool}
    {kind : ChangeKind} (h : b.beginChange slot scope kind = some b') : b'.cf = b.cf := by
  unfold Blocks.beginChange at h
  split at h <;> cases h
  rfl

theorem Blocks.moveSew_cf {b b' : Blocks} {forward : Bool} (h : b.moveSew forward = some b') :
    b'.cf = b.cf := by
  unfold Blocks.moveSew at h
  split_ifs at h <;> cases h <;> simp

@[simp] theorem Blocks.sequencePhase_cf (b : Blocks) : b.sequencePhase.1.cf = b.cf := by
  unfold Blocks.sequencePhase
  extract_lets _ start travelling
  have hstart : start.cf = b.cf := by unfold start; split <;> rfl
  have htravelling : travelling.cf = b.cf := (Blocks.goto_cf start _ _).trans hstart
  split
  · exact b.passEnd_cf
  · split
    · exact b.advance_cf
    · split
      · split
        · rw [Blocks.pauseFor_cf, htravelling]
        · next ht =>
          have hcf := (Blocks.travel_cf ht).trans htravelling
          split <;> exact hcf
      · exact hstart

@[simp] theorem Blocks.noPlanStop_cf (b : Blocks) (slot i : Nat) :
    (b.noPlanStop slot i).cf = b.cf := by
  unfold Blocks.noPlanStop; dsimp only; split <;> simp

@[simp] theorem Blocks.changePhase_cf (b : Blocks) (slot : Nat) (scope : HeadId → Bool)
    (kind : ChangeKind) : (b.changePhase slot scope kind).1.cf = b.cf := by
  unfold Blocks.changePhase
  split
  · exact b.noPlanStop_cf _ _
  · next hb => exact Blocks.beginChange_cf hb

@[simp] theorem Blocks.reconcilePhase_cf (b : Blocks) : b.reconcilePhase.1.cf = b.cf := by
  unfold Blocks.reconcilePhase; repeat' split
  all_goals simp

@[simp] theorem Blocks.startRequest_cf (b : Blocks) (plan : PlanMode) (i : Nat) :
    (b.startRequest plan i).1.cf = b.cf := by
  unfold Blocks.startRequest; dsimp only; repeat' split
  all_goals rfl

@[simp] theorem Blocks.startPhase_cf (b : Blocks) : b.startPhase.1.cf = b.cf := by
  unfold Blocks.startPhase; dsimp only; repeat' split
  all_goals simp [Blocks.oweParticipants]

@[simp] theorem Blocks.resolvePhase_cf (b : Blocks) (causes : StopCauses) (p : StopPoints) :
    (b.resolvePhase causes p).1.cf = b.cf := by
  unfold Blocks.resolvePhase; dsimp only; repeat' split
  all_goals simp

@[simp] theorem Blocks.changeCheckPhase_cf (b : Blocks) : b.changeCheckPhase.1.cf = b.cf := by
  unfold Blocks.changeCheckPhase; dsimp only; repeat' split
  all_goals simp [Blocks.oweMoved, Blocks.patchChangeDone]
  split <;> simp

@[simp] theorem Blocks.stepPhase_cf (b : Blocks) : b.stepPhase.1.cf = b.cf := by
  unfold Blocks.stepPhase
  split
  · split
    · exact b.endOpBase_cf _ _
    · split
      · exact b.endOpBase_cf _ _
      · split
        · exact b.endOpBase_cf _ _
        · next hm =>
          have hcf := Blocks.moveSew_cf hm
          split
          · simpa using hcf
          · next ht => simpa [Blocks.travel_cf ht] using hcf
  · rfl

@[simp] theorem Blocks.patchTestPhase_cf (b : Blocks) : b.patchTestPhase.1.cf = b.cf := by
  unfold Blocks.patchTestPhase; dsimp only; repeat' split
  all_goals simp

theorem Blocks.phase_cf (b : Blocks) (p : Phase) : (b.phase p).1.cf = b.cf := by
  cases p <;> simp [Blocks.phase]

theorem Blocks.follow_cf (n : Nat) (p : Phase) (b : Blocks) :
    (Blocks.follow n p b).cf = b.cf := by
  induction n generalizing p b with
  | zero => rfl
  | succ n ih =>
    unfold Blocks.follow
    dsimp only
    split
    · exact b.phase_cf p
    · exact (ih _ _).trans (b.phase_cf p)

@[simp] theorem Blocks.go_cf (b : Blocks) (p : Phase) : (b.go p).cf = b.cf :=
  Blocks.follow_cf _ p b

@[simp] theorem Blocks.heldTest_cf (b : Blocks) : b.heldTest.cf = b.cf := by
  unfold Blocks.heldTest; split <;> simp

/-! ## The settings record and its bytes -/

theorem u8_enc8 (n : Nat) (l : List Byte) (h : n < 256) : u8 (enc8 n ++ l) 0 = n :=
  Nat.mod_eq_of_lt h

theorem u8_skip8 (n : Nat) (l : List Byte) (i : Nat) : u8 (enc8 n ++ l) (i + 1) = u8 l i := rfl

theorem u16_skip8 (n : Nat) (l : List Byte) (i : Nat) : u16 (enc8 n ++ l) (i + 1) = u16 l i := rfl

theorem u8_skip16 (n : Nat) (l : List Byte) (i : Nat) : u8 (enc16 n ++ l) (i + 2) = u8 l i := rfl

/-- Each field of a settings record fits its bytes. -/
def Settings.fits (x : Settings) : Prop :=
  x.hostSpeed < 65536 ∧ x.mediumCap < 65536 ∧ x.longCap < 65536 ∧ x.jumpCap < 65536
    ∧ x.startSpeed < 65536 ∧ x.settleCode < 256 ∧ x.breakFloor < 256 ∧ x.breakCount < 256
    ∧ x.looseShort < 256 ∧ x.looseMedium < 256 ∧ x.looseLong < 256 ∧ x.looseCount < 256
    ∧ x.warnThreshold < 65536 ∧ x.bobbinLow < 65536 ∧ x.retention < 65536 ∧ x.pinLimit < 65536
    ∧ x.resumeMark < 65536 ∧ x.loadMark < 65536 ∧ x.isolationLimit < 256
    ∧ x.selectorTimeout < 65536 ∧ x.stallTime < 65536

theorem settingsInRange_fits {b : Blocks} {x : Settings} (h : settingsInRange b x) : x.fits := by
  unfold settingsInRange speedIn timeIn at h
  unfold Settings.fits
  omega

/-- The byte of the loose action (R163). -/
def looseCode : LooseAction → Nat
  | .warn => 0
  | .stop => 1

/-- The byte of the policy (R163). -/
def policyCode : Policy → Nat
  | .stopAll => 0
  | .isolate => 1

/-- The bytes of a settings record, field after field (R185). -/
theorem settingsBytes_eq (x : Settings) : x.bytes =
    enc16 x.hostSpeed ++ (enc16 x.mediumCap ++ (enc16 x.longCap ++ (enc16 x.jumpCap
      ++ (enc16 x.startSpeed ++ (enc8 x.settleCode ++ (enc8 x.breakFloor ++ (enc8 x.breakCount
      ++ (enc8 x.looseShort ++ (enc8 x.looseMedium ++ (enc8 x.looseLong ++ (enc8 x.looseCount
      ++ (enc8 (looseCode x.looseAction) ++ (enc16 x.warnThreshold ++ (enc16 x.bobbinLow
      ++ (enc16 x.retention ++ (enc16 x.pinLimit ++ (enc16 x.resumeMark ++ (enc16 x.loadMark
      ++ (enc8 (policyCode x.policy) ++ (enc8 x.isolationLimit ++ (enc16 x.selectorTimeout
      ++ (enc16 x.stallTime ++ (enc16 0 ++ []))))))))))))))))))))))) := by
  unfold Settings.bytes
  simp only [List.append_assoc, List.append_nil]
  congr

theorem looseCode_lt (a : LooseAction) : looseCode a < 256 := by cases a <;> decide

theorem policyCode_lt (p : Policy) : policyCode p < 256 := by cases p <;> decide

/-- The fields of a settings record that are codes, and the reserved field (R185). -/
theorem settingsBytes_codes (x : Settings) : u8 x.bytes 17 = looseCode x.looseAction
    ∧ u8 x.bytes 30 = policyCode x.policy ∧ u16 x.bytes 36 = 0 := by
  rw [settingsBytes_eq]
  simp only [u8_skip16, u8_skip8, u16_skip16, u16_skip8, u8_enc8 _ _ (looseCode_lt _),
    u8_enc8 _ _ (policyCode_lt _), u16_enc16 0 [] (by decide), and_self]

/-- The settings are read back from the bytes they are shown in (R185). -/
theorem settingsOf_bytes (x : Settings) (h : x.fits) : settingsOf x.bytes = x := by
  obtain ⟨hloose, hpolicy, -⟩ := settingsBytes_codes x
  have action : (if looseCode x.looseAction = 1 then LooseAction.stop else .warn) = x.looseAction := by
    cases x.looseAction <;> rfl
  have policy : (if policyCode x.policy = 1 then Policy.isolate else .stopAll) = x.policy := by
    cases x.policy <;> rfl
  unfold settingsOf
  rw [hloose, hpolicy, action, policy, settingsBytes_eq]
  unfold Settings.fits at h
  simp only [u16_skip16, u8_skip16, u8_skip8, u16_skip8, u16_enc16, u8_enc8, h]

theorem settingsOk_of_inRange {b : Blocks} {x : Settings} (h : settingsInRange b x) :
    b.settingsOk x = true := by
  unfold settingsInRange speedIn timeIn at h
  simp only [Blocks.settingsOk, speedOk, timeOk, within, Bool.and_eq_true, decide_eq_true_eq,
    beq_iff_eq]
  unfold Ds.history
  omega

/-- SETW with a settings record in its ranges is taken (R163). -/
theorem cmdSetw_taken (tag : Byte) (x : Settings) (b : Blocks) (hlock : b.cf.lock = true)
    (hrun : runIsOf b [.idle, .paused, .held, .ended, .halted]) (h : settingsInRange b x) :
    cmdSetw tag x.bytes b = (b.writeSettings x, [0x00#8]) := by
  obtain ⟨hloose, hpolicy, hreserved⟩ := settingsBytes_codes x
  have loose_le : looseCode x.looseAction ≤ 1 := by cases x.looseAction <;> decide
  have policy_le : policyCode x.policy ≤ 1 := by cases x.policy <;> decide
  have length : lengthIs x.bytes 38 = (true, .length) := by
    simp [lengthIs, settingsBytes_eq, enc16, enc8]
  unfold cmdSetw
  rw [settingsOf_bytes x (settingsInRange_fits h), Blocks.isConfigured, length, Blocks.runIs_eq,
    Blocks.judge_cons, if_pos hlock, Blocks.judge_cons, if_pos rfl, Blocks.judge_cons,
    if_pos (decide_eq_true hrun), Blocks.judge_cons,
    if_pos (by simp [settingsOk_of_inRange h, hloose, hpolicy, hreserved, loose_le, policy_le]), Blocks.judge_nil]
  rfl

theorem cmdSetr_empty (tag : Byte) (b : Blocks) :
    cmdSetr tag [] b = if b.cf.lock = false then refused b 0x05#8
      else (b, 0x00#8 :: b.cf.settings.bytes) := by
  have length : lengthIs [] 0 = (true, .length) := rfl
  unfold cmdSetr
  rw [Blocks.isConfigured, length, Blocks.judge_cons, Blocks.judge_cons, Blocks.judge_nil]
  cases b.cf.lock <;> rfl

theorem cmdSpeed_enc16 (tag : Byte) (v : Nat) (b : Blocks) (hv : v < 65536) :
    cmdSpeed tag (enc16 v) b =
      if b.cf.lock = false then refused b 0x05#8
      else if v < 100 ∨ 1200 < v ∨ v % 50 ≠ 0 then refused b 0x03#8
      else ({ b with cf.settings.hostSpeed := v }, [0x00#8]) := by
  have length : lengthIs (enc16 v) 2 = (true, .length) := rfl
  have value : u16 (enc16 v) 0 = v := by simpa using u16_enc16 v [] hv
  have inRange : speedOk 100 1200 v = true ↔ ¬ (v < 100 ∨ 1200 < v ∨ v % 50 ≠ 0) := by
    simp only [speedOk, within, Bool.and_eq_true, decide_eq_true_eq, beq_iff_eq]
    omega
  unfold cmdSpeed
  rw [Blocks.isConfigured, length, value, Blocks.judge_cons, Blocks.judge_cons, if_pos rfl,
    Blocks.judge_cons, Blocks.judge_nil]
  cases hlock : b.cf.lock
  · rfl
  · by_cases h : v < 100 ∨ 1200 < v ∨ v % 50 ≠ 0
    · rw [if_pos rfl, if_neg (inRange.not.mpr (not_not.mpr h)), if_neg (by simp), if_pos h]
      rfl
    · rw [if_pos rfl, if_pos (inRange.mpr h), if_neg (by simp), if_neg h]
      rfl

/-- The resume condition under new settings (R73, R164). -/
theorem resumeCondition_releaseTest (b : Blocks) :
    b.releaseTest.resumeCondition = true ↔
      b.cf.settings.resumeMark ≤ b.ds.load - b.ds.sew ∨ b.ds.channel = .finished := by
  simp [Blocks.resumeCondition, Ds.pending, Ds.endLoaded]

end Sys2Proof.Machine

namespace Sys2Proof.Proofs

open Sys2Proof.Machine Sys2Proof.Claims

/-- Settles O21: SETW makes the release test and then the resume test of a held run; SETR and SPEED by
their tests. -/
theorem settingsAreReplacedAndShown : Obligations.SettingsAreReplacedAndShown := by
  unfold Obligations.SettingsAreReplacedAndShown
  constructor
  · intro tag x s hfree hlock hrun hrange
    let w : Blocks := { s.blk with cf.settings := x }
    refine ⟨_, (exec_setw _ _ _ hfree).trans
      (next_answered (cmdSetw_taken tag x s.blk hlock hrun hrange)), rfl, ?_, ?_, ?_, ?_⟩
    · exact (Blocks.heldTest_cf _).trans (Blocks.releaseTest_cf w)
    · exact (Blocks.moved_writeSettings (.refl _) x).load
    · intro hheld
      have rest : s.blk.writeSettings x = w.releaseTest := Blocks.heldTest_rests (Or.inl fun hr =>
        hheld (List.mem_singleton.mpr (by simpa using hr)))
      simp [answered, State.replied, rest, w]
    · intro hheld b
      have held : b.rc.runState = .held := by simpa [b] using hheld
      refine ⟨fun hres hnone hstart => ?_, fun hmark hfin => ?_⟩
      · exact Blocks.heldTest_runsOn held ((resumeCondition_releaseTest w).mpr hres)
          (by simpa [b] using hnone) hstart
      · have waits : ¬ b.resumeCondition = true := by
          rw [resumeCondition_releaseTest w]
          exact not_or.mpr ⟨Nat.not_le.mpr hmark, hfin⟩
        exact Blocks.heldTest_rests (Or.inr (Bool.not_eq_true _ ▸ waits))
  · intro tag v s hfree hv
    rw [exec_setr _ _ _ hfree, exec_speed _ _ _ hfree]
    exact ⟨next_answered (cmdSetr_empty tag s.blk), next_answered (cmdSpeed_enc16 tag v s.blk hv)⟩

end Sys2Proof.Proofs
end

section
/-!
SUPPORT. BACK, FWD and CLOSE (R22, R81 to R85): the store's values before an index across releases, a
step of the sew point with its travel, and what the end of a run leaves.
-/

namespace Sys2Proof.Machine

open Sys2Proof.Claims

/-! ## The values before an index -/

theorem Ds.releaseOne_record (d : Ds) (i : Nat) (h : d.tail < i) :
    d.releaseOne.record i = d.record i := by
  unfold Ds.releaseOne
  split
  · rfl
  · next r rest hr =>
    have place : i - d.tail = i - (d.tail + 1) + 1 := by omega
    simp only [Ds.record, hr, if_pos (show d.tail + 1 ≤ i from h), if_pos h.le, place,
      List.getElem?_cons_succ]

theorem Ds.record_tail (d : Ds) (r : StoredRecord) (rest : List StoredRecord)
    (h : d.records = r :: rest) : d.record d.tail = some r := by
  simp [Ds.record, h]

/-- The tail values after a release are those after the record released (R3, R23). -/
theorem Ds.releaseOne_before (d : Ds) (i : Nat) (h : d.tail < i) :
    d.releaseOne.posBefore i = d.posBefore i ∧ d.releaseOne.slotBefore i = d.slotBefore i := by
  cases hr : d.records with
  | nil =>
    have same : d.releaseOne = d := by simp [Ds.releaseOne, hr]
    rw [same]
    exact ⟨rfl, rfl⟩
  | cons r rest =>
    have tail : d.releaseOne.tail = d.tail + 1 := by simp [Ds.releaseOne, hr]
    have first : d.releaseOne.tailPos = r.relAfter ∧ d.releaseOne.tailSlot = r.slotAfter := by
      simp [Ds.releaseOne, hr]
    unfold Ds.posBefore Ds.slotBefore
    rw [if_neg h.ne', if_pos h, if_neg h.ne', if_pos h, tail]
    rcases eq_or_ne i (d.tail + 1) with rfl | hne
    · simp [first, d.record_tail r rest hr]
    · have above : d.tail + 1 < i := by omega
      rw [if_neg hne, if_pos above, if_neg hne, if_pos above,
        d.releaseOne_record (i - 1) (by omega)]
      exact ⟨rfl, rfl⟩

theorem Ds.releaseLoop_before (h : Nat) (e : Option Nat) (mark i : Nat) (n : Nat) (d : Ds)
    (x : Bool) (hi : d.sew ≤ i) :
    (Ds.releaseLoop h e mark n d x).1.posBefore i = d.posBefore i
      ∧ (Ds.releaseLoop h e mark n d x).1.slotBefore i = d.slotBefore i := by
  induction n generalizing d x with
  | zero => exact ⟨rfl, rfl⟩
  | succ n ih =>
    unfold Ds.releaseLoop
    split
    · next hm =>
      have history : h < d.sew - d.tail := by
        simp only [Ds.mayRelease, Ds.history, Bool.and_eq_true] at hm
        exact of_decide_eq_true hm.1
      obtain ⟨hpos, hslot⟩ := d.releaseOne_before i (by omega)
      obtain ⟨ihpos, ihslot⟩ := ih d.releaseOne _ (by simpa using hi)
      exact ⟨ihpos.trans hpos, ihslot.trans hslot⟩
    · exact ⟨rfl, rfl⟩

/-- A release test leaves the values before every index from S on (R3, R23). -/
theorem Blocks.releaseTest_before (b : Blocks) (i : Nat) (hi : b.ds.sew ≤ i) :
    b.releaseTest.ds.posBefore i = b.ds.posBefore i
      ∧ b.releaseTest.ds.slotBefore i = b.ds.slotBefore i := by
  have kept := Ds.releaseLoop_before b.cf.settings.retention b.e b.cf.settings.loadMark i
    b.ds.records.length b.ds false hi
  unfold Blocks.releaseTest
  dsimp only
  split <;> exact kept

/-! ## A step of the sew point -/

/-- A step of BACK or FWD leaves all but the store, the slot in effect and the report set (R22, R68). -/
theorem Blocks.moveSew_keeps {b b' : Blocks} {forward : Bool} (h : b.moveSew forward = some b') :
    b'.fc = b.fc ∧ b'.sc = b.sc ∧ b'.hu = b.hu ∧ b'.rt = b.rt ∧ b'.tm = b.tm
      ∧ b'.rc = { b.rc with slotInEffect := b'.ds.slotBefore b'.ds.sew } := by
  unfold Blocks.moveSew at h
  split_ifs at h with _ hroom <;> cases h
  · simp only [Blocks.advance, if_pos hroom, Blocks.readSlot_fc, Blocks.readSlot_sc,
      Blocks.readSlot_hu, Blocks.readSlot_rt, Blocks.readSlot_tm, Blocks.releaseTest_fc,
      Blocks.releaseTest_sc, Blocks.releaseTest_hu, Blocks.releaseTest_rt, Blocks.releaseTest_tm,
      true_and]
    simp only [Blocks.readSlot, Blocks.releaseTest_rc]
  · exact ⟨rfl, rfl, rfl, rfl, rfl, rfl⟩

theorem Blocks.moveSew_back (b : Blocks) (h : b.ds.tail < b.ds.sew) :
    ∃ b', b.moveSew false = some b' ∧ b'.ds = { b.ds with sew := b.ds.sew - 1 } := by
  refine ⟨_, if_pos h, ?_⟩
  simp only [Blocks.readSlot_ds, Ds.stepBack, if_pos h]

theorem Blocks.moveSew_forward (b : Blocks) (h : b.ds.sew < b.ds.load) :
    ∃ b', b.moveSew true = some b' ∧ b'.ds.sew = b.ds.sew + 1 ∧ b'.ds.load = b.ds.load
      ∧ b'.ds.posBefore (b.ds.sew + 1) = b.ds.posBefore (b.ds.sew + 1)
      ∧ b'.ds.slotBefore (b.ds.sew + 1) = b.ds.slotBefore (b.ds.sew + 1) := by
  have moved : b.ds.advance = { b.ds with sew := b.ds.sew + 1 } := if_pos h
  obtain ⟨hpos, hslot⟩ := Blocks.releaseTest_before { b with ds := b.ds.advance } (b.ds.sew + 1)
    (by simp [moved])
  refine ⟨b.advance, if_pos h, ?_⟩
  simp only [Blocks.advance, if_pos h, Blocks.readSlot_ds, Blocks.releaseTest_sew,
    Blocks.releaseTest_load]
  exact ⟨by rw [moved], b.ds.advance_load, hpos.trans (by rw [moved]; rfl),
    hslot.trans (by rw [moved]; rfl)⟩

/-- A frame that stands off a position is sent there (R33). -/
theorem Fc.depart_off (f : Fc) (o : MoveOwner) (p : Pos)
    (h : f.x.pos ≠ some p.x ∨ f.y.pos ≠ some p.y) : f.depart o p = frameSent f o p := by
  have moving : (f.x.depart p.x).state = .moving ∨ (f.y.depart p.y).state = .moving :=
    h.imp (fun hx => by rw [AxisRec.depart_away _ _ hx]) (fun hy => by rw [AxisRec.depart_away _ _ hy])
  have unready : ((f.x.depart p.x).state == .ready && (f.y.depart p.y).state == .ready) = false := by
    rcases moving with hm | hm <;> simp [hm]
  unfold Fc.depart
  simp only [Fc.ready, unready, Bool.false_eq_true, if_false]
  rfl

/-- A step of BACK or FWD whose travel has a way to go (R83). -/
theorem Blocks.go_step {b b' : Blocks} {tag : Byte} {base : BaseState} {forward : Bool} {n : Nat}
    {p : Pos} (hop : b.rc.op = some ⟨tag, base, .repo ⟨forward, n + 1, false⟩⟩)
    (hm : b.moveSew forward = some b') (hready : b.fc.ready = true)
    (hp : b'.ds.posBefore b'.ds.sew = some p) (hoff : standsOff b (b.fc.origin.add p)) :
    b.go .step = ({ b' with fc := frameSent b.fc .step (b.fc.origin.add p) } : Blocks).setWork
      (.repo ⟨forward, n, false⟩) := by
  obtain ⟨hfc, -⟩ := Blocks.moveSew_keeps hm
  have sent := Blocks.travel_some b' .step p (by rw [hfc]; exact hready)
  rw [hfc, Fc.depart_off _ _ _ hoff] at sent
  have stage : b.stepPhase = (({ b' with fc := frameSent b.fc .step (b.fc.origin.add p) } :
      Blocks).setWork (.repo ⟨forward, n, false⟩), none) := by
    simp only [Blocks.stepPhase, hop, Bool.false_eq_true, if_false, hm, hp, sent]
    rfl
  rw [Blocks.go_end .step b (by rw [Blocks.phase, stage]), Blocks.phase, stage]

/-- The conditions of BACK and FWD, met but for the number of steps (R81, R82). -/
theorem judge_steps {b : Blocks} {n : Nat} (largest : Nat) (a : Answer) (hlock : b.cf.lock = true)
    (hn : n < 65536) (hpaused : b.rc.runState = .paused) (hready : b.fc.ready = true) :
    b.judgeWith (b.stepConditions (enc16 n) largest) (largestField largest) a =
      if 1 ≤ n ∧ n ≤ largest then a else (b, 0x03#8 :: enc16 largest) := by
  have length : lengthIs (enc16 n) 2 = (true, .length) := rfl
  have steps : u16 (enc16 n) 0 = n := by simpa using u16_enc16 n [] hn
  unfold Blocks.stepConditions
  rw [Blocks.isConfigured, length, Blocks.notEstopped, Blocks.runIs_eq, steps, Blocks.judgeWith_cons,
    if_pos hlock, Blocks.judgeWith_cons, if_pos rfl, Blocks.judgeWith_cons,
    if_pos (by simp [hpaused]), Blocks.judgeWith_cons, if_pos (by simp [hpaused]),
    Blocks.judgeWith_cons, if_pos hready, Blocks.judgeWith_cons, Blocks.judgeWith_nil]
  simp only [within, decide_eq_true_eq]
  rfl

theorem Blocks.forwardBound_eq (b : Blocks) : b.forwardBound = forwardMost b := by
  have finished : (b.ds.endLoaded = true) = (b.ds.channel = .finished) := by
    simp [Ds.endLoaded]
  unfold Blocks.forwardBound forwardMost Blocks.pinStop
  simp only [finished]
  cases b.e <;> rfl

/-- What the first step of BACK or FWD leaves, once S has moved. -/
structure Stepped (b t : Blocks) (tag : Byte) (forward : Bool) (n : Nat) (p : Pos) : Prop where
  runState : t.rc.runState = .reposition
  op : t.rc.op = some ⟨tag, .paused b.rc.pauseCause, .repo ⟨forward, n, false⟩⟩
  slot : t.rc.slotInEffect = t.ds.slotBefore t.ds.sew
  fc : t.fc = frameSent b.fc .step (b.fc.origin.add p)
  sc : t.sc = b.sc
  hu : t.hu = b.hu
  rt : t.rt = b.rt
  tm : t.tm = b.tm

/-- BACK and FWD taken with the flag clear and the frame off the next position (R83). -/
theorem Blocks.beginStepping_stepped {b b' : Blocks} {tag : Byte} {forward : Bool} {n : Nat} {p : Pos}
    (hpaused : b.rc.runState = .paused) (hready : b.fc.ready = true) (hflag : b.fc.offPosition = false)
    (hm : (b.beginOp tag (.repo ⟨forward, n + 1, false⟩) .reposition).moveSew forward = some b')
    (hp : b'.ds.posBefore b'.ds.sew = some p) (hoff : standsOff b (b.fc.origin.add p)) :
    (b.beginStepping tag forward (n + 1)).ds = b'.ds
      ∧ Stepped b (b.beginStepping tag forward (n + 1)) tag forward n p := by
  have base : b.baseState = .paused b.rc.pauseCause := by simp [Blocks.baseState, hpaused]
  have began : (b.beginOp tag (.repo ⟨forward, n + 1, false⟩) .reposition).rc =
      { b.rc with op := some ⟨tag, .paused b.rc.pauseCause, .repo ⟨forward, n + 1, false⟩⟩
                  runState := .reposition, pauseCause := none } := by
    rw [Blocks.beginOp, Blocks.goto_rc, base]
  obtain ⟨-, hsc, hhu, hrt, htm, hrc⟩ := Blocks.moveSew_keeps hm
  rw [began] at hrc
  have stepped := Blocks.go_step (tag := tag) (base := .paused b.rc.pauseCause) (p := p)
    (by rw [began]) hm (by simpa using hready) hp (by simpa [standsOff] using hoff)
  have taken : b.beginStepping tag forward (n + 1) = ({ b' with
      fc := frameSent b.fc .step (b.fc.origin.add p) } : Blocks).setWork
        (.repo ⟨forward, n, false⟩) := by
    simp only [Blocks.beginStepping, Blocks.beginOp_fc, hflag, Bool.false_eq_true, if_false, stepped]
  rw [taken]
  refine ⟨rfl, ?_, ?_, ?_, rfl, ?_, ?_, ?_, ?_⟩
  · simp [Blocks.setWork, hrc]
  · simp [Blocks.setWork, hrc]
  · simp [Blocks.setWork, hrc]
  · simpa using hsc
  · simpa using hhu
  · simpa using hrt
  · simpa [Blocks.setWork] using htm

/-! ## CLOSE -/

theorem Blocks.noRanges_iff (b : Blocks) : b.noRanges = true ↔ ∀ h : HeadId, b.rt.get h = [] := by
  simp only [Blocks.noRanges, Blocks.rangeTotal, beq_iff_eq, List.sum_eq_zero_iff, List.mem_map,
    forall_exists_index, and_imp, forall_apply_eq_imp_iff₂, List.length_eq_zero_iff]
  exact ⟨fun h g => h g (by cases g <;> decide), fun h g _ => h g⟩

/-- CLOSE in a state that takes it: its flag is tested, and then the ranges (R85; log 10). -/
theorem cmdClose_flag (tag d : Byte) (b : Blocks) (hlock : b.cf.lock = true)
    (hrun : runIsOf b [.paused, .ended, .halted]) :
    cmdClose tag [d] b =
      if 1 < d.toNat then refused b 0x03#8
      else if b.noRanges = true ∨ d = 1#8 then (b.closeTaken, [0x00#8])
      else refused b 0x1A#8 := by
  have length : lengthIs [d] 1 = (true, .length) := rfl
  have code : u8 [d] 0 = d.toNat := rfl
  have value : decide (u8 [d] 0 ≤ 1) = true ↔ ¬ 1 < d.toNat := by
    rw [decide_eq_true_iff, code, Nat.not_lt]
  have drop : (b.noRanges || u8 [d] 0 == 1) = true ↔ b.noRanges = true ∨ d = 1#8 := by
    rw [Bool.or_eq_true, beq_iff_eq, code, ← BitVec.toNat_inj]
    rfl
  unfold cmdClose
  rw [Blocks.isConfigured, length, Blocks.runIs_eq, Blocks.judge_cons, if_pos hlock,
    Blocks.judge_cons, if_pos rfl, Blocks.judge_cons, if_pos (decide_eq_true hrun),
    Blocks.judge_cons, Blocks.judge_cons, Blocks.judge_nil]
  by_cases hd : 1 < d.toNat
  · rw [if_neg (fun h => value.mp h hd), if_pos hd]
    rfl
  · rw [if_pos (value.mpr hd), if_neg hd]
    by_cases hr : b.noRanges = true ∨ d = 1#8
    · rw [if_pos (drop.mpr hr), if_pos hr]
      rfl
    · rw [if_neg (fun h => hr (drop.mp h)), if_neg hr]
      rfl

theorem Blocks.emptyStore_rc (b : Blocks) :
    b.emptyStore.rc = { b.rc with slotInEffect := none } := by
  rw [Blocks.emptyStore_eq]

theorem Blocks.setRanges_rt (b : Blocks) (rt : Eight (List Range)) : (b.setRanges rt).rt = rt := by
  unfold Blocks.setRanges; dsimp only; split <;> simp

/-- RC after a CLOSE that is taken (R85). -/
theorem Blocks.closeTaken_rc (b : Blocks) :
    b.closeTaken.rc = { b.rc with
      slotInEffect := none, causes := StopCauses.none, runExists := false
      runState := if b.rc.runState = .halted then .halted else .idle
      pauseCause := none } := by
  simp [Blocks.closeTaken, Blocks.goto_rc, Blocks.emptyStore_rc, Blocks.standDown]

/-- What a CLOSE that is taken leaves, and what becomes of the ranges and the heads (R85). -/
theorem Blocks.closeTaken_keeps (b : Blocks) :
    b.closeTaken.rt = Eight.const [] ∧ b.closeTaken.hu = b.standDown.hu ∧ b.closeTaken.fc = b.fc
      ∧ b.closeTaken.sc = b.sc ∧ b.closeTaken.fl = b.fl ∧ b.closeTaken.tp = b.tp
      ∧ b.closeTaken.cf = b.cf := by
  simp [Blocks.closeTaken, Blocks.standDown, Blocks.setRanges_rt]

end Sys2Proof.Machine

namespace Sys2Proof.Proofs

open Sys2Proof.Machine Sys2Proof.Claims

/-- Settles O35: BACK and FWD by the number of steps; a step that is taken moves S and sends the frame. -/
theorem backAndFwdStepTheSewPoint : Obligations.BackAndFwdStepTheSewPoint := by
  unfold Obligations.BackAndFwdStepTheSewPoint
  intro tag n s hfree hlock hn hpaused hax
  have hready := s.blk.fc.ready_of_axes hax
  have judged := fun largest a => judge_steps (b := s.blk) largest a hlock hn hpaused hready
  have back : ∀ a, cmdBack tag (enc16 n) s.blk = a →
      exec (.back tag (enc16 n)) s = .next (answered s 0x24#8 tag a) := fun a ha => by
    rw [exec_back _ _ _ hfree]
    exact next_answered ha
  have fwd : ∀ a, cmdFwd tag (enc16 n) s.blk = a →
      exec (.fwd tag (enc16 n)) s = .next (answered s 0x25#8 tag a) := fun a ha => by
    rw [exec_fwd _ _ _ hfree]
    exact next_answered ha
  have steps : u16 (enc16 n) 0 = n := by simpa using u16_enc16 n [] hn
  refine ⟨fun _ hout => ?_, fun p h1 hle hflag hp hoff => ?_, fun _ hout => ?_,
    fun p h1 hle hflag htail hp hoff => ?_⟩
  · exact back _ ((judged _ _).trans (if_neg (by unfold Ds.history; omega)))
  · obtain ⟨m, rfl⟩ : ∃ m, n = m + 1 := ⟨n - 1, by omega⟩
    let b := s.blk.beginOp tag (.repo ⟨false, m + 1, false⟩) .reposition
    have hds : b.ds = s.blk.ds := Blocks.beginOp_ds _ _ _ _
    obtain ⟨b', hm, hb'⟩ := b.moveSew_back (by rw [hds]; omega)
    rw [hds] at hb'
    obtain ⟨htds, ht⟩ := Blocks.beginStepping_stepped hpaused hready hflag hm
      (by rw [hb']; exact hp) hoff
    refine ⟨_, back _ ((judged _ _).trans (if_pos ⟨h1, hle⟩)), rfl, ?_⟩
    rw [steps]
    refine ⟨ht.runState, ht.op, htds.trans hb', ?_, ht.fc, ht.sc, ht.hu, ht.rt, ht.tm⟩
    refine ht.slot.trans ?_
    rw [htds, hb']
    rfl
  · exact fwd _ ((judged _ _).trans
      ((if_neg (by rw [Blocks.forwardBound_eq]; omega)).trans (by rw [Blocks.forwardBound_eq])))
  · obtain ⟨m, rfl⟩ : ∃ m, n = m + 1 := ⟨n - 1, by omega⟩
    let b := s.blk.beginOp tag (.repo ⟨true, m + 1, false⟩) .reposition
    have hds : b.ds = s.blk.ds := Blocks.beginOp_ds _ _ _ _
    have ahead : s.blk.ds.sew < s.blk.ds.load := by
      unfold forwardMost at hle
      dsimp only at hle
      split at hle <;> split at hle <;> omega
    obtain ⟨b', hm, hsew, hload, hpos, hslot⟩ := b.moveSew_forward (by rw [hds]; exact ahead)
    rw [hds] at hsew hload hpos hslot
    obtain ⟨htds, ht⟩ := Blocks.beginStepping_stepped hpaused hready hflag hm
      (by rw [hsew, hpos]; exact hp) hoff
    refine ⟨_, fwd _ ((judged _ _).trans (if_pos ⟨h1, by rwa [Blocks.forwardBound_eq]⟩)), rfl, ?_⟩
    rw [steps]
    refine ⟨ht.runState, ht.op, ?_, ?_, ?_, ht.fc, ht.sc, ht.hu, ht.rt, ht.tm⟩
    · exact (congrArg Ds.sew htds).trans hsew
    · exact (congrArg Ds.load htds).trans hload
    · refine ht.slot.trans ?_
      rw [htds, hsew, hslot]

/-- Settles O36: the tests of CLOSE in their order, and the end of the run. -/
theorem closeEndsTheRun : Obligations.CloseEndsTheRun := by
  unfold Obligations.CloseEndsTheRun
  intro tag d s hfree hlock hrun
  have answer := cmdClose_flag tag d s.blk hlock hrun
  rw [exec_close _ _ _ hfree]
  refine ⟨fun hd => next_answered (answer.trans (if_pos hd)), ?_, fun htaken => ?_⟩
  · rintro rfl ⟨h, hh⟩
    have ranges : ¬ (s.blk.noRanges = true ∨ 0#8 = 1#8) := by
      rw [Blocks.noRanges_iff]
      rintro (hnone | hd)
      · exact hh (hnone h)
      · exact absurd hd (by decide)
    exact next_answered (answer.trans ((if_neg (by decide)).trans (if_neg ranges)))
  · have flag : ¬ 1 < d.toNat := by
      rcases htaken with rfl | ⟨rfl, -⟩ <;> decide
    have taken : s.blk.noRanges = true ∨ d = 1#8 :=
      htaken.elim Or.inr fun h => Or.inl ((Blocks.noRanges_iff _).mpr h.2)
    obtain ⟨hrt, hhu, hfc, hsc, hfl, htp, hcf⟩ := s.blk.closeTaken_keeps
    have hrc := s.blk.closeTaken_rc
    refine ⟨_, next_answered (answer.trans ((if_neg flag).trans (if_pos taken))), rfl, ?_,
      s.blk.closeTaken_ds, ?_, ?_, ?_, ?_, ?_, ?_, ?_, hfc, hsc, hfl, htp, hcf⟩
    · intro h
      exact (congrArg (·.get h) hrt).trans (Eight.get_const _ _)
    · intro h
      exact (congrArg (·.get h) hhu).trans (Eight.get_tabulate _ _)
    · exact congrArg Rc.runExists hrc
    · exact congrArg Rc.slotInEffect hrc
    · exact congrArg Rc.causes hrc
    · exact congrArg Rc.pauseCause hrc
    · exact congrArg Rc.runState hrc
    · exact (congrArg Rc.opRecord hrc).trans rfl

end Sys2Proof.Proofs
end

section
/-!
SUPPORT. Missed ranges and the answer to a fault that names a head (R134 to R137, R144, R150 to R155):
what closing and opening a range does to a list, the isolation decision, what ISOLATE leaves, and how
STOP_ALL meets a run and a patch run.
-/

namespace Sys2Proof.Machine

open Sys2Proof.Claims

/-! ## Closing a range -/

theorem closeList_closed (s : Nat) (l : List Range) (h : ∀ r ∈ l, r.b ≠ none) :
    closeList s l = l := by
  induction l with
  | nil => rfl
  | cons r l ih =>
    obtain ⟨a, e⟩ := r
    cases e with
    | none => exact absurd rfl (h ⟨a, none⟩ List.mem_cons_self)
    | some e =>
      have rest : closeList s l = l := ih fun r hr => h r (List.mem_cons_of_mem _ hr)
      exact congrArg (⟨a, some e⟩ :: ·) rest

/-- The one open range of a list, closed: it ends at S, or is removed when it would hold nothing
(R137). -/
theorem closeList_open (s a : Nat) (l : List Range) (h : ∀ r ∈ l, r.b ≠ none) :
    closeList s (l ++ [⟨a, none⟩]) = if a < s then l ++ [⟨a, some s⟩] else l := by
  have split : closeList s (l ++ [⟨a, none⟩]) = closeList s l ++ closeList s [⟨a, none⟩] :=
    List.filterMap_append
  have last : closeList s [⟨a, none⟩] = if a < s then [⟨a, some s⟩] else [] := by
    by_cases ha : a < s <;> simp [closeList, ha]
  rw [split, closeList_closed s l h, last]
  split_ifs
  · rfl
  · exact List.append_nil l

theorem rises_self (e : Option Nat) : rises e e = false := by
  cases e <;> simp [rises]

/-- E depends on the starts of the ranges alone (R136). -/
theorem earliest_congr {rt rt' : Eight (List Range)}
    (h : ∀ g : HeadId, (rt.get g).map (·.a) = (rt'.get g).map (·.a)) :
    earliest rt = earliest rt' := by
  unfold earliest
  rw [funext h]

/-- New ranges with the E of the old: no release test (R140). -/
theorem Blocks.setRanges_still (b : Blocks) (rt : Eight (List Range)) (h : earliest rt = b.e) :
    b.setRanges rt = { b with rt := rt } := by
  have level : rises b.e ({ b with rt := rt } : Blocks).e = false := by
    rw [show ({ b with rt := rt } : Blocks).e = b.e from h, rises_self]
  unfold Blocks.setRanges
  dsimp only
  rw [level]
  rfl

theorem Blocks.closeRange_rt (b : Blocks) (h g : HeadId) (s : Nat) :
    (b.closeRange h s).rt.get g = if g = h then closeList s (b.rt.get g) else b.rt.get g := by
  rw [Blocks.closeRange, Blocks.setRanges_rt, Eight.get_update]

/-- A range that stays when it closes keeps its start, and so E and the store (R136, R137). -/
theorem Blocks.closeRange_stays (b : Blocks) (h : HeadId) (a s : Nat) (l : List Range)
    (hl : b.rt.get h = l ++ [⟨a, none⟩]) (hclosed : ∀ r ∈ l, r.b ≠ none) (ha : a < s) :
    (b.closeRange h s).e = b.e ∧ (b.closeRange h s).ds = b.ds := by
  have starts : earliest (b.rt.update h (closeList s)) = b.e := by
    refine earliest_congr fun g => ?_
    rw [Eight.get_update]
    split_ifs with hg
    · subst hg
      rw [hl, closeList_open s a l hclosed, if_pos ha, List.map_append, List.map_append]
      rfl
    · rfl
  rw [Blocks.closeRange, b.setRanges_still _ starts]
  exact ⟨starts, rfl⟩

/-! ## Opening a range -/

/-- A running minimum is the least of its start and the values met. -/
theorem foldl_min_start (l : List Range) (a : Nat) :
    l.foldl (fun m r => min m r.a) a ≤ a
      ∧ (∀ r ∈ l, l.foldl (fun m r => min m r.a) a ≤ r.a)
      ∧ (l.foldl (fun m r => min m r.a) a = a
        ∨ ∃ r ∈ l, l.foldl (fun m r => min m r.a) a = r.a) := by
  induction l generalizing a with
  | nil => simp
  | cons r l ih =>
    obtain ⟨least, below, reached⟩ := ih (min a r.a)
    rw [List.foldl_cons]
    refine ⟨least.trans (min_le_left _ _), ?_, ?_⟩
    · rintro r' (_ | ⟨_, hr'⟩)
      · exact least.trans (min_le_right _ _)
      · exact below r' hr'
    · rcases reached with hm | ⟨r', hr', hm⟩
      · rcases min_choice a r.a with ha | ha
        · exact Or.inl (hm.trans ha)
        · exact Or.inr ⟨r, List.mem_cons_self, hm.trans ha⟩
      · exact Or.inr ⟨r', List.mem_cons_of_mem _ hr', hm⟩

/-- The ranges an opening one keeps and its start, the least of those it absorbs (R135). -/
theorem openList_eq (a : Nat) (l : List Range) :
    ∃ m, leastStart l a m
      ∧ openList a l = l.filter (fun r => r.b.any (fun e => decide (e ≤ a))) ++ [⟨m, none⟩] := by
  let above (r : Range) : Bool := match r.b with | some e => decide (a < e) | none => true
  have keeps : ∀ r : Range, (!above r) = r.b.any (fun e => decide (e ≤ a)) := by
    rintro ⟨s, _ | e⟩
    · rfl
    · exact (decide_not (p := a < e)).symm.trans (decide_eq_decide.mpr Nat.not_lt)
  have taken : ∀ r : Range, r ∈ l.filter above ↔
      r ∈ l ∧ r.b.any (fun e => decide (e ≤ a)) = false := by
    intro r
    rw [List.mem_filter, ← keeps r, Bool.not_eq_false']
  obtain ⟨least, below, reached⟩ := foldl_min_start (l.filter above) a
  refine ⟨_, ⟨least, fun r hr ha => below r ((taken r).mpr ⟨hr, ha⟩), ?_⟩, ?_⟩
  · exact reached.imp_right fun ⟨r, hr, hm⟩ => ⟨r, ((taken r).mp hr).1, ((taken r).mp hr).2, hm⟩
  · exact congrArg (· ++ _) (List.filter_congr fun r _ => keeps r)

theorem keptRanges_closed (b : Blocks) (h : HeadId) (a : Nat) : ∀ r ∈ keptRanges b h a, r.b ≠ none := by
  intro r hr hb
  have some_end := (List.mem_filter.mp hr).2
  rw [hb] at some_end
  exact absurd some_end (by simp)

/-! ## The isolation decision -/

theorem Blocks.boundStart_eq (b : Blocks) (c : Condition) :
    b.boundStart (c.start b.ds.sew) = rangeStart b c := by
  have start : c.start b.ds.sew = faultStart b c := by
    cases c with
    | selectorChange g n s k => cases k <;> rfl
    | _ => rfl
  unfold Blocks.boundStart rangeStart
  rw [start]
  rcases b.sc.plan with _ | plan
  · rfl
  · rcases b.sc.cycle with _ | cycle
    · cases plan <;> rfl
    · cases plan with
      | run =>
        have bounded : ∀ a p i : Nat, (if a + p ≤ i then i + 1 - p else a) = max a (i + 1 - p) := by
          intro a p i
          split_ifs <;> omega
        exact bounded _ _ _
      | _ => rfl

theorem Blocks.mayIsolate_iff (b : Blocks) (h : HeadId) (c : Condition) :
    b.mayIsolate h c = true ↔ isolates b h c := by
  obtain ⟨m, -, opened⟩ := openList_eq (rangeStart b c) (b.rt.get h)
  have room : (openList (b.boundStart (c.start b.ds.sew)) (b.rt.get h)).length ≤ Config.maxRanges ↔
      (keptRanges b h (rangeStart b c)).length < 8 := by
    rw [b.boundStart_eq, opened, List.length_append]
    exact Nat.lt_iff_add_one_le.symm
  have sews : Id8.all.any (fun g => g != h && b.configured g && (b.hu.get g).state == .sewing) = true ↔
      ∃ g : HeadId, g ≠ h ∧ g.num ≤ b.cf.config.headCount ∧ (b.hu.get g).state = .sewing := by
    have every : ∀ g : HeadId, g ∈ Id8.all := fun g => by cases g <;> decide
    simp only [List.any_eq_true, every, true_and, Bool.and_eq_true, bne_iff_ne, beq_iff_eq,
      Blocks.configured, decide_eq_true_eq, and_assoc]
  unfold Blocks.mayIsolate isolates
  simp only [Bool.and_eq_true, sews, decide_eq_true_eq, room, beq_iff_eq, bne_iff_ne, and_assoc]

/-- The faults that follow the policy name their head, and are decided by it (R134, R149). -/
theorem policyFault_decides {b : Blocks} {h : HeadId} {c : Condition} (hc : policyFault b h c) :
    c.head = some h ∧ (c.kind ≠ .noPlan ∧ c.kind ≠ .pinLimit)
      ∧ b.action c = if b.mayIsolate h c then .isolate else .stopAll := by
  cases c with
  | threadBreak g n s i a =>
    obtain rfl : g = h := hc
    exact ⟨rfl, ⟨nofun, nofun⟩, rfl⟩
  | tensionLoose g n s i =>
    obtain ⟨rfl, hstop⟩ := hc
    refine ⟨rfl, ⟨nofun, nofun⟩, ?_⟩
    rw [Blocks.action, hstop]
    rfl
  | bobbinEmpty g n s i =>
    obtain rfl : g = h := hc
    exact ⟨rfl, ⟨nofun, nofun⟩, rfl⟩
  | selectorChange g n s k =>
    obtain rfl : g = h := hc
    exact ⟨rfl, ⟨nofun, nofun⟩, rfl⟩
  | _ => exact hc.elim

theorem policyFault_isolated {b : Blocks} {h : HeadId} {c : Condition} (hc : policyFault b h c)
    (hi : isolates b h c) : b.action c = .isolate := by
  rw [(policyFault_decides hc).2.2, if_pos ((b.mayIsolate_iff h c).mpr hi)]

theorem policyFault_stopped {b : Blocks} {h : HeadId} {c : Condition} (hc : policyFault b h c)
    (hi : ¬ isolates b h c) : b.action c = .stopAll := by
  rw [(policyFault_decides hc).2.2, if_neg (fun hm => hi ((b.mayIsolate_iff h c).mp hm))]

/-! ## ISOLATE -/

theorem Blocks.writeEntry_heads (b : Blocks) (c : Condition) :
    (b.writeEntry c).ru.heads = b.ru.heads := by
  unfold Blocks.writeEntry
  cases c.head <;> exact (Blocks.onlyRaised_raise _ _).heads

theorem Eight.update_eq_set {α : Type} (e : Eight α) (i : Id8) (f : α → α) :
    e.update i f = e.set i (f (e.get i)) := by
  refine Eight.ext_get fun j => ?_
  rw [Eight.get_update, Eight.get_set]
  split_ifs with h
  · rw [h]
  · rfl

theorem rangeStart_writeEntry (b : Blocks) (c d : Condition) :
    rangeStart (b.writeEntry c) d = rangeStart b d := by
  simp only [rangeStart, faultStart, Blocks.writeEntry_sc, Blocks.writeEntry_ds, Blocks.writeEntry_cf]

theorem keptRanges_writeEntry (b : Blocks) (c : Condition) (h : HeadId) (a : Nat) :
    keptRanges (b.writeEntry c) h a = keptRanges b h a := by
  simp only [keptRanges, Blocks.writeEntry_rt]

/-- A head isolated, its range still open: ISOLATE outside ENDED (R135). -/
def Blocks.openIsolated (b : Blocks) (h : HeadId) (c : Condition) : Blocks :=
  (((b.setRanges (b.rt.update h (openList (b.boundStart (c.start b.ds.sew))))).modHead h
    (fun u => { u with state := .isolated, faultFlag := true })).headEvent h .isolated).monitorLeaves h

/-- In ENDED the range closes at once, and the head becomes STANDBY (R152). -/
theorem Blocks.isolate_eq (b : Blocks) (h : HeadId) (c : Condition) :
    b.isolate h c = if b.rc.runState = .ended then
      ((b.openIsolated h c).closeRange h (b.ds.load - 1)).modHead h
        (fun u => { u with state := .standby })
    else b.openIsolated h c := rfl

theorem Blocks.openIsolated_hu (b : Blocks) (h : HeadId) (c : Condition) :
    (b.openIsolated h c).hu =
      b.hu.update h (fun u => { u with state := .isolated, faultFlag := true }) := by
  simp only [Blocks.openIsolated, Blocks.monitorLeaves_hu, Blocks.headEvent_hu, Blocks.modHead,
    Blocks.setRanges_hu]

theorem Blocks.openIsolated_rt (b : Blocks) (h : HeadId) (c : Condition) :
    (b.openIsolated h c).rt = b.rt.update h (openList (rangeStart b c)) := by
  simp only [Blocks.openIsolated, Blocks.monitorLeaves_rt, Blocks.headEvent_rt, Blocks.modHead_rt,
    Blocks.setRanges_rt, b.boundStart_eq]

theorem Blocks.openIsolated_flags (b : Blocks) (h : HeadId) (c : Condition) :
    ((b.openIsolated h c).ru.heads.get h).flags = (b.ru.heads.get h).flags ||| 0b0001#4 := by
  have heads := (b.onlyRaised_setRanges
    (b.rt.update h (openList (b.boundStart (c.start b.ds.sew))))).heads
  rw [Blocks.openIsolated, Blocks.monitorLeaves_ru, Blocks.headEvent, Ru.headEvent_flags, if_pos rfl,
    Blocks.modHead_ru, heads]
  rfl

/-- What ISOLATE leaves of the heads and their flags (R135, R152). -/
theorem Blocks.isolate_head (b : Blocks) (h : HeadId) (c : Condition) :
    (b.isolate h c).hu = b.hu.set h { b.hu.get h with
        state := if b.rc.runState = .ended then .standby else .isolated, faultFlag := true }
      ∧ ((b.isolate h c).ru.heads.get h).flags = (b.ru.heads.get h).flags ||| 0b0001#4 := by
  rw [b.isolate_eq]
  split_ifs with hended
  · have heads := ((b.openIsolated h c).onlyRaised_setRanges
      ((b.openIsolated h c).rt.update h (closeList (b.ds.load - 1)))).heads
    refine ⟨Eight.ext_get fun g => ?_, ?_⟩
    · simp only [Blocks.modHead, Blocks.closeRange_hu, b.openIsolated_hu, Eight.get_update,
        Eight.get_set]
      split_ifs with hg
      · rw [hg]
      · rfl
    · rw [Blocks.modHead_ru, Blocks.closeRange, heads, b.openIsolated_flags]
  · exact ⟨(b.openIsolated_hu h c).trans (Eight.update_eq_set _ _ _), b.openIsolated_flags h c⟩

theorem Blocks.isolate_rt_other (b : Blocks) (h g : HeadId) (c : Condition) (hg : g ≠ h) :
    (b.isolate h c).rt.get g = b.rt.get g := by
  have opened : (b.openIsolated h c).rt.get g = b.rt.get g := by
    rw [b.openIsolated_rt, Eight.get_update, if_neg hg]
  rw [b.isolate_eq]
  split_ifs
  · rw [Blocks.modHead_rt, Blocks.closeRange_rt, if_neg hg, opened]
  · exact opened

/-- The ranges of the head ISOLATE names: those it keeps, and the new one, which absorbs the rest and in
ENDED closes at the END record (R135, R152). -/
theorem Blocks.isolate_rt (b : Blocks) (h : HeadId) (c : Condition) :
    ∃ m, leastStart (b.rt.get h) (rangeStart b c) m
      ∧ (b.isolate h c).rt.get h =
        (if b.rc.runState = .ended then
          (if m < b.ds.load - 1 then keptRanges b h (rangeStart b c) ++ [⟨m, some (b.ds.load - 1)⟩]
           else keptRanges b h (rangeStart b c))
         else keptRanges b h (rangeStart b c) ++ [⟨m, none⟩]) := by
  obtain ⟨m, hm, opening⟩ := openList_eq (rangeStart b c) (b.rt.get h)
  have opened : (b.openIsolated h c).rt.get h = keptRanges b h (rangeStart b c) ++ [⟨m, none⟩] := by
    rw [b.openIsolated_rt, Eight.get_update, if_pos rfl, opening]
    rfl
  refine ⟨m, hm, ?_⟩
  rw [b.isolate_eq]
  split_ifs with hended hm'
  · rw [Blocks.modHead_rt, Blocks.closeRange_rt, if_pos rfl, opened,
      closeList_open _ _ _ (keptRanges_closed _ _ _), if_pos hm']
  · rw [Blocks.modHead_rt, Blocks.closeRange_rt, if_pos rfl, opened,
      closeList_open _ _ _ (keptRanges_closed _ _ _), if_neg hm']
  · exact opened

/-! ## STOP_ALL -/

/-- The blocks as STOP_ALL finds them: the entry written and the flag of the head set (R151). -/
def Blocks.faulted (b : Blocks) (h : HeadId) (c : Condition) : Blocks :=
  ((b.writeEntry c).modHead h (fun u => { u with faultFlag := true })).headEvent h .faulted

theorem Blocks.faulted_hu (b : Blocks) (h : HeadId) (c : Condition) :
    (b.faulted h c).hu = b.hu.set h { b.hu.get h with faultFlag := true } := by
  simp only [Blocks.faulted, Blocks.headEvent_hu, Blocks.modHead, Blocks.writeEntry_hu,
    Eight.update_eq_set]

theorem Blocks.faulted_flags (b : Blocks) (h : HeadId) (c : Condition) :
    ((b.faulted h c).ru.heads.get h).flags = (b.ru.heads.get h).flags ||| 0b0010#4 := by
  rw [Blocks.faulted, Blocks.headEvent, Ru.headEvent_flags, if_pos rfl, Blocks.modHead_ru,
    b.writeEntry_heads]
  rfl

@[simp] theorem Blocks.faulted_rc (b : Blocks) (h : HeadId) (c : Condition) :
    (b.faulted h c).rc = b.rc := by simp [Blocks.faulted]
@[simp] theorem Blocks.faulted_sc (b : Blocks) (h : HeadId) (c : Condition) :
    (b.faulted h c).sc = b.sc := by simp [Blocks.faulted]
@[simp] theorem Blocks.faulted_fc (b : Blocks) (h : HeadId) (c : Condition) :
    (b.faulted h c).fc = b.fc := by simp [Blocks.faulted]
@[simp] theorem Blocks.faulted_rt (b : Blocks) (h : HeadId) (c : Condition) :
    (b.faulted h c).rt = b.rt := by simp [Blocks.faulted]

theorem Blocks.notePatchBreak_none (b : Blocks) (c : Condition) (h : b.patchWork = none) :
    b.notePatchBreak c = b := by
  unfold Blocks.notePatchBreak
  split
  · next hop => simp [Blocks.patchWork, hop] at h
  · rfl

/-- Outside PATCH, STOP_ALL leaves the ranges, the heads and their flags (R75). -/
theorem Blocks.stopAll_keeps (b : Blocks) (h : b.rc.runState ≠ .patch) :
    b.stopAll.rt = b.rt ∧ b.stopAll.hu = b.hu ∧ b.stopAll.ru.heads = b.ru.heads := by
  have went : ∀ (x : Blocks) rs p, (x.goto rs p).ru.heads = x.ru.heads := fun x rs p =>
    (x.onlyRaised_goto rs p).heads
  have travelled : ∀ (x : Blocks) p, (x.stopTravel p).ru.heads = x.ru.heads := fun x p => by
    by_cases hdone : x.fc.completed = true
    · rw [Blocks.stopTravel, if_pos hdone, went]
    · rw [Blocks.stopTravel, if_neg hdone]
  unfold Blocks.stopAll
  split
  case h_6 hp => exact absurd hp h
  all_goals simp [went, travelled]

theorem Blocks.stopAll_running (b : Blocks) (h : b.rc.runState = .running) :
    b.stopAll.rc.runState = .stopping ∧ b.stopAll.rc.causes.fault = true
      ∧ b.stopAll.sc = b.sc.raiseStop := by
  simp [Blocks.stopAll, h, Blocks.goto_rc]

theorem Blocks.stopAll_stopping (b : Blocks) (h : b.rc.runState = .stopping) :
    b.stopAll.rc = { b.rc with causes := ⟨b.rc.causes.host, true⟩ } ∧ b.stopAll.sc = b.sc := by
  rw [Blocks.stopAll, h]
  exact ⟨rfl, rfl⟩

theorem Blocks.stopAll_held (b : Blocks) (h : b.rc.runState = .held) :
    b.stopAll.rc = { b.rc with runState := .paused, pauseCause := some .fault }
      ∧ b.stopAll.sc = b.sc := by
  rw [Blocks.stopAll, h]
  exact ⟨b.goto_rc _ _, b.goto_sc _ _⟩

theorem Blocks.stopAll_changing (b : Blocks) (x : Change) (h : b.rc.runState = .changing)
    (hx : b.rc.change = some x) :
    b.stopAll.rc = { b.rc with change := some { x with stopAll := true } } := by
  rw [Blocks.stopAll, h]
  dsimp only
  rw [hx]
  rfl

theorem Blocks.stopAll_rests (b : Blocks) (h : runIsOf b [.idle, .paused, .ended, .halted]) :
    b.stopAll = b := by
  simp only [runIsOf, List.mem_cons, List.not_mem_nil, or_false] at h
  rcases h with h | h | h | h <;> rw [Blocks.stopAll, h]

/-- In TRAVEL with the last steps of the travel issued, it counts as completed (R33, R70). -/
theorem Blocks.stopAll_arrived (b : Blocks) (h : b.rc.runState = .travel)
    (hdone : b.fc.completed = true) :
    b.stopAll.fc = { b.fc with move := none, offPosition := false }
      ∧ b.stopAll.rc = { b.rc with
          runState := .paused, pauseCause := some .fault, resume := none, causes := ⟨false, false⟩ } := by
  rw [Blocks.stopAll, h]
  dsimp only
  rw [Blocks.stopTravel, if_pos hdone, Blocks.goto_fc, Blocks.goto_rc]
  exact ⟨rfl, rfl⟩

/-- In TRAVEL with a way to go, the travel is asked to stop (R33, R70). -/
theorem Blocks.stopAll_travelling (b : Blocks) (h : b.rc.runState = .travel)
    (hgoes : ¬ b.fc.completed = true) :
    b.stopAll.fc = b.fc.askStop
      ∧ b.stopAll.rc = { b.rc with causes := ⟨b.rc.causes.host, true⟩ } := by
  rw [Blocks.stopAll, h]
  dsimp only
  rw [Blocks.stopTravel, if_neg hgoes]
  exact ⟨rfl, rfl⟩

theorem Fc.askStop_some (f : Fc) (m : Move) (h : f.move = some m) :
    f.askStop = { f with move := some { m with stopAsked := true } } := by
  rw [Fc.askStop, h]
  rfl

theorem Blocks.completed_of_axes (b : Blocks) :
    b.fc.completed = true ↔ axesReady b ∧ b.fc.stopAsked = false := by
  rw [Fc.completed_iff, Fc.ready, Bool.and_eq_true, beq_iff_eq, beq_iff_eq]

/-! ## STOP_ALL in a patch run -/

/-- The work of a patch run with the break its head's thread has had (R146). -/
def PatchWork.noting (w : PatchWork) (c : Condition) : PatchWork :=
  { w with breakStart := match c with
    | .threadBreak g _ _ _ a => if g = w.head then some a else w.breakStart
    | _ => w.breakStart }

theorem Blocks.notePatchBreak_patch (b : Blocks) (c : Condition) (tag : Byte) (base : BaseState)
    (w : PatchWork) (h : b.rc.op = some ⟨tag, base, .patch w⟩) :
    (b.notePatchBreak c).rc = { b.rc with op := some ⟨tag, base, .patch (w.noting c)⟩ } := by
  cases c with
  | threadBreak g n s i a =>
    simp only [Blocks.notePatchBreak, PatchWork.noting, h]
    split_ifs
    · simp only [Blocks.setWork, h, Option.map_some]
    · rw [← h]
  | _ =>
    simp only [Blocks.notePatchBreak, PatchWork.noting, h]
    rw [← h]

/-- A patch run that ends FAILED (R143, R145, R146). -/
theorem Blocks.patchStopped_failed {b x : Blocks} {tag : Byte} {base : BaseState} {w : PatchWork}
    (hrc : x.rc = { b.rc with op := some ⟨tag, base, .patch w⟩ }) (hfc : x.fc = b.fc)
    (hrt : x.rt = b.rt) (hfault : w.causes.fault = true) :
    patchEnded b (x.patchStopped w) tag base w .failed (failedStart w) := by
  have start : w.newStart .failed = failedStart w := by
    unfold PatchWork.newStart failedStart
    cases w.breakStart <;> simp
  have ended : x.patchStopped w =
      ((x.patchSettle w (failedStart w)).patchMonitorOff w).endOpBase .failed OpFailures.none := by
    rw [Blocks.patchStopped, hfault]
    exact congrArg (x.patchEnd w .failed) start
  have rc := Blocks.endOpBase_rc ((x.patchSettle w (failedStart w)).patchMonitorOff w)
    ⟨tag, base, .patch w⟩ (by rw [Blocks.patchMonitorOff_rc, Blocks.patchSettle_rc, hrc])
    .failed OpFailures.none
  rw [← ended, Blocks.patchMonitorOff_rc, Blocks.patchSettle_rc, hrc] at rc
  have rt : (x.patchStopped w).rt = b.rt.update w.head (shrinkList w (failedStart w)) := by
    rw [ended, Blocks.endOpBase_rt, Blocks.patchMonitorOff_rt, ← hrt]
    exact x.setRanges_rt _
  have shrink : ∀ l, shrinkList w (failedStart w) l = shrunk w (failedStart w) l := by
    intro l
    refine List.filterMap_congr fun r _ => ?_
    split_ifs with hr hs
    · rfl
    · rw [hr.2]
    · rfl
  rw [patchEnded, rc]
  refine ⟨rfl, rfl, rfl, rfl, rfl, rfl, ?_, fun h => ?_, fun h hh => ?_, ?_⟩
  · rw [ended, Blocks.endOpBase_fc, Blocks.patchMonitorOff_fc, ← hfc]
    simp [Blocks.patchSettle]
  · rw [ended, Blocks.endOpBase_hu, Blocks.patchMonitorOff_hu]
    simp [Blocks.patchSettle]
  · rw [rt, Eight.get_update, if_neg hh]
  · rw [rt, Eight.get_update, if_pos rfl, shrink]

/-- The work of a patch run that a STOP_ALL has met: its causes with FAULT (R144). -/
def PatchWork.failing (w : PatchWork) : PatchWork := { w with causes := ⟨w.causes.host, true⟩ }

/-- A STOP_ALL in patch travel (R144; log 14). -/
theorem Blocks.patchInterrupt_travels (b : Blocks) (w : PatchWork) (asked : Bool)
    (h : b.fc.move = some ⟨.patchTravel, asked⟩) :
    b.patchInterrupt w true =
      if b.fc.completed then
        ({ b.setWork (.patch w.failing) with fc := { b.fc with move := none } } :
          Blocks).patchStopped w.failing
      else { b.setWork (.patch w.failing) with fc := b.fc.askStop } := by
  simp only [Blocks.patchInterrupt, Blocks.setWork_fc, h, Bool.or_true, Bool.not_true, Bool.or_false]
  rfl

/-- A STOP_ALL in a colour change of a patch run (R144). -/
theorem Blocks.patchInterrupt_changes (b : Blocks) (w : PatchWork) (x : Change)
    (h : ¬ ∃ asked, b.fc.move = some ⟨.patchTravel, asked⟩) (hx : b.rc.change = some x) :
    b.patchInterrupt w true =
      { b.setWork (.patch w.failing) with
        rc := { (b.setWork (.patch w.failing)).rc with change := some { x with stopAll := true } } } := by
  simp only [Blocks.patchInterrupt, Bool.or_true, Bool.not_true, Bool.or_false]
  split
  · next hm => exact absurd ⟨_, hm⟩ h
  · next hc _ =>
    obtain rfl := Option.some.inj (hx.symm.trans hc)
    rfl
  · next hc _ => exact absurd (hx.symm.trans hc) nofun

/-- A STOP_ALL in the sewing of a patch run (R144; log 33). -/
theorem Blocks.patchInterrupt_sews (b : Blocks) (w : PatchWork)
    (h : ¬ ∃ asked, b.fc.move = some ⟨.patchTravel, asked⟩) (hx : b.rc.change = none) :
    b.patchInterrupt w true =
      if b.sc.turns then { b.setWork (.patch w.failing) with sc := b.sc.raiseStop }
      else if b.rc.stop.isSome || b.fc.busy then b.setWork (.patch w.failing)
      else (b.setWork (.patch w.failing)).patchStopped w.failing := by
  simp only [Blocks.patchInterrupt, Bool.or_true, Bool.not_true, Bool.or_false]
  split
  · next hm => exact absurd ⟨_, hm⟩ h
  · next hc _ => exact absurd (hx.symm.trans hc) nofun
  · rfl

/-- STOP_ALL meets a patch run by its stage (R144). -/
theorem Blocks.patchInterrupt_meets {b x : Blocks} {tag : Byte} {base : BaseState} {w : PatchWork}
    (hrc : x.rc = { b.rc with op := some ⟨tag, base, .patch w⟩ }) (hfc : x.fc = b.fc)
    (hsc : x.sc = b.sc) (hrt : x.rt = b.rt) :
    patchStopsAll b (x.patchInterrupt w true) tag base w.failing := by
  have met : (x.setWork (.patch w.failing)).rc =
      { b.rc with op := some ⟨tag, base, .patch w.failing⟩ } := by simp [Blocks.setWork, hrc]
  have turning : x.sc.turns = true ↔ b.sc.state ∈ [.turning, .stopping] := by
    simp [Sc.turns, hsc]
  have done := b.completed_of_axes
  refine ⟨?_, ?_, ?_, fun htravels hchange => ⟨?_, ?_, ?_⟩⟩
  · rintro ⟨asked, hm⟩ hgoes
    rw [x.patchInterrupt_travels w asked (by rw [hfc, hm]), hfc, if_neg (fun h => hgoes (done.mp h)),
      b.fc.askStop_some _ hm]
    exact ⟨met, hsc, rfl⟩
  · rintro ⟨asked, hm⟩ hready hasked
    rw [x.patchInterrupt_travels w asked (by rw [hfc, hm]), hfc, if_pos (done.mpr ⟨hready, hasked⟩)]
    exact ⟨Blocks.patchStopped_failed met rfl hrt rfl, (Blocks.patchStopped_sc _ _).trans hsc⟩
  · intro c htravels hc
    rw [x.patchInterrupt_changes w c (by rwa [hfc]) (by rw [hrc, hc]), met]
    exact ⟨rfl, hsc, hfc⟩
  · intro hturns
    rw [x.patchInterrupt_sews w (by rwa [hfc]) (by rw [hrc, hchange]), if_pos (turning.mpr hturns)]
    refine ⟨met, hfc, ?_⟩
    dsimp only
    rw [hsc, Sc.raiseStop]
    split_ifs with hturning
    · rfl
    · have hstopping : b.sc.state = .stopping := by simpa [hturning] using hturns
      rw [← hstopping]
  · intro hturns hwaits
    rw [x.patchInterrupt_sews w (by rwa [hfc]) (by rw [hrc, hchange]),
      if_neg (fun h => hturns (turning.mp h)), hfc, hrc,
      if_pos (by simpa [Option.isSome_iff_ne_none] using hwaits)]
    exact ⟨met, hfc, hsc⟩
  · intro hturns hstop hbusy
    rw [x.patchInterrupt_sews w (by rwa [hfc]) (by rw [hrc, hchange]),
      if_neg (fun h => hturns (turning.mp h)), hfc, hrc, if_neg (by simp [hstop, hbusy])]
    exact ⟨Blocks.patchStopped_failed met hfc hrt rfl, (Blocks.patchStopped_sc _ _).trans hsc⟩

/-- STOP_ALL in a patch run leaves the fault flags of the heads, and their report flags (R144). -/
theorem Blocks.patchInterrupt_keeps (b : Blocks) (w : PatchWork) :
    (∀ h : HeadId, ((b.patchInterrupt w true).hu.get h).faultFlag = (b.hu.get h).faultFlag)
      ∧ (b.patchInterrupt w true).ru.heads = b.ru.heads := by
  have stopped : ∀ (x : Blocks) (v : PatchWork),
      (∀ h : HeadId, ((x.patchStopped v).hu.get h).faultFlag = (x.hu.get h).faultFlag)
        ∧ (x.patchStopped v).ru.heads = x.ru.heads := by
    intro x v
    unfold Blocks.patchStopped Blocks.patchEnd
    dsimp only
    refine ⟨fun h => ?_, ?_⟩
    · rw [Blocks.endOpBase_hu, Blocks.patchMonitorOff_hu]
      simp [Blocks.patchSettle]
    · rw [(Blocks.onlyRaised_endOpBase _ _ _).heads, Blocks.patchMonitorOff_ru,
        (Blocks.onlyRaised_patchSettle _ _ _).heads]
  by_cases htravels : ∃ asked, b.fc.move = some ⟨.patchTravel, asked⟩
  · obtain ⟨asked, hm⟩ := htravels
    rw [b.patchInterrupt_travels w asked hm]
    split_ifs
    · exact stopped _ _
    · exact ⟨fun _ => rfl, rfl⟩
  · cases hchange : b.rc.change with
    | some x =>
      rw [b.patchInterrupt_changes w x htravels hchange]
      exact ⟨fun _ => rfl, rfl⟩
    | none =>
      rw [b.patchInterrupt_sews w htravels hchange]
      split_ifs
      · exact ⟨fun _ => rfl, rfl⟩
      · exact ⟨fun _ => rfl, rfl⟩
      · exact stopped _ _

theorem Blocks.stopAll_patch (b : Blocks) (tag : Byte) (base : BaseState) (w : PatchWork)
    (h : b.rc.runState = .patch) (hop : b.rc.op = some ⟨tag, base, .patch w⟩) :
    b.stopAll = b.patchInterrupt w true := by
  rw [Blocks.stopAll, h]
  dsimp only
  rw [hop]

/-- A fault that is not isolated, of a head whose flag is clear: STOP_ALL with the flag set (R151). -/
theorem Blocks.take_stopsAll {b : Blocks} {h : HeadId} {c : Condition} (hc : policyFault b h c)
    (hf : (b.hu.get h).faultFlag = false) (hi : ¬ isolates b h c) :
    b.take c = ((b.faulted h c).notePatchBreak c).stopAll := by
  obtain ⟨hhead, hkind, -⟩ := policyFault_decides hc
  exact b.take_stopAll c h (policyFault_stopped hc hi) hkind hhead hf

theorem Blocks.take_stopsRun {b : Blocks} {h : HeadId} {c : Condition} (hc : policyFault b h c)
    (hf : (b.hu.get h).faultFlag = false) (hi : ¬ isolates b h c) (hwork : b.patchWork = none) :
    b.take c = (b.faulted h c).stopAll := by
  have work : (b.faulted h c).patchWork = none := by
    rw [Blocks.patchWork, b.faulted_rc]
    exact hwork
  rw [Blocks.take_stopsAll hc hf hi, Blocks.notePatchBreak_none _ c work]

/-- A fault that names a head, in a patch run: never isolated, it meets the run by its stage (R134,
R144). -/
theorem Blocks.take_meetsPatch {b : Blocks} {h : HeadId} {c : Condition} {tag : Byte}
    {base : BaseState} {w : PatchWork} (hc : policyFault b h c)
    (hf : (b.hu.get h).faultFlag = false) (hpatch : b.rc.runState = .patch)
    (hop : b.rc.op = some ⟨tag, base, .patch w⟩) :
    ((b.take c).hu.get h).faultFlag = true
      ∧ ((b.take c).ru.heads.get h).flags = (b.ru.heads.get h).flags ||| 0b0010#4
      ∧ patchStopsAll b (b.take c) tag base (w.noting c).failing := by
  have notIsolated : ¬ isolates b h c := fun ⟨_, _, _, _, hrun⟩ => hrun hpatch
  have noted := (b.faulted h c).notePatchBreak_patch c tag base w (by rwa [b.faulted_rc])
  rw [b.faulted_rc] at noted
  obtain ⟨hflag, hheads⟩ := ((b.faulted h c).notePatchBreak c).patchInterrupt_keeps (w.noting c)
  rw [Blocks.take_stopsAll hc hf notIsolated,
    Blocks.stopAll_patch _ tag base _ ((congrArg Rc.runState noted).trans hpatch)
      (congrArg Rc.op noted)]
  refine ⟨?_, ?_, Blocks.patchInterrupt_meets noted ?_ ?_ ?_⟩
  · rw [hflag, Blocks.notePatchBreak_hu, b.faulted_hu, Eight.get_set_same]
  · rw [hheads, Blocks.notePatchBreak_ru, b.faulted_flags]
  · rw [Blocks.notePatchBreak_fc, b.faulted_fc]
  · rw [Blocks.notePatchBreak_sc, b.faulted_sc]
  · rw [Blocks.notePatchBreak_rt, b.faulted_rt]

end Sys2Proof.Machine

namespace Sys2Proof.Proofs

open Sys2Proof.Machine Sys2Proof.Claims

/-- A head's one open range, closed at the sew point (R137, R140). -/
theorem openRangeCloses (h : HeadId) (a sew : Nat) (l : List Range) (b : Blocks)
    (hl : b.rt.get h = l ++ [⟨a, none⟩]) (hclosed : ∀ r ∈ l, r.b ≠ none) :
    (b.closeRange h sew).rt.get h = (if a < sew then l ++ [⟨a, some sew⟩] else l)
      ∧ (∀ g : HeadId, g ≠ h → (b.closeRange h sew).rt.get g = b.rt.get g)
      ∧ (a < sew → (b.closeRange h sew).e = b.e ∧ (b.closeRange h sew).ds = b.ds) := by
  refine ⟨?_, fun g hg => ?_, fun ha => b.closeRange_stays h a sew l hl hclosed ha⟩
  · rw [Blocks.closeRange_rt, if_pos rfl, hl, closeList_open sew a l hclosed]
  · rw [Blocks.closeRange_rt, if_neg hg]

/-- Settles O42: the closing of a range, then the fault that names a head by its answer and the run
state. -/
theorem anOpenRangeClosesAtTheSewPoint : Obligations.AnOpenRangeClosesAtTheSewPoint := by
  unfold Obligations.AnOpenRangeClosesAtTheSewPoint
  refine ⟨openRangeCloses, fun b h c hc => ?_⟩
  obtain ⟨hhead, -, -⟩ := policyFault_decides hc
  have isolated : isolates b h c → b.action c = .isolate := policyFault_isolated hc
  have stopped : ¬ isolates b h c → b.action c = .stopAll := policyFault_stopped hc
  refine ⟨isolated, stopped, b.take_fl c, fun hf => ?_, fun hf hi => ?_, fun hf hi hpatch hwork => ?_,
    fun tag base w hf hpatch hop => ?_⟩
  · have either : b.action c = .stopAll ∨ b.action c = .isolate := by
      by_cases hi : isolates b h c
      · exact Or.inr (isolated hi)
      · exact Or.inl (stopped hi)
    rw [b.take_flagged c h either hhead hf]
    exact ⟨Blocks.writeEntry_rt _ _, Blocks.writeEntry_hu _ _, Blocks.writeEntry_rc _ _,
      Blocks.writeEntry_sc _ _, b.writeEntry_heads c⟩
  · obtain ⟨hhu, hflags⟩ := (b.writeEntry c).isolate_head h c
    obtain ⟨m, hm, hrt⟩ := (b.writeEntry c).isolate_rt h c
    rw [rangeStart_writeEntry, Blocks.writeEntry_rt] at hm
    rw [rangeStart_writeEntry, keptRanges_writeEntry, Blocks.writeEntry_rc, Blocks.writeEntry_ds] at hrt
    rw [Blocks.writeEntry_hu, Blocks.writeEntry_rc] at hhu
    rw [b.writeEntry_heads] at hflags
    rw [b.take_isolate c h (isolated hi) hhead hf]
    refine ⟨by simp, by simp, by simp, fun g hg => ?_, hflags, hhu, m, hm, hrt⟩
    rw [Blocks.isolate_rt_other _ _ _ _ hg, Blocks.writeEntry_rt]
  · obtain ⟨hrt, hhu, hheads⟩ := (b.faulted h c).stopAll_keeps (by rwa [b.faulted_rc])
    rw [Blocks.take_stopsRun hc hf hi hwork]
    refine ⟨hrt.trans (b.faulted_rt h c), hhu.trans (b.faulted_hu h c), ?_, fun hr => ?_, fun hr => ?_,
      fun hr => ?_, fun x hr hx => ?_, fun hr => ?_, fun hr => ⟨?_, fun hready hasked => ?_,
      fun m hgoes hm => ?_⟩⟩
    · rw [hheads, b.faulted_flags]
    · obtain ⟨hstate, hfault, hsc⟩ := (b.faulted h c).stopAll_running (by rwa [b.faulted_rc])
      refine ⟨hstate, hfault, fun hturning => ?_⟩
      rw [hsc, b.faulted_sc, Sc.raiseStop, if_pos hturning]
    · simpa using (b.faulted h c).stopAll_stopping (by rwa [b.faulted_rc])
    · simpa using (b.faulted h c).stopAll_held (by rwa [b.faulted_rc])
    · simpa using (b.faulted h c).stopAll_changing x (by rwa [b.faulted_rc]) (by rwa [b.faulted_rc])
    · rw [(b.faulted h c).stopAll_rests (by rwa [runIsOf, b.faulted_rc])]
      exact ⟨b.faulted_rc h c, b.faulted_sc h c⟩
    · rw [Blocks.stopAll, b.faulted_rc, hr]
      exact (Blocks.stopTravel_sc _ _).trans (b.faulted_sc h c)
    · simpa using (b.faulted h c).stopAll_arrived (by rwa [b.faulted_rc])
        (by rw [b.faulted_fc]; exact b.completed_of_axes.mpr ⟨hready, hasked⟩)
    · have travelling := (b.faulted h c).stopAll_travelling (by rwa [b.faulted_rc])
        (by rw [b.faulted_fc]; exact fun h => hgoes (b.completed_of_axes.mp h))
      rwa [b.faulted_fc, b.faulted_rc, b.fc.askStop_some m hm] at travelling
  · exact Blocks.take_meetsPatch hc hf hpatch hop

end Sys2Proof.Proofs
end

section
/-!
SUPPORT. One axis of the frame: its record read and replaced, its last step, its steps to come and the
units it comes on by, and what the passing of time leaves of the blocks (R33, R40; log 3).
-/

namespace Sys2Proof.Machine

/-- The outcome of an event is stated by what it makes of the blocks. -/
theorem next_blocks {s : State} {b b' : Blocks} (h : b = b') :
    (.next { s with blk := b } : Host.Outcome State Fault Refusal) = .next { s with blk := b' } := by
  rw [h]

/-! ## The record of an axis -/

@[simp] theorem Fc.axis_setAxis (f : Fc) (ax : Axis) (r : AxisRec) : (f.setAxis ax r).axis ax = r := by
  cases ax <;> rfl

theorem Fc.setAxis_axis (f : Fc) (ax : Axis) : f.setAxis ax (f.axis ax) = f := by
  cases ax <;> rfl

/-! ## The last step -/

theorem AxisRec.stopShort_other (r : AxisRec) (h : r.state ≠ .moving) : r.stopShort = r := by
  simp [AxisRec.stopShort, h]

theorem AxisRec.stopShort_moving (r : AxisRec) (p q : Int) (h : r.state = .moving)
    (hp : r.pos = some p) (hq : r.target = some q) :
    r.stopShort = { r with
      state := .ready, target := none
      pos := some (if p < q then p + 1 else if q < p then p - 1 else p) } := by
  simp [AxisRec.stopShort, h, hp, hq]

/-! ## The steps to come -/

theorem Blocks.steps_moving (b : Blocks) (ax : Axis) (p q : Int)
    (h : (b.fc.axis ax).state = .moving) (hp : (b.fc.axis ax).pos = some p)
    (hq : (b.fc.axis ax).target = some q) (hs : b.fc.stopAsked = false) :
    b.steps ax = some ((b.axisConfig ax).stepsFrom p q) := by
  simp [Blocks.steps, h, hp, hq, hs]

/-- Under a stop one unit is to come (R33). -/
theorem Blocks.steps_stopping (b : Blocks) (ax : Axis) (p q : Int)
    (h : (b.fc.axis ax).state = .moving) (hp : (b.fc.axis ax).pos = some p)
    (hq : (b.fc.axis ax).target = some q) (hs : b.fc.stopAsked = true) (hne : p ≠ q) :
    b.steps ax = some ⟨decide (p < q), (b.axisConfig ax).stepsPerUnit,
      1000 * (b.axisConfig ax).maxRate⟩ := by
  have short := AxisRec.stopShort_moving _ p q h hp hq
  simp only [Blocks.steps, h, hp, hs, if_true, short, AxisConfig.stepsFrom]
  rcases lt_or_gt_of_ne hne with hlt | hgt
  · simp [hlt]
  · simp [hgt, not_lt_of_gt hgt]

theorem Blocks.steps_homing (b : Blocks) (ax : Axis) (h : (b.fc.axis ax).state = .homing) :
    b.steps ax = some ((b.axisConfig ax).stepsHoming (b.fc.axis ax).homingUnits) := by
  simp [Blocks.steps, h]

theorem Blocks.steps_still (b : Blocks) (ax : Axis) (hm : (b.fc.axis ax).state ≠ .moving)
    (hh : (b.fc.axis ax).state ≠ .homing) : b.steps ax = none := by
  unfold Blocks.steps
  dsimp only
  cases hs : (b.fc.axis ax).state
  case moving => exact absurd hs hm
  case homing => exact absurd hs hh
  all_goals rfl

/-! ## Time -/

theorem AxisRec.comeOn_moving (r : AxisRec) (span n : Nat) (p q : Int) (h : r.state = .moving)
    (hp : r.pos = some p) (hq : r.target = some q) :
    r.comeOn span n = { r with
      pos := some (if p < q then p + Int.ofNat (n % max 1 (q - p).natAbs)
        else p - Int.ofNat (n % max 1 (q - p).natAbs)) } := by
  simp [AxisRec.comeOn, h, hp, hq]

theorem AxisRec.comeOn_homing (r : AxisRec) (span n : Nat) (h : r.state = .homing) :
    r.comeOn span n = { r with homingUnits := min span (r.homingUnits + n) } := by
  simp [AxisRec.comeOn, h]

/-- An axis that is neither homing nor MOVING between two places stays as it is. -/
theorem AxisRec.comeOn_other (r : AxisRec) (span n : Nat) (hh : r.state ≠ .homing)
    (hm : ∀ p q, r.state = .moving → r.pos = some p → r.target ≠ some q) : r.comeOn span n = r := by
  unfold AxisRec.comeOn
  split
  · next p q hs hp hq => exact absurd hq (hm p q hs hp)
  · next hs => exact absurd hs hh
  · rfl

/-- Every record is one of a MOVING axis with its place and target, of a homing axis, or stays. -/
theorem AxisRec.comeOn_cases (r : AxisRec) (span n : Nat) :
    (∃ p q k, r.state = .moving ∧ r.pos = some p ∧ r.target = some q
        ∧ r.comeOn span n = { r with pos := some k })
      ∨ (r.state = .homing ∧ ∃ k, r.comeOn span n = { r with homingUnits := k })
      ∨ r.comeOn span n = r := by
  by_cases hh : r.state = .homing
  · exact Or.inr (Or.inl ⟨hh, _, r.comeOn_homing span n hh⟩)
  by_cases hm : ∃ p q, r.state = .moving ∧ r.pos = some p ∧ r.target = some q
  · obtain ⟨p, q, h, hp, hq⟩ := hm
    exact Or.inl ⟨p, q, _, h, hp, hq, r.comeOn_moving span n p q h hp hq⟩
  · exact Or.inr (Or.inr (r.comeOn_other span n hh fun p q h hp hq => hm ⟨p, q, h, hp, hq⟩))

/-- What a step with nothing waiting may do to one axis, from `r` to `r'` (log 3). -/
structure AxisRec.Ticks (r r' : AxisRec) : Prop where
  still : r.steps = false → r' = r
  frame : { r' with pos := r.pos, homingUnits := r.homingUnits } = r
  place : r.state ≠ .moving → r'.pos = r.pos
  units : r.state ≠ .homing → r'.homingUnits = r.homingUnits
  between : ∀ p q : Int, r.state = .moving → r.pos = some p → r.target = some q →
    ∃ k : Int, r'.pos = some k ∧ min p q ≤ k ∧ k ≤ max p q ∧ (p ≠ q → k ≠ q)

theorem AxisRec.Ticks.refl (r : AxisRec) : r.Ticks r where
  still _ := rfl
  frame := rfl
  place _ := rfl
  units _ := rfl
  between p q _ hp _ := ⟨p, hp, min_le_left p q, le_max_left p q, id⟩

/-- A MOVING axis comes not past its target nor onto it: it comes on by less than the way to go. -/
theorem AxisRec.comeOn_between (r : AxisRec) (span n : Nat) (p q : Int) (h : r.state = .moving)
    (hp : r.pos = some p) (hq : r.target = some q) :
    ∃ k : Int, (r.comeOn span n).pos = some k ∧ min p q ≤ k ∧ k ≤ max p q ∧ (p ≠ q → k ≠ q) := by
  rw [r.comeOn_moving span n p q h hp hq]
  have short : n % max 1 (q - p).natAbs < max 1 (q - p).natAbs := Nat.mod_lt _ (by omega)
  refine ⟨_, rfl, ?_⟩
  generalize n % max 1 (q - p).natAbs = k at short
  rw [Int.ofNat_eq_natCast]
  split_ifs <;> omega

theorem AxisRec.ticks_comeOn (r : AxisRec) (span n : Nat) : r.Ticks (r.comeOn span n) := by
  have step := r.comeOn_cases span n
  refine ⟨fun hs => ?_, ?_, fun hm => ?_, fun hh => ?_, r.comeOn_between span n⟩
  · have rests : r.state ≠ .moving ∧ r.state ≠ .homing := by simpa [AxisRec.steps] using hs
    exact r.comeOn_other span n rests.2 fun _ _ h => absurd h rests.1
  all_goals
    rcases step with ⟨_, _, _, h, _, _, hr⟩ | ⟨h, _, hr⟩ | hr <;> rw [hr]
  · exact absurd h hm
  · exact absurd h hh

/-- Where no axis steps, or a stop is asked for, time changes nothing (log 3). -/
theorem Blocks.tick_still (b : Blocks)
    (h : (b.fc.x.steps = false ∧ b.fc.y.steps = false) ∨ b.fc.stopAsked = true) : b.tick = b := by
  unfold Blocks.tick
  rw [if_neg]
  rcases h with ⟨hx, hy⟩ | h <;> simp [*]

/-- Time changes the axes, each by itself, and the number of draws (log 3). -/
theorem Blocks.tick_axes (b : Blocks) :
    { b.tick with fc := b.fc, draws := b.draws } = b
      ∧ { b.tick.fc with x := b.fc.x, y := b.fc.y } = b.fc
      ∧ ∀ ax, (b.fc.axis ax).Ticks (b.tick.fc.axis ax) := by
  unfold Blocks.tick
  split
  · refine ⟨rfl, rfl, fun ax => ?_⟩
    cases ax <;> exact AxisRec.ticks_comeOn _ _ _
  · exact ⟨rfl, rfl, fun ax => .refl _⟩

end Sys2Proof.Machine

namespace Sys2Proof.Proofs

open Sys2Proof.Machine Sys2Proof.Claims

/-- Settles O60: the steps an axis is driven with by its state, and its last step with and without a stop
asked for. -/
theorem theLastStepOfAnAxis : Obligations.TheLastStepOfAnAxis := by
  unfold Obligations.TheLastStepOfAnAxis
  refine ⟨?_, fun ax s => ⟨fun h => ?_, fun q hm hq => ⟨fun hs => ?_, fun p hs hp => ?_⟩⟩⟩
  · intro ax b c r
    have config : c = b.axisConfig ax := by cases ax <;> rfl
    rw [config]
    refine ⟨fun p q hm hp hq => ⟨fun hs => ?_, fun hs hne => ?_⟩, fun hh => ?_, fun hstill => ?_⟩
    · exact b.steps_moving ax p q hm hp hq hs
    · exact b.steps_stopping ax p q hm hp hq hs hne
    · exact b.steps_homing ax hh
    · simp only [List.mem_cons, List.not_mem_nil, or_false, not_or] at hstill
      exact b.steps_still ax hstill.1 hstill.2
  · have same : s.blk.lastStep ax = s.blk := by
      simp only [Blocks.lastStep, AxisRec.stopShort_other _ h, AxisRec.arrive_other _ h, ite_self,
        Fc.setAxis_axis]
    exact next_blocks same
  · have last : s.blk.lastStep ax = { s.blk with
        fc := s.blk.fc.setAxis ax
          { s.blk.fc.axis ax with state := .ready, pos := some q, target := none } } := by
      simp [Blocks.lastStep, hs, AxisRec.arrive_moving _ hm, hq]
    exact next_blocks last
  · have last : s.blk.lastStep ax = { s.blk with
        fc := s.blk.fc.setAxis ax { s.blk.fc.axis ax with
          state := .ready, target := none
          pos := some (if p < q then p + 1 else if q < p then p - 1 else p) } } := by
      simp only [Blocks.lastStep, hs, if_true, AxisRec.stopShort_moving _ p q hm hp hq]
    exact next_blocks last

/-- Settles O2: a step with nothing waiting is the passing of time, which each axis takes by itself. -/
theorem emptyQueueOnlyMovesAxes : Obligations.EmptyQueueOnlyMovesAxes := by
  unfold Obligations.EmptyQueueOnlyMovesAxes
  intro s hempty
  have passes : step s = .next { s with blk := s.blk.tick } := by rw [step, hempty]
  obtain ⟨blocks, frame, axes⟩ := s.blk.tick_axes
  have still : s.blk.tick = s.blk → ({ s with blk := s.blk.tick } : State) = s := fun h => by rw [h]
  refine ⟨_, passes, rfl, hempty, blocks, frame, fun hx hy => ?_, fun hs => ?_, fun ax => ?_⟩
  · exact still (s.blk.tick_still (Or.inl ⟨hx, hy⟩))
  · exact still (s.blk.tick_still (Or.inr hs))
  · obtain ⟨stays, kept, place, units, between⟩ := axes ax
    exact ⟨stays, kept, place, units, between⟩

end Sys2Proof.Proofs
end

section
/-!
SUPPORT. The halt, block by block (R43, R64, R89, R103, R131, R147, R153), the faults that halt the part,
and the E-STOP and shaft events that raise them.
-/

namespace Sys2Proof.Machine

open Sys2Proof.Claims

/-! ## The halt at RC -/

theorem shrinkList_eq_shrunk (w : PatchWork) (start : Nat) (l : List Range) :
    shrinkList w start l = shrunk w start l := by
  refine List.filterMap_congr fun r _ => ?_
  split_ifs with hr hs
  · rfl
  · rw [hr.2]
  · rfl

/-- RC with its causes, its run sequence, its stop and its change dropped: the first step of the halt
(R89). -/
def Blocks.dropped (b : Blocks) : Blocks :=
  { b with rc.causes := StopCauses.none, rc.resume := none, rc.stop := none, rc.change := none }

theorem Blocks.haltRun_idle (b : Blocks) (h : b.rc.op = none) :
    b.haltRun = b.dropped.goto .halted none := by
  have hop : b.dropped.rc.op = none := h
  unfold Blocks.haltRun
  dsimp only
  split
  · next heq => exact absurd (hop.symm.trans heq) nofun
  · next heq => exact absurd (hop.symm.trans heq) nofun
  · rfl

theorem Blocks.haltRun_op (b : Blocks) (op : LongOp) (h : b.rc.op = some op)
    (hw : ∀ w, op.work ≠ .patch w) :
    b.haltRun = b.dropped.endOp .halted OpFailures.none .halted none := by
  have hop : b.dropped.rc.op = some op := h
  unfold Blocks.haltRun
  dsimp only
  split
  · next w heq =>
    cases hop.symm.trans heq
    exact absurd rfl (hw w)
  · rfl
  · next heq => exact absurd (hop.symm.trans heq) nofun

theorem Blocks.haltRun_patch (b : Blocks) (tag : Byte) (base : BaseState) (w : PatchWork)
    (h : b.rc.op = some ⟨tag, base, .patch w⟩) :
    b.haltRun = (b.dropped.patchSettle w w.p).endOp .halted OpFailures.none .halted none := by
  have hop : b.dropped.rc.op = some ⟨tag, base, .patch w⟩ := h
  unfold Blocks.haltRun
  dsimp only
  split
  · next heq =>
    cases hop.symm.trans heq
    rfl
  · next hw heq => exact absurd (Option.some.inj (hop.symm.trans heq)).symm (hw _ _ _)
  · next heq => exact absurd (hop.symm.trans heq) nofun

/-- RC after the halt, with no operation in flight and with one (R89, R90). -/
theorem Blocks.haltRun_rc_idle (b : Blocks) (h : b.rc.op = none) :
    b.haltRun.rc = { b.rc with
      runState := .halted, pauseCause := none, causes := ⟨false, false⟩, resume := none
      stop := none, change := none } := by
  rw [b.haltRun_idle h, Blocks.goto_rc]
  rfl

theorem Blocks.haltRun_rc_op (b : Blocks) (op : LongOp) (h : b.rc.op = some op) :
    b.haltRun.rc = { b.rc with
      runState := .halted, pauseCause := none, causes := ⟨false, false⟩, resume := none
      stop := none, change := none, op := none
      opRecord := ⟨some op.work.kind, op.tag, some .halted, OpFailures.none,
        b.rc.opRecord.counter + 1⟩ } := by
  by_cases hw : ∃ w, op.work = .patch w
  · obtain ⟨tag, base, work⟩ := op
    obtain ⟨w, rfl⟩ := hw
    rw [b.haltRun_patch tag base w h, Blocks.endOp_rc (b.dropped.patchSettle w w.p) ⟨tag, base, .patch w⟩
      (by rw [Blocks.patchSettle_rc]; exact h), Blocks.patchSettle_rc]
    rfl
  · rw [b.haltRun_op op h fun w hwork => hw ⟨w, hwork⟩, Blocks.endOp_rc b.dropped op h]
    rfl

/-- Outside a patch run the halt at RC is RC's alone. -/
theorem Blocks.haltRun_outside (b : Blocks) (h : ∀ op w, b.rc.op = some op → op.work ≠ .patch w) :
    b.haltRun.rt = b.rt ∧ b.haltRun.ds = b.ds ∧ b.haltRun.fc = b.fc ∧ b.haltRun.hu = b.hu := by
  cases hop : b.rc.op with
  | none =>
    rw [b.haltRun_idle hop]
    simp [Blocks.dropped]
  | some op =>
    rw [b.haltRun_op op hop fun w => h op w hop]
    simp [Blocks.dropped]

/-- In a patch run it shrinks the range to p, sets the off-position flag and clears the rest flags
(R147). -/
theorem Blocks.haltRun_inside (b : Blocks) (tag : Byte) (base : BaseState) (w : PatchWork)
    (h : b.rc.op = some ⟨tag, base, .patch w⟩) :
    b.haltRun.rt = b.rt.update w.head (shrinkList w w.p)
      ∧ b.haltRun.fc = { b.fc with offPosition := true }
      ∧ b.haltRun.hu = Eight.tabulate (fun h => { b.hu.get h with rest := false }) := by
  rw [b.haltRun_patch tag base w h]
  refine ⟨?_, ?_, ?_⟩
  · rw [Blocks.endOp_rt]
    exact b.dropped.setRanges_rt _
  · simp [Blocks.patchSettle, Blocks.dropped]
  · simp [Blocks.patchSettle, Blocks.dropped]

@[simp] theorem Blocks.haltRun_tm (b : Blocks) : b.haltRun.tm = b.tm := by
  unfold Blocks.haltRun; dsimp only; split <;> simp

/-! ## The halt -/

/-- The drives turned off in SC, FC, HU and TM: the halt before RC's part (R153). -/
def Blocks.drivesOff (b : Blocks) : Blocks :=
  { b with
    sc := b.sc.turnOff
    fc := b.fc.halt
    hu := Eight.tabulate (fun h => (b.hu.get h).halt)
    tm := Eight.tabulate (fun h => { b.tm.get h with window := none }) }

theorem Blocks.halt_eq (b : Blocks) : b.halt = b.drivesOff.haltRun := rfl

/-- The run state, the stop and the operation after the halt (R89, R90). -/
theorem Blocks.halt_rc (b : Blocks) :
    b.halt.rc = { b.rc with
      runState := .halted, pauseCause := none, causes := ⟨false, false⟩, resume := none
      stop := none, change := none, op := none
      opRecord := match b.rc.op with
        | some op => ⟨some op.work.kind, op.tag, some .halted, OpFailures.none,
            b.rc.opRecord.counter + 1⟩
        | none => b.rc.opRecord } := by
  rw [b.halt_eq]
  cases hop : b.rc.op with
  | none =>
    rw [b.drivesOff.haltRun_rc_idle hop]
    simp [Blocks.drivesOff, hop]
  | some op =>
    rw [b.drivesOff.haltRun_rc_op op hop]
    rfl

/-- FC after the halt, but for the off-position flag (R43). -/
theorem Blocks.halt_fc (b : Blocks) :
    b.halt.fc = { b.fc.halt with offPosition := b.halt.fc.offPosition } := by
  rw [b.halt_eq]
  by_cases hpatch : ∃ tag base w, b.rc.op = some ⟨tag, base, .patch w⟩
  · obtain ⟨tag, base, w, hop⟩ := hpatch
    obtain ⟨-, hfc, -⟩ := b.drivesOff.haltRun_inside tag base w hop
    rw [hfc]
    rfl
  · obtain ⟨-, -, hfc, -⟩ := b.drivesOff.haltRun_outside fun op w hop hw =>
      hpatch ⟨op.tag, op.base, w, by rw [← hw]; exact hop⟩
    rw [hfc]
    rfl

/-- A head after the halt, but for its rest flag (R103). -/
theorem Blocks.halt_head (b : Blocks) (h : HeadId) :
    b.halt.hu.get h = { (b.hu.get h).halt with rest := (b.halt.hu.get h).rest } := by
  rw [b.halt_eq]
  by_cases hpatch : ∃ tag base w, b.rc.op = some ⟨tag, base, .patch w⟩
  · obtain ⟨tag, base, w, hop⟩ := hpatch
    obtain ⟨-, -, hhu⟩ := b.drivesOff.haltRun_inside tag base w hop
    rw [hhu]
    simp only [Blocks.drivesOff, Eight.get_tabulate]
  · obtain ⟨-, -, -, hhu⟩ := b.drivesOff.haltRun_outside fun op w hop hw =>
      hpatch ⟨op.tag, op.base, w, by rw [← hw]; exact hop⟩
    rw [hhu]
    simp only [Blocks.drivesOff, Eight.get_tabulate]

/-- Outside a patch run the halt leaves the ranges, the design and the rest flags (R89). -/
theorem Blocks.halt_outside (b : Blocks) (h : ∀ op w, b.rc.op = some op → op.work ≠ .patch w) :
    b.halt.rt = b.rt ∧ b.halt.ds = b.ds ∧ b.halt.fc.offPosition = b.fc.offPosition
      ∧ ∀ g : HeadId, (b.halt.hu.get g).rest = (b.hu.get g).rest := by
  obtain ⟨hrt, hds, hfc, hhu⟩ := b.drivesOff.haltRun_outside h
  rw [b.halt_eq, hrt, hds, hfc, hhu]
  refine ⟨rfl, rfl, rfl, fun g => ?_⟩
  simp only [Blocks.drivesOff, Eight.get_tabulate]
  rfl

/-- In a patch run it shrinks the patch head's range to p (R147). -/
theorem Blocks.halt_inside (b : Blocks) (tag : Byte) (base : BaseState) (w : PatchWork)
    (h : b.rc.op = some ⟨tag, base, .patch w⟩) :
    b.halt.fc.offPosition = true ∧ (∀ g : HeadId, (b.halt.hu.get g).rest = false)
      ∧ (∀ g : HeadId, g ≠ w.head → b.halt.rt.get g = b.rt.get g)
      ∧ b.halt.rt.get w.head = shrunk w w.p (b.rt.get w.head) := by
  obtain ⟨hrt, hfc, hhu⟩ := b.drivesOff.haltRun_inside tag base w h
  rw [b.halt_eq, hrt, hfc, hhu]
  refine ⟨rfl, fun g => ?_, fun g hg => ?_, ?_⟩
  · simp only [Eight.get_tabulate]
  · rw [Eight.get_update, if_neg hg]
    rfl
  · rw [Eight.get_update, if_pos rfl, shrinkList_eq_shrunk]
    rfl

/-- The halt makes of every block what the rules it names say (R153). -/
theorem Blocks.halted_halt (b : Blocks) : halted b b.halt := by
  have report : b.ru.OnlyRaised b.halt.ru := b.onlyRaised_halt
  have sc : b.halt.sc = b.sc.turnOff := by rw [b.halt_eq, Blocks.haltRun_sc]; rfl
  have tm (h : HeadId) : b.halt.tm.get h = { b.tm.get h with window := none } := by
    rw [b.halt_eq, Blocks.haltRun_tm]
    exact Eight.get_tabulate _ h
  have head (h : HeadId) : { b.halt.hu.get h with rest := (b.hu.get h).rest } =
      (b.hu.get h).halt := by
    rw [b.halt_head h]
    rfl
  have rc := b.halt_rc
  have fc := b.halt_fc
  refine ⟨by rw [rc], by rw [rc], by rw [rc], by rw [rc], by rw [rc], by rw [rc], by rw [rc],
    by rw [rc], by rw [rc], fun h => by rw [rc, h], fun op h => by rw [rc, h], sc,
    by rw [fc]; rfl, by rw [fc]; rfl, by rw [fc]; rfl, by rw [fc]; rfl, by rw [fc]; rfl,
    by rw [fc]; rfl, by rw [fc]; rfl, fun h => ⟨head h, tm h⟩, b.halt_cf, b.halt_tp, b.halt_pins,
    b.halt_sew, b.halt_load, b.halt_channel, report.heads, report.kindMask, b.halt_outside,
    b.halt_inside⟩

/-! ## A fault that halts the part -/

theorem Blocks.writeEntry_headless (b : Blocks) (c : Condition) (h : c.head = none) :
    b.writeEntry c = ({ b with fl := b.fl.write (b.entry c) } : Blocks).raise .fault := by
  unfold Blocks.writeEntry
  rw [h]

/-- A condition that names no head and whose action is HALT: its entry, FAULT and the halt (R150,
R153). -/
theorem Blocks.take_halts {b : Blocks} {c : Condition} (hact : b.action c = .halt)
    (hhead : c.head = none) :
    halted b (b.take c) ∧ (b.take c).fl = b.fl.write (b.entry c)
      ∧ (b.take c).ru.pend &&& (0b000001#6 &&& ~~~b.ru.kindMask)
        = 0b000001#6 &&& ~~~b.ru.kindMask := by
  refine ⟨?_, b.take_fl c, ?_⟩
  · rw [b.take_halt c hact, b.writeEntry_headless c hhead]
    exact Blocks.halted_halt (({ b with fl := b.fl.write (b.entry c) } : Blocks).raise .fault)
  · rw [b.take_halt c hact, b.writeEntry_headless c hhead]
    exact (Blocks.onlyRaised_halt _).grows _ (b.ru.raise_pending .fault)

/-- An event that reports such a condition to an FL with nothing waiting (R150). -/
theorem haltsWith_of_report {i : Instr} {s : State} {b : Blocks} {c : Condition} {e : Entry}
    (hexec : exec i s = .next { s with blk := b.report [c] }) (hidle : b.fl.waiting = [])
    (hact : b.action c = .halt) (hhead : c.head = none) (hentry : b.entry c = e) :
    haltsWith i s b e := by
  obtain ⟨hhalt, hfl, hpend⟩ := Blocks.take_halts hact hhead
  rw [Blocks.report_one hidle] at hexec
  exact ⟨_, hexec, rfl, rfl, hhalt, hentry ▸ hfl, hpend⟩

/-! ## The shaft -/

theorem Sc.turns_iff (s : Sc) : s.turns = true ↔ s.state ∈ [.turning, .stopping] := by
  simp [Sc.turns]

theorem Sc.isDriven_iff (s : Sc) : s.isDriven = true ↔ s.state ∈ [.finding, .turning, .stopping] := by
  simp [Sc.isDriven, Sc.turns]
  tauto

theorem Sc.atLastCount_iff (s : Sc) : s.atLastCount = true ↔ s.angle = some 1023 := by
  simp [Sc.atLastCount]

/-- A count at the last angle in TURNING and STOPPING is a stall (R47, R63). -/
theorem Blocks.encoderCount_stalls (b : Blocks) (h : b.sc.turns = true)
    (hlast : b.sc.atLastCount = true) : b.encoderCount = b.stall := by
  rw [Sc.turns_iff] at h
  simp only [List.mem_cons, List.not_mem_nil, or_false] at h
  rcases h with h | h <;> simp only [Blocks.encoderCount, h, hlast, if_true]

/-- SHAFT_STALL, with nothing waiting (R63). -/
theorem haltsWith_stall {i : Instr} {s : State} (hexec : exec i s = .next { s with blk := s.blk.stall })
    (hidle : s.blk.fl.waiting = []) :
    haltsWith i s s.blk
      (entryOf s.blk .shaftStall .halt (some .shaft) (s.blk.sc.cycle.map (·.index))) :=
  haltsWith_of_report hexec hidle rfl rfl rfl

end Sys2Proof.Machine

namespace Sys2Proof.Proofs

open Sys2Proof.Machine Sys2Proof.Claims

/-- Settles O48: each E-STOP event by the filter it belongs to; a recognition with the lock set reports
ESTOP. -/
theorem estopIsRecognisedAndReleased : Obligations.EstopIsRecognisedAndReleased := by
  unfold Obligations.EstopIsRecognisedAndReleased
  intro s
  refine ⟨fun a => rfl, fun h => ?_, fun h hlock => ?_, fun h hlock hidle => ?_, fun h => ?_,
    fun h => ?_⟩
  · have same : s.blk.estopRecognised = s.blk := by simp [Blocks.estopRecognised, h]
    exact next_blocks same
  · have same : s.blk.estopRecognised = { s.blk with fl.estop := true, fl.assertTiming := false } := by
      simp [Blocks.estopRecognised, h, hlock]
    exact next_blocks same
  · have raised : s.blk.estopRecognised =
        ({ s.blk with fl.estop := true, fl.assertTiming := false } : Blocks).report [.estop] := by
      simp [Blocks.estopRecognised, h, hlock]
    exact haltsWith_of_report (next_blocks raised) hidle rfl rfl rfl
  · have same : s.blk.estopReleased = { s.blk with fl.estop := false, fl.releaseTiming := false } := by
      simp [Blocks.estopReleased, h]
    exact next_blocks same
  · have same : s.blk.estopReleased = s.blk := by simp [Blocks.estopReleased, h]
    exact next_blocks same

/-- Settles O49: the drive demand by the shaft state, and each stall event as a SHAFT_STALL or as
nothing. -/
theorem shaftFaultsHaltThePart : Obligations.ShaftFaultsHaltThePart := by
  unfold Obligations.ShaftFaultsHaltThePart
  refine ⟨fun c => ⟨fun h => ?_, fun h => ?_, fun h => ?_⟩, ?_⟩
  · rw [Sc.driveDemand, h]
  · rw [Sc.driveDemand, h]
  · simp only [List.mem_cons, List.not_mem_nil, or_false] at h
    rcases h with h | h | h <;> rw [Sc.driveDemand, h]
  intro s hidle e
  refine ⟨fun hstate htimer => ?_, fun hstate => ?_, fun hstate hlast => ⟨?_, ?_⟩, fun h => ?_⟩
  · have stalls : s.blk.stallExpiry = s.blk.stall := by
      rw [Blocks.stallExpiry, (s.blk.sc.isDriven_iff).mpr hstate,
        Option.isSome_iff_ne_none.mpr htimer]
      rfl
    exact haltsWith_stall (next_blocks stalls) hidle
  · have rests : s.blk.stallExpiry = s.blk := by
      simp only [List.mem_cons, List.not_mem_nil, or_false] at hstate
      rcases hstate with h | h <;> simp [Blocks.stallExpiry, Sc.isDriven, Sc.turns, h]
    exact next_blocks rests
  · have stalls : s.blk.countOverflow = s.blk.stall := by
      rw [Blocks.countOverflow, s.blk.sc.turns_iff.mpr hstate, s.blk.sc.atLastCount_iff.mpr hlast]
      rfl
    exact haltsWith_stall (next_blocks stalls) hidle
  · exact haltsWith_stall (next_blocks (s.blk.encoderCount_stalls (s.blk.sc.turns_iff.mpr hstate)
      (s.blk.sc.atLastCount_iff.mpr hlast))) hidle
  · have rests : s.blk.countOverflow = s.blk := by
      rw [Blocks.countOverflow, if_neg]
      rw [Bool.and_eq_true, Sc.turns_iff, Sc.atLastCount_iff]
      exact fun ⟨hturns, hangle⟩ => h.elim (· hturns) (· hangle)
    exact next_blocks rests

end Sys2Proof.Proofs
end

section
/-!
SUPPORT. The frame commands, and RUN from IDLE with its return travel (R29, R30, R31, R38, R69, R70).
-/

namespace Sys2Proof.Machine

open Sys2Proof.Claims

/-! ## The run state replaced -/

theorem Blocks.goto_eq_inState (b : Blocks) (rs : RunState) (c : Option PauseCause) :
    b.goto rs c = inState b rs c := rfl

theorem Blocks.goto_withFc (b : Blocks) (f : Fc) (rs : RunState) (c : Option PauseCause) :
    ({ b with fc := f } : Blocks).goto rs c = { b.goto rs c with fc := f } := by
  unfold Blocks.goto
  split_ifs <;> rfl

theorem Blocks.endOpBase_rc_withFc (b : Blocks) (f : Fc) (op : LongOp) (h : b.rc.op = some op)
    (r : OpResult) (g : OpFailures) :
    (({ b with fc := f } : Blocks).endOpBase r g).rc =
      { b.rc with
        runState := op.base.target.1, pauseCause := op.base.target.2, op := none
        opRecord := ⟨some op.work.kind, op.tag, some r, g, b.rc.opRecord.counter + 1⟩ } :=
  Blocks.endOpBase_rc { b with fc := f } op h r g

theorem Blocks.baseState_eq (b : Blocks) : b.baseState = baseOf b := rfl

/-! ## HOOPDEF, HOOPSEL and PLACE -/

theorem s16_skipTwo (a c : Byte) (l : List Byte) (i : Nat) : s16 (a :: c :: l) (i + 2) = s16 l i := rfl

theorem s16_skipS16 (z : Int) (l : List Byte) (i : Nat) : s16 (encS16 z ++ l) (i + 2) = s16 l i :=
  s16_skip16 _ l i

/-- The four bounds of a field after the number of a hoop (R29). -/
theorem s16_bounds (a c : Byte) (w x y z : Int) (hw : -32768 ≤ w ∧ w ≤ 32767)
    (hx : -32768 ≤ x ∧ x ≤ 32767) (hy : -32768 ≤ y ∧ y ≤ 32767) (hz : -32768 ≤ z ∧ z ≤ 32767) :
    s16 ([a, c] ++ encS16 w ++ encS16 x ++ encS16 y ++ encS16 z) 2 = w
      ∧ s16 ([a, c] ++ encS16 w ++ encS16 x ++ encS16 y ++ encS16 z) 4 = x
      ∧ s16 ([a, c] ++ encS16 w ++ encS16 x ++ encS16 y ++ encS16 z) 6 = y
      ∧ s16 ([a, c] ++ encS16 w ++ encS16 x ++ encS16 y ++ encS16 z) 8 = z := by
  rw [show [a, c] ++ encS16 w ++ encS16 x ++ encS16 y ++ encS16 z
    = a :: c :: (encS16 w ++ (encS16 x ++ (encS16 y ++ (encS16 z ++ [])))) by simp]
  refine ⟨?_, ?_, ?_, ?_⟩
  · rw [s16_skipTwo _ _ _ 0, s16_encS16 w _ hw.1 hw.2]
  · rw [s16_skipTwo _ _ _ 2, s16_skipS16 _ _ 0, s16_encS16 x _ hx.1 hx.2]
  · rw [s16_skipTwo _ _ _ 4, s16_skipS16 _ _ 2, s16_skipS16 _ _ 0, s16_encS16 y _ hy.1 hy.2]
  · rw [s16_skipTwo _ _ _ 6, s16_skipS16 _ _ 4, s16_skipS16 _ _ 2, s16_skipS16 _ _ 0,
      s16_encS16 z _ hz.1 hz.2]

/-- With no design open every field fits (R28). -/
theorem Blocks.fits_closed (b : Blocks) (h : b.ds.channel = .closed) (o : Pos) (f : Option Rect) :
    b.fits o f = true := by
  simp [Blocks.fits, h]

/-- HOOPDEF in IDLE with nothing open (R29). -/
theorem cmdHoopdef_taken (tag : Byte) (h : HoopId) (r : Rect) (b : Blocks) (hlock : b.cf.lock = true)
    (hidle : b.rc.runState = .idle) (hclosed : b.ds.channel = .closed)
    (hr : -32768 ≤ r.xMin ∧ r.xMax ≤ 32767 ∧ -32768 ≤ r.yMin ∧ r.yMax ≤ 32767)
    (hin : b.cf.config.x.travelMin ≤ r.xMin ∧ r.xMin < r.xMax ∧ r.xMax ≤ b.cf.config.x.travelMax
      ∧ b.cf.config.y.travelMin ≤ r.yMin ∧ r.yMin < r.yMax ∧ r.yMax ≤ b.cf.config.y.travelMax) :
    cmdHoopdef tag ([numByte h, 0#8] ++ encS16 r.xMin ++ encS16 r.xMax ++ encS16 r.yMin
        ++ encS16 r.yMax) b
      = okWith { b with fc.hoops := b.fc.hoops.set h (some r) }
          ({ b with fc.hoops := b.fc.hoops.set h (some r) } : Blocks).setupBytes := by
  obtain ⟨hx0, hx1, hy0, hy1⟩ := hr
  obtain ⟨tx0, hx, tx1, ty0, hy, ty1⟩ := hin
  obtain ⟨e2, e4, e6, e8⟩ := s16_bounds (numByte h) 0#8 r.xMin r.xMax r.yMin r.yMax
    ⟨hx0, by omega⟩ ⟨by omega, hx1⟩ ⟨hy0, by omega⟩ ⟨by omega, hy1⟩
  unfold cmdHoopdef
  dsimp only
  rw [e2, e4, e6, e8]
  have length : lengthIs ([numByte h, 0#8] ++ encS16 r.xMin ++ encS16 r.xMax ++ encS16 r.yMin
      ++ encS16 r.yMax) 10 = (true, .length) := rfl
  have number : (within 1 8 (u8 ([numByte h, 0#8] ++ encS16 r.xMin ++ encS16 r.xMax
      ++ encS16 r.yMin ++ encS16 r.yMax) 0) && u8 ([numByte h, 0#8] ++ encS16 r.xMin
      ++ encS16 r.xMax ++ encS16 r.yMin ++ encS16 r.yMax) 1 == 0) = true := by
    cases h <;> rfl
  have hoop : id8At ([numByte h, 0#8] ++ encS16 r.xMin ++ encS16 r.xMax ++ encS16 r.yMin
      ++ encS16 r.yMax) 0 = h := id8At_numByte h _
  rw [length, number, hoop]
  have ordered : decide (r.xMin < r.xMax ∧ r.yMin < r.yMax) = true := decide_eq_true ⟨hx, hy⟩
  have inside : (b.inTravel ⟨r.xMin, r.yMin⟩ && b.inTravel ⟨r.xMax, r.yMax⟩) = true := by
    simp only [Blocks.inTravel, Bool.and_eq_true, decide_eq_true_eq]
    omega
  simp [Blocks.judgeWith_cons, Blocks.judgeWith_nil, Blocks.isConfigured, Blocks.runIs_eq, hlock,
    hidle, ordered, inside, b.fits_closed hclosed, -Bool.and_eq_true, -Bool.decide_and]

/-- HOOPSEL in IDLE with nothing open, by the hoop the byte names (R30). -/
theorem cmdHoopsel_named (tag : Byte) (h : HoopId) (b : Blocks) (hlock : b.cf.lock = true)
    (hidle : b.rc.runState = .idle) (hclosed : b.ds.channel = .closed) :
    cmdHoopsel tag [numByte h] b =
      if b.fc.hoops.get h = none then (b, 0x0A#8 :: b.setupBytes)
      else okWith { b with fc.active := some h }
        ({ b with fc.active := some h } : Blocks).setupBytes := by
  have length : lengthIs [numByte h] 1 = (true, .length) := rfl
  have number : u8 [numByte h] 0 = h.num := numByte_toNat h
  have named : h.num ≠ 0 := Nat.ne_of_gt (Id8.num_pos h)
  have known : within 0 8 h.num = true := by cases h <;> rfl
  unfold cmdHoopsel
  simp only [length, number, known, id8At_numByte, Blocks.judgeWith_cons, Blocks.judgeWith_nil,
    Blocks.isConfigured, Blocks.runIs_eq, hlock, hidle, named, b.fits_closed hclosed, if_true]
  cases hh : b.fc.hoops.get h <;> simp [named, Code.byte]

theorem cmdHoopsel_none (tag : Byte) (b : Blocks) (hlock : b.cf.lock = true)
    (hidle : b.rc.runState = .idle) (hclosed : b.ds.channel = .closed) :
    cmdHoopsel tag [0#8] b =
      okWith { b with fc.active := none } ({ b with fc.active := none } : Blocks).setupBytes := by
  have length : lengthIs [0#8] 1 = (true, .length) := rfl
  have number : u8 [0#8] 0 = 0 := rfl
  unfold cmdHoopsel
  simp [length, number, within, Blocks.judgeWith_cons, Blocks.judgeWith_nil, Blocks.isConfigured,
    Blocks.runIs_eq, hlock, hidle, hclosed]

/-- PLACE in IDLE, by whether the placed box fits the active field (R31). -/
theorem cmdPlace_encPos16 (tag : Byte) (o : Pos) (b : Blocks) (hlock : b.cf.lock = true)
    (hidle : b.rc.runState = .idle)
    (ho : -32768 ≤ o.x ∧ o.x ≤ 32767 ∧ -32768 ≤ o.y ∧ o.y ≤ 32767) :
    cmdPlace tag (encPos16 o) b =
      if b.fits o b.activeField = true then
        okWith { b with fc.origin := o } ({ b with fc.origin := o } : Blocks).setupBytes
      else (b, 0x11#8 :: b.setupBytes) := by
  obtain ⟨x0, x1, y0, y1⟩ := ho
  have length : lengthIs (encPos16 o) 4 = (true, .length) := rfl
  unfold cmdPlace
  simp only [length, pos16_encPos16 o x0 x1 y0 y1, Blocks.judgeWith_cons, Blocks.judgeWith_nil,
    Blocks.isConfigured, Blocks.runIs_eq, hlock, hidle, if_true]
  simp [Code.byte]

/-- With a design open the placed box is tested against the field (R28). -/
theorem Blocks.fits_open (b : Blocks) (o : Pos) (fld box : Rect) (hopen : b.ds.channel ≠ .closed)
    (hbox : b.ds.box = some box) (hfield : b.activeField = some fld) :
    b.fits o b.activeField = true ↔ fld.xMin ≤ o.x + box.xMin ∧ o.x + box.xMax ≤ fld.xMax
      ∧ fld.yMin ≤ o.y + box.yMin ∧ o.y + box.yMax ≤ fld.yMax := by
  simp [Blocks.fits, hopen, hbox, hfield, recheck]

/-! ## MOVE -/

/-- The conditions of MOVE, met (R38). -/
theorem cmdMove_taken (tag : Byte) (p : Pos) (b : Blocks) (hlock : b.cf.lock = true)
    (hrun : runIsOf b [.idle, .paused, .ended]) (hready : axesReady b)
    (hp : -32768 ≤ p.x ∧ p.x ≤ 32767 ∧ -32768 ≤ p.y ∧ p.y ≤ 32767)
    (hin : b.inTravel p = true) :
    cmdMove tag (encPos16 p) b = okWith (b.beginManual tag p) [] := by
  obtain ⟨x0, x1, y0, y1⟩ := hp
  have length : lengthIs (encPos16 p) 4 = (true, .length) := rfl
  have running : b.rc.runState ≠ .halted := fun h => by simp [runIsOf, h] at hrun
  have ready := b.fc.ready_of_axes hready
  unfold cmdMove
  simp only [length, pos16_encPos16 p x0 x1 y0 y1, Blocks.judge_cons, Blocks.judge_nil,
    Blocks.isConfigured, Blocks.runIs_eq, Blocks.notEstopped, hlock, hin, ready, if_true]
  rw [if_pos (by simp [running]), if_pos (decide_eq_true hrun)]

/-- A manual move of the frame from off its target (R38, R33). -/
theorem Blocks.beginManual_away (b : Blocks) (tag : Byte) (p : Pos) (h : standsOff b p) :
    b.beginManual tag p =
      { inState { b with rc.op := some ⟨tag, b.baseState, .move⟩ } .moving none with
          fc := { frameSent b.fc .manual p with
            offPosition := b.fc.offPosition || decide (b.rc.runState ≠ .idle) } } := by
  have began : b.beginOp tag .move .moving =
      inState { b with rc.op := some ⟨tag, b.baseState, .move⟩ } .moving none := rfl
  have kept : (inState { b with rc.op := some ⟨tag, b.baseState, .move⟩ } .moving none).fc = b.fc := by
    rw [← began, Blocks.beginOp_fc]
  have flag : (b.rc.runState != .idle) = decide (b.rc.runState ≠ .idle) := by
    cases b.rc.runState <;> rfl
  unfold Blocks.beginManual
  dsimp only
  rw [began, kept, Fc.depart_off _ _ _ h, flag]
  rfl

/-- A frame that stands at its target with both axes READY makes no move (R33). -/
theorem Fc.depart_here (f : Fc) (o : MoveOwner) (p : Pos) (hready : f.ready = true)
    (hx : f.x.pos = some p.x) (hy : f.y.pos = some p.y) : f.depart o p = { f with move := none } := by
  unfold Fc.depart
  rw [AxisRec.depart_here _ _ hx, AxisRec.depart_here _ _ hy]
  exact congrArg (fun m => { f with move := m }) (if_pos hready)

/-- A manual move of the frame to where it stands ends at once with OK (R38). -/
theorem Blocks.beginManual_here (b : Blocks) (tag : Byte) (p : Pos)
    (hrun : runIsOf b [.idle, .paused, .ended]) (hready : axesReady b) (h : ¬ standsOff b p) :
    (b.beginManual tag p).rc.runState = b.rc.runState
      ∧ (b.beginManual tag p).rc.opRecord =
        ⟨some .move, tag, some .ok, OpFailures.none, b.rc.opRecord.counter + 1⟩ := by
  obtain ⟨hx, hy⟩ : b.fc.x.pos = some p.x ∧ b.fc.y.pos = some p.y := by
    simpa [standsOff] using h
  have here := b.fc.depart_here .manual p (b.fc.ready_of_axes hready) hx hy
  have target : b.baseState.target.1 = b.rc.runState := by
    simp only [runIsOf, List.mem_cons, List.not_mem_nil, or_false] at hrun
    rcases hrun with hrun | hrun | hrun <;> simp [Blocks.baseState, hrun, BaseState.target]
  have op : (b.beginOp tag .move .moving).rc.op = some ⟨tag, b.baseState, .move⟩ := by
    rw [Blocks.beginOp, Blocks.goto_rc]
  have ends : b.beginManual tag p = ({ b.beginOp tag .move .moving with
      fc := { b.fc with
        move := none, offPosition := b.fc.offPosition || b.rc.runState != .idle } } : Blocks).endOpBase
      .ok OpFailures.none := by
    unfold Blocks.beginManual
    dsimp only
    rw [Blocks.beginOp_fc, here]
    rfl
  rw [ends, Blocks.endOpBase_rc_withFc _ _ ⟨tag, b.baseState, .move⟩ op]
  refine ⟨target, ?_⟩
  dsimp only
  rw [Blocks.beginOp, Blocks.goto_rc]
  rfl

/-! ## RUN from IDLE -/

theorem Blocks.someSewing_iff (b : Blocks) (f : Head → Bool) :
    b.someSewing f = true ↔ ∃ h, sews b h ∧ f (b.hu.get h) = true := by
  simp only [Blocks.someSewing, List.any_eq_true, Bool.and_eq_true, beq_iff_eq, sews,
    Blocks.configured, decide_eq_true_eq]
  exact ⟨fun ⟨h, _, hs, hf⟩ => ⟨h, hs, hf⟩,
    fun ⟨h, hs, hf⟩ => ⟨h, by cases h <;> decide, hs, hf⟩⟩

/-- RUN is taken from IDLE when its tests hold (R69). -/
theorem cmdRun_idle (tag : Byte) (b : Blocks) (htests : runTests b) (hidle : b.rc.runState = .idle) :
    cmdRun tag [] b = okWith b.runTaken [] := by
  obtain ⟨⟨hlock, -, hopen⟩, hhomed, hsome, hflags, hneedles, -, -⟩ := htests
  obtain ⟨hclosed, hstalled, hload⟩ := hopen hidle
  obtain ⟨hstopped, haxes⟩ := hhomed (by simp [runIsOf, hidle])
  have heads : b.someSewing (fun _ => true) = true :=
    (b.someSewing_iff _).mpr (hsome.imp fun _ hs => ⟨hs, rfl⟩)
  have unflagged : b.someSewing (·.faultFlag) = false := by
    rw [Bool.eq_false_iff, Ne, b.someSewing_iff]
    rintro ⟨h, hs, hf⟩
    rw [hflags h hs] at hf
    cases hf
  have found : b.someSewing (·.selector.lost) = false := by
    rw [Bool.eq_false_iff, Ne, b.someSewing_iff]
    rintro ⟨h, hs, hf⟩
    obtain ⟨hunknown, hjammed⟩ := hneedles (by simp [runIsOf, hidle]) h hs
    cases hsel : (b.hu.get h).selector <;> simp_all [Selector.lost]
  refine b.judge_taken _ _ ?_
  simp [Blocks.runConditions, firstRefusal, Blocks.isConfigured, Blocks.notEstopped, Blocks.runIs,
    Blocks.runIn, lengthIs, hlock, hidle, hclosed, hstalled, hload, hstopped,
    b.fc.ready_of_axes haxes, heads, unflagged, found]

theorem Ds.hasKind_iff (b : Blocks) (k : RecordKind) :
    b.ds.hasKind b.ds.sew k = true ↔ recordAtSew b k := by
  unfold Ds.hasKind recordAtSew
  cases b.ds.record b.ds.sew <;> simp

/-- A run begins from IDLE: its resume kind is START and its cycle count 0 (R70). -/
def Blocks.runBegun (b : Blocks) : Blocks :=
  { b with rc.runExists := true, rc.resume := some .start, sc.cycleCount := 0#32 }

/-- The run so begun, with its frame off position (R70). -/
def Blocks.runBegunOff (b : Blocks) : Blocks := { b.runBegun with fc.offPosition := true }

/-- RUN from IDLE with the frame off the position before S (R69, R70). -/
theorem Blocks.runTaken_away (b : Blocks) (p : Pos) (hidle : b.rc.runState = .idle)
    (hend : ¬ recordAtSew b .endDesign) (hmark : ¬ recordAtSew b .mark)
    (hp : b.ds.posBefore b.ds.sew = some p) (hready : axesReady b)
    (hoff : standsOff b (b.fc.origin.add p)) :
    b.runTaken =
      { inState { b with
            rc.runExists := true, rc.resume := some .start, sc.cycleCount := 0#32 } .travel none with
          fc := { frameSent b.fc .returnTravel (b.fc.origin.add p) with offPosition := true } } := by
  have stage : b.runBegun.sequencePhase =
      ({ b.runBegun.goto .travel none with
          fc := { frameSent b.fc .returnTravel (b.fc.origin.add p) with offPosition := true } },
        none) := by
    have noEnd : b.runBegun.ds.hasKind b.runBegun.ds.sew .endDesign = false := by
      rw [Bool.eq_false_iff, Ne, Ds.hasKind_iff]
      exact hend
    have noMark : b.runBegun.ds.hasKind b.runBegun.ds.sew .mark = false := by
      rw [Bool.eq_false_iff, Ne, Ds.hasKind_iff]
      exact hmark
    have ready : (b.runBegunOff.goto .travel none).fc.ready = true := by
      rw [Blocks.goto_fc]
      exact b.fc.ready_of_axes hready
    have travel : (b.runBegunOff.goto .travel none).travel .returnTravel
        ((b.runBegunOff.goto .travel none).ds.posBefore (b.runBegunOff.goto .travel none).ds.sew) =
        some { b.runBegunOff.goto .travel none with
          fc := frameSent b.runBegunOff.fc .returnTravel (b.fc.origin.add p) } := by
      rw [Blocks.goto_ds, show b.runBegunOff.ds.posBefore b.runBegunOff.ds.sew = some p from hp,
        Blocks.travel_some _ _ _ ready, Blocks.goto_fc,
        show b.runBegunOff.fc.origin = b.fc.origin from rfl, Fc.depart_off b.runBegunOff.fc _ _ hoff]
    unfold Blocks.sequencePhase
    rw [noEnd, noMark]
    simp only [Bool.false_eq_true, if_false]
    rw [if_pos (show b.runBegun.rc.resume = some .start from rfl), if_pos rfl,
      show ({ b.runBegun with fc.offPosition := true } : Blocks) = b.runBegunOff from rfl, travel]
    dsimp only
    rw [show b.runBegunOff.goto .travel none =
      { b.runBegun.goto .travel none with fc := b.runBegunOff.fc } from
      b.runBegun.goto_withFc b.runBegunOff.fc .travel none]
    rfl
  have taken : b.runTaken = b.runBegun.go .sequence := by
    unfold Blocks.runTaken
    rw [hidle]
    rfl
  rw [taken, Blocks.go_end .sequence b.runBegun (by rw [Blocks.phase, stage]), Blocks.phase, stage]
  rfl

end Sys2Proof.Machine

namespace Sys2Proof.Proofs

open Sys2Proof.Machine Sys2Proof.Claims

/-- Settles O29: the owner's answers to HOOPDEF, HOOPSEL and PLACE, and the recheck of an open
design. -/
theorem frameSetupIsTakenInIdle : Obligations.FrameSetupIsTakenInIdle := by
  unfold Obligations.FrameSetupIsTakenInIdle
  refine ⟨?_, ?_⟩
  · intro tag h r o s hfree hlock hidle hclosed hr ho
    refine ⟨?_, ?_, ?_, ?_, ?_⟩
    · intro hin b'
      rw [exec_hoopdef _ _ _ hfree]
      exact next_answered (cmdHoopdef_taken tag h r s.blk hlock hidle hclosed hr hin)
    · intro hhoop b'
      rw [exec_hoopsel _ _ _ hfree]
      refine next_answered ?_
      rw [cmdHoopsel_named tag h s.blk hlock hidle hclosed, if_neg hhoop]
      rfl
    · intro hhoop
      rw [exec_hoopsel _ _ _ hfree]
      refine next_answered ?_
      rw [cmdHoopsel_named tag h s.blk hlock hidle hclosed, if_pos hhoop]
    · intro b'
      rw [exec_hoopsel _ _ _ hfree]
      exact next_answered (cmdHoopsel_none tag s.blk hlock hidle hclosed)
    · intro b'
      rw [exec_place _ _ _ hfree]
      refine next_answered ?_
      rw [cmdPlace_encPos16 tag o s.blk hlock hidle ho, if_pos (s.blk.fits_closed hclosed _ _)]
      rfl
  · intro tag o fld box s hfree hlock hidle hopen hbox hfield ho
    rw [exec_place _ _ _ hfree]
    refine next_answered ?_
    rw [cmdPlace_encPos16 tag o s.blk hlock hidle ho]
    exact if_congr (s.blk.fits_open o fld box hopen hbox hfield) rfl rfl

/-- Settles O30: the manual move from off its target, and at it. -/
theorem moveSendsTheFrame : Obligations.MoveSendsTheFrame := by
  unfold Obligations.MoveSendsTheFrame
  intro tag p s hfree hlock hrun hready hp hx0 hx1 hy0 hy1
  have inside : s.blk.inTravel p = true := decide_eq_true ⟨hx0, hx1, hy0, hy1⟩
  have taken := cmdMove_taken tag p s.blk hlock hrun hready hp inside
  refine ⟨fun hoff => ?_, fun hhere => ?_⟩
  · rw [exec_move _ _ _ hfree]
    refine next_answered ?_
    rw [taken, s.blk.beginManual_away tag p hoff]
    rfl
  · obtain ⟨hrs, hrec⟩ := s.blk.beginManual_here tag p hrun hready hhere
    rw [exec_move _ _ _ hfree, taken]
    exact ⟨_, rfl, rfl, hrs, hrec⟩

/-- Settles O32: the run sequence of a RUN from IDLE, whose return travel is sent. -/
theorem runFromIdleBeginsReturnTravel : Obligations.RunFromIdleBeginsReturnTravel := by
  unfold Obligations.RunFromIdleBeginsReturnTravel
  intro tag p s hfree htests hidle hend hmark hp hoff
  rw [exec_run _ _ _ hfree]
  refine next_answered ?_
  rw [cmdRun_idle tag s.blk htests hidle, s.blk.runTaken_away p hidle hend hmark hp
    (htests.2.1 (by simp [runIsOf, hidle])).2 hoff]
  rfl

end Sys2Proof.Proofs
end

section
/-!
SUPPORT. PAUSE by the run state it finds (R74, R33, R39, R84, R144).
-/

namespace Sys2Proof.Machine

open Sys2Proof.Claims

/-! ## PAUSE at the owner -/

theorem cmdPause_taken (tag : Byte) (b : Blocks) (hlock : b.cf.lock = true)
    (h : runIsOf b [.travel, .changing, .running, .stopping, .held, .moving, .reposition, .patch]) :
    cmdPause tag [] b = okWith b.pauseTaken [] := by
  unfold cmdPause
  rw [Blocks.isConfigured, Blocks.runIs_eq, hlock, decide_eq_true h]
  rfl

theorem cmdPause_refused (tag : Byte) (b : Blocks) (hlock : b.cf.lock = true)
    (h : runIsOf b [.idle, .paused, .ended, .homing, .halted]) :
    cmdPause tag [] b = refused b 0x04#8 := by
  have other : b.rc.runState ∉
      [RunState.travel, .changing, .running, .stopping, .held, .moving, .reposition, .patch] := by
    simp only [runIsOf, List.mem_cons, List.not_mem_nil, or_false] at h
    rcases h with h | h | h | h | h <;> simp [h]
  unfold cmdPause
  rw [Blocks.isConfigured, Blocks.runIs_eq, hlock, decide_eq_false other]
  rfl

/-- A PAUSE that is taken, at a link that is free. -/
theorem exec_pause_taken {s : State} {b' : Blocks} (tag : Byte) (hfree : s.linkFree)
    (hlock : s.blk.cf.lock = true)
    (h : runIsOf s.blk [.travel, .changing, .running, .stopping, .held, .moving, .reposition, .patch])
    (hb : s.blk.pauseTaken = b') :
    exec (.pause tag []) s = .next (answered s 0x22#8 tag (b', [0x00#8])) := by
  rw [exec_pause _ _ _ hfree]
  refine next_answered ?_
  rw [cmdPause_taken tag s.blk hlock h, hb]
  rfl

/-! ## What PAUSE does in each run state -/

theorem Blocks.pauseTaken_travel (b : Blocks) (h : b.rc.runState = .travel) :
    b.pauseTaken = ({ b with rc.causes.host := true } : Blocks).stopTravel .host := by
  unfold Blocks.pauseTaken; rw [h]

theorem Blocks.pauseTaken_moving (b : Blocks) (h : b.rc.runState = .moving) :
    b.pauseTaken = b.pauseMove := by
  unfold Blocks.pauseTaken; rw [h]

theorem Blocks.pauseTaken_reposition (b : Blocks) (h : b.rc.runState = .reposition) (op : LongOp)
    (w : RepoWork) (hop : b.rc.op = some op) (hw : op.work = .repo w) :
    b.pauseTaken = b.pauseReposition w := by
  obtain ⟨tag, base, work⟩ := op
  cases hw
  unfold Blocks.pauseTaken; rw [h, hop]

theorem Blocks.pauseTaken_patch (b : Blocks) (h : b.rc.runState = .patch) (op : LongOp)
    (w : PatchWork) (hop : b.rc.op = some op) (hw : op.work = .patch w) :
    b.pauseTaken = b.patchInterrupt w false := by
  obtain ⟨tag, base, work⟩ := op
  cases hw
  unfold Blocks.pauseTaken; rw [h, hop]

theorem Blocks.pauseTaken_running (b : Blocks) (h : b.rc.runState = .running)
    (hsc : b.sc.state = .turning) :
    b.pauseTaken = inState { b with rc.causes.host := true, sc.state := .stopping } .stopping none := by
  unfold Blocks.pauseTaken
  rw [h]
  dsimp only
  rw [Sc.raiseStop, if_pos hsc]
  rfl

theorem Blocks.pauseTaken_stopping (b : Blocks) (h : b.rc.runState = .stopping) :
    b.pauseTaken = { b with rc.causes.host := true } := by
  unfold Blocks.pauseTaken; rw [h]

theorem Blocks.pauseTaken_held (b : Blocks) (h : b.rc.runState = .held) :
    b.pauseTaken = inState b .paused (some .host) := by
  unfold Blocks.pauseTaken; rw [h]; rfl

theorem Blocks.pauseTaken_changing (b : Blocks) (h : b.rc.runState = .changing) (c : Change)
    (hc : b.rc.change = some c) :
    b.pauseTaken = { b with rc.change := some { c with paused := true } } := by
  unfold Blocks.pauseTaken; rw [h, hc]; rfl

/-! ## A stop of the frame -/

/-- A move whose stop has been asked is asked for nothing more (R33). -/
theorem Fc.askStop_asked (f : Fc) (o : MoveOwner) (h : f.move = some ⟨o, true⟩) : f.askStop = f := by
  rw [Fc.askStop_some f _ h]
  obtain ⟨_, _, _, _, _, _, move, _⟩ := f
  cases h
  rfl

theorem Blocks.not_completed (b : Blocks) (o : MoveOwner) (asked : Bool)
    (h : b.fc.move = some ⟨o, asked⟩) (hstop : asked = true ∨ ¬ axesReady b) :
    ¬ b.fc.completed = true := by
  rw [b.completed_of_axes, Fc.stopAsked, h]
  rintro ⟨haxes, hasked⟩
  rcases hstop with hstop | hstop
  · exact absurd (hasked.symm.trans hstop) nofun
  · exact hstop haxes

theorem Blocks.is_completed (b : Blocks) (o : MoveOwner) (h : b.fc.move = some ⟨o, false⟩)
    (haxes : axesReady b) : b.fc.completed = true := by
  rw [b.completed_of_axes, Fc.stopAsked, h]
  exact ⟨haxes, rfl⟩

/-- In TRAVEL and MOVING a PAUSE asks the move to stop short, while it has not completed (R33, R39). -/
theorem Blocks.pauseTaken_asks (b : Blocks) (h : runIsOf b [.travel, .moving])
    (hmove : ¬ b.fc.completed = true) :
    b.pauseTaken.fc = b.fc.askStop ∧ b.pauseTaken.rc.runState = b.rc.runState
      ∧ b.pauseTaken.rc.op = b.rc.op ∧ b.pauseTaken.rc.opRecord = b.rc.opRecord := by
  simp only [runIsOf, List.mem_cons, List.not_mem_nil, or_false] at h
  rcases h with h | h
  · rw [b.pauseTaken_travel h, Blocks.stopTravel, if_neg hmove]
    exact ⟨rfl, rfl, rfl, rfl⟩
  · rw [b.pauseTaken_moving h, Blocks.pauseMove, if_neg hmove]
    exact ⟨rfl, rfl, rfl, rfl⟩

/-- A manual move that has completed ends with OK, whatever stop is asked of it (R39). -/
theorem Blocks.pauseMove_completed (b : Blocks) (op : LongOp) (hop : b.rc.op = some op)
    (hmove : b.fc.completed = true) :
    b.pauseMove.fc = { b.fc with move := none }
      ∧ b.pauseMove.rc = { b.rc with
        runState := op.base.target.1, pauseCause := op.base.target.2, op := none
        opRecord := ⟨some op.work.kind, op.tag, some .ok, OpFailures.none,
          b.rc.opRecord.counter + 1⟩ } := by
  rw [Blocks.pauseMove, if_pos hmove]
  exact ⟨Blocks.endOpBase_fc _ _ _, b.endOpBase_rc_withFc { b.fc with move := none } op hop _ _⟩

/-- Return travel that has completed ends the run sequence in PAUSED (R33, R70). -/
theorem Blocks.stopTravel_completed (b : Blocks) (cause : PauseCause) (hmove : b.fc.completed = true) :
    b.stopTravel cause = inState { b with
        fc.move := none, fc.offPosition := false, rc.resume := none
        rc.causes := ⟨false, false⟩ } .paused (some (if b.rc.causes.fault then .fault else cause)) := by
  rw [Blocks.stopTravel, if_pos hmove]
  rfl

/-- The return travel of BACK and FWD is asked to stop short (R84). -/
theorem Blocks.pauseReposition_asks (b : Blocks) (w : RepoWork) (asked : Bool)
    (h : b.fc.move = some ⟨.returnTravel, asked⟩) (hmove : ¬ b.fc.completed = true) :
    b.pauseReposition w = { b with fc.move := some ⟨.returnTravel, true⟩ } := by
  unfold Blocks.pauseReposition
  rw [h]
  dsimp only
  rw [if_neg hmove, Fc.askStop_some _ _ h]

/-- A step of BACK and FWD runs on, and the stepping ends after it (R84). -/
theorem Blocks.pauseReposition_notes (b : Blocks) (op : LongOp) (w : RepoWork) (asked : Bool)
    (hop : b.rc.op = some op) (h : b.fc.move = some ⟨.step, asked⟩) :
    b.pauseReposition w =
      { b with rc.op := some { op with work := .repo { w with pauseAsked := true } } } := by
  unfold Blocks.pauseReposition
  rw [h]
  simp only [Blocks.setWork, hop, Option.map_some]

/-- The shaft of a patch that sews is stopped at the end of its cycle (R144). -/
theorem Blocks.patchInterrupt_pauses (b : Blocks) (op : LongOp) (w : PatchWork)
    (hop : b.rc.op = some op) (hmove : b.fc.move = none) (hchange : b.rc.change = none)
    (hsc : b.sc.state = .turning) :
    b.patchInterrupt w false =
      { b with
        rc.op := some { op with work := .patch { w with causes := ⟨true, w.causes.fault⟩ } }
        sc.state := .stopping } := by
  have turns : b.sc.turns = true := by simp [Sc.turns, hsc]
  unfold Blocks.patchInterrupt
  simp only [Blocks.setWork, hmove, hchange, turns, hop, Bool.not_false, Bool.or_true, Bool.or_false,
    Option.map_some, if_true, Sc.raiseStop, hsc]

end Sys2Proof.Machine

namespace Sys2Proof.Proofs

open Sys2Proof.Machine Sys2Proof.Claims

/-- Settles O33: PAUSE, run state by run state. -/
theorem pauseByRunState : Obligations.PauseByRunState := by
  unfold Obligations.PauseByRunState
  intro tag s hfree hlock
  have taken {b' : Blocks} := exec_pause_taken (s := s) (b' := b') tag hfree hlock
  have inTravel (h : runIsOf s.blk [.travel, .moving]) : runIsOf s.blk
      [.travel, .changing, .running, .stopping, .held, .moving, .reposition, .patch] := by
    simp only [runIsOf, List.mem_cons, List.not_mem_nil, or_false] at h ⊢
    tauto
  refine ⟨fun hrun hsc => ?_, fun hrun => ?_, fun hrun => ?_, fun c hrun hc => ?_,
    fun o hrun haxes hmove => ?_, fun o hrun hmove => ?_, fun old base hrun haxes hmove hop => ?_,
    fun hrun haxes hmove => ?_, fun asked hrun ⟨op, w, hop, hw⟩ hmove hstop => ?_,
    fun op w hrun hop hw hmove => ?_, fun op w hrun hop hw hmove hchange hsc => ?_, fun hrun => ?_⟩
  · exact taken (by simp [runIsOf, hrun]) (s.blk.pauseTaken_running hrun hsc)
  · exact taken (by simp [runIsOf, hrun]) (s.blk.pauseTaken_stopping hrun)
  · exact taken (by simp [runIsOf, hrun]) (s.blk.pauseTaken_held hrun)
  · exact taken (by simp [runIsOf, hrun]) (s.blk.pauseTaken_changing hrun c hc)
  · obtain ⟨hfc, hrs, -, -⟩ := s.blk.pauseTaken_asks hrun
      (s.blk.not_completed o false hmove (.inr haxes))
    exact ⟨_, taken (inTravel hrun) rfl, rfl, hfc.trans (Fc.askStop_some _ _ hmove), hrs⟩
  · obtain ⟨hfc, hrs, hop, hrec⟩ := s.blk.pauseTaken_asks hrun
      (s.blk.not_completed o true hmove (.inl rfl))
    exact ⟨_, taken (inTravel hrun) rfl, rfl, hfc.trans (Fc.askStop_asked _ o hmove), hrs, hop, hrec⟩
  · obtain ⟨hfc, hrc⟩ := s.blk.pauseMove_completed _ hop (s.blk.is_completed _ hmove haxes)
    refine ⟨_, taken (inTravel (by simp [runIsOf, hrun])) (s.blk.pauseTaken_moving hrun), rfl, hfc,
      ?_, ?_, ?_⟩
    · exact congrArg Rc.runState hrc
    · exact congrArg Rc.op hrc
    · exact congrArg Rc.opRecord hrc
  · refine taken (by simp [runIsOf, hrun]) ((s.blk.pauseTaken_travel hrun).trans ?_)
    exact Blocks.stopTravel_completed { s.blk with rc.causes.host := true } .host
      (s.blk.is_completed _ hmove haxes)
  · refine taken (by simp [runIsOf, hrun]) ((s.blk.pauseTaken_reposition hrun op w hop hw).trans ?_)
    exact s.blk.pauseReposition_asks w asked hmove (s.blk.not_completed _ asked hmove hstop)
  · refine taken (by simp [runIsOf, hrun]) ((s.blk.pauseTaken_reposition hrun op w hop hw).trans ?_)
    exact s.blk.pauseReposition_notes op w false hop hmove
  · refine taken (by simp [runIsOf, hrun]) ((s.blk.pauseTaken_patch hrun op w hop hw).trans ?_)
    exact s.blk.patchInterrupt_pauses op w hop hmove hchange hsc
  · rw [exec_pause _ _ _ hfree]
    exact next_answered (cmdPause_refused tag s.blk hlock hrun)

end Sys2Proof.Proofs
end

section
/-!
SUPPORT. HOME in flight: the outcomes it collects, its end by the table of R88, and its two stages
(R40, R41, R86, R87, R88); the inputs of the axes (R41, R42) and the failures of a homing (R48, R152).
-/

namespace Sys2Proof.Machine

open Sys2Proof.Claims

variable {tag : Byte} {base : BaseState} {w : HomeWork}

/-! ## The outcomes HOME collects -/

theorem Blocks.modHome_home {b : Blocks} (h : b.rc.op = some ⟨tag, base, .home w⟩)
    (f : HomeWork → HomeWork) :
    b.modHome f = { b with rc.op := some ⟨tag, base, .home (f w)⟩ } := by
  unfold Blocks.modHome
  rw [h]
  simp only [Blocks.setWork, h, Option.map_some]

theorem Blocks.modHome_home_withFc {b : Blocks} (h : b.rc.op = some ⟨tag, base, .home w⟩) (fc : Fc)
    (f : HomeWork → HomeWork) :
    ({ b with fc := fc } : Blocks).modHome f
      = { b with fc := fc, rc := { b.rc with op := some ⟨tag, base, .home (f w)⟩ } } :=
  Blocks.modHome_home (b := { b with fc := fc }) h f

theorem allHomed_iff (w : HomeWork) :
    (w.second && w.await == Eight.const false && w.xOutcome.isSome && w.yOutcome.isSome) = true
      ↔ allHomed w := by
  simp only [Bool.and_eq_true, beq_iff_eq, Option.isSome_iff_ne_none, allHomed, and_assoc]

theorem Blocks.homeCheck_waits {b : Blocks} (h : b.rc.op = some ⟨tag, base, .home w⟩)
    (hw : ¬ allHomed w) : b.homeCheck = b := by
  unfold Blocks.homeCheck
  rw [h]
  exact if_neg (mt (allHomed_iff w).mp hw)

theorem Blocks.homeCheck_ends {b : Blocks} (h : b.rc.op = some ⟨tag, base, .home w⟩)
    (hw : allHomed w) :
    b.homeCheck = b.endHome (if w.failures = OpFailures.none then .ok else .failed) w.failures := by
  unfold Blocks.homeCheck
  rw [h]
  exact if_pos ((allHomed_iff w).mpr hw)

/-! ## The end of HOME -/

/-- HOME over a base state other than HALTED ends in it (R88). -/
theorem Blocks.endHome_base {b : Blocks} {op : LongOp} (h : b.rc.op = some op)
    (hbase : op.base ≠ .halted) (r : OpResult) (f : OpFailures) :
    b.endHome r f = b.endOpBase r f := by
  unfold Blocks.endHome
  split
  · next heq =>
    cases h.symm.trans heq
    exact absurd rfl hbase
  · rfl

/-- HOME over HALTED, by whether it has found the shaft and both axes (R88). -/
theorem Blocks.endHome_halted {b : Blocks} (tag : Byte) (work : Work)
    (h : b.rc.op = some ⟨tag, .halted, work⟩) (r : OpResult) (f : OpFailures) :
    b.endHome r f =
      if b.sc.state = .stopped ∧ axesReady b then
        if b.rc.runExists then
          ({ b with fc.offPosition := true } : Blocks).endOp r f .paused (some .halt)
        else b.endOp r f .idle none
      else b.endOp r f .halted none := by
  have ready : b.fc.ready = true ↔ axesReady b := by simp [Fc.ready]
  unfold Blocks.endHome
  rw [h]
  exact if_congr (and_congr Iff.rfl ready) rfl rfl

theorem Blocks.endOp_rc_withFc (b : Blocks) (f : Fc) (op : LongOp) (h : b.rc.op = some op)
    (r : OpResult) (g : OpFailures) (rs : RunState) (c : Option PauseCause) :
    (({ b with fc := f } : Blocks).endOp r g rs c).rc =
      { b.rc with
        runState := rs, pauseCause := c, op := none
        opRecord := ⟨some op.work.kind, op.tag, some r, g, b.rc.opRecord.counter + 1⟩ } :=
  Blocks.endOp_rc { b with fc := f } op h r g rs c

theorem AxisOutcome.fails_eq (o : Option AxisOutcome) :
    AxisOutcome.fails o = decide (o ∈ [some .homeFail, some .driveFault]) := by
  rcases o with _ | _ | _ | _ <;> rfl

/-- The last outcome ends HOME, with its failures and by the table of R88. -/
theorem Blocks.homeCheck_ended {b x : Blocks}
    (hrc : x.rc = { b.rc with op := some ⟨tag, base, .home w⟩ }) (hfc : x.fc = b.fc)
    (hsc : x.sc = b.sc) (hw : allHomed w) : homeEnded b x.homeCheck tag base w := by
  have hop : x.rc.op = some ⟨tag, base, .home w⟩ := by rw [hrc]
  have counter : x.rc.opRecord.counter = b.rc.opRecord.counter := by rw [hrc]
  have exists' : x.rc.runExists = b.rc.runExists := by rw [hrc]
  have recovered : x.sc.state = .stopped ∧ axesReady x ↔ b.sc.state = .stopped ∧ axesReady b := by
    rw [axesReady, axesReady, hfc, hsc]
  unfold homeEnded
  intro fails f recovers
  have failures : w.failures = f := by
    show OpFailures.mk _ _ _ _ = OpFailures.mk _ _ _ _
    rw [AxisOutcome.fails_eq, AxisOutcome.fails_eq]
  rw [Blocks.homeCheck_ends hop hw, failures]
  by_cases hbase : base = .halted
  · subst hbase
    rw [Blocks.endHome_halted tag _ hop, exists']
    by_cases hrec : b.sc.state = .stopped ∧ axesReady b
    · rw [if_pos (recovered.mpr hrec)]
      by_cases hrun : b.rc.runExists = true
      · rw [if_pos hrun, x.endOp_rc_withFc _ _ hop, counter]
        refine ⟨rfl, rfl, fun h => absurd rfl h, fun _ _ => ⟨rfl, rfl, ?_⟩,
          fun _ hno => absurd (hno.symm.trans hrun) nofun, fun _ hno => absurd ⟨rfl, hrec⟩ hno⟩
        rw [Blocks.endOp_fc, hfc]
      · rw [if_neg hrun, Blocks.endOp_rc _ _ hop, counter]
        refine ⟨rfl, rfl, fun h => absurd rfl h, fun _ hyes => absurd hyes hrun,
          fun _ _ => ⟨rfl, rfl, ?_⟩, fun _ hno => absurd ⟨rfl, hrec⟩ hno⟩
        rw [Blocks.endOp_fc, hfc]
    · rw [if_neg (mt recovered.mp hrec), Blocks.endOp_rc _ _ hop, counter]
      refine ⟨rfl, rfl, fun h => absurd rfl h, fun hyes => absurd hyes.2 hrec,
        fun hyes => absurd hyes.2 hrec, fun _ _ => ⟨rfl, rfl, ?_⟩⟩
      rw [Blocks.endOp_fc, hfc]
  · rw [Blocks.endHome_base hop hbase, Blocks.endOpBase_rc _ _ hop, counter]
    refine ⟨rfl, rfl, fun _ => ⟨rfl, rfl, ?_⟩, fun hyes => absurd hyes.1 hbase,
      fun hyes => absurd hyes.1 hbase, fun hyes => absurd hyes hbase⟩
    rw [Blocks.endOpBase_fc, hfc]

/-- HOME has one more outcome: it goes on, or ends with the last (R87). -/
theorem Blocks.homeCheck_collected {b x : Blocks}
    (hrc : x.rc = { b.rc with op := some ⟨tag, base, .home w⟩ }) (hfc : x.fc = b.fc)
    (hsc : x.sc = b.sc) : homeCollected b x.homeCheck tag base w :=
  ⟨fun hw => by rw [Blocks.homeCheck_waits (by rw [hrc]) hw]; exact ⟨hrc, hfc⟩,
    Blocks.homeCheck_ended hrc hfc hsc⟩

@[simp] theorem Blocks.endHome_hu (b : Blocks) (r : OpResult) (f : OpFailures) :
    (b.endHome r f).hu = b.hu := by
  unfold Blocks.endHome; repeat' split
  all_goals simp

@[simp] theorem Blocks.endHome_sc (b : Blocks) (r : OpResult) (f : OpFailures) :
    (b.endHome r f).sc = b.sc := by
  unfold Blocks.endHome; repeat' split
  all_goals simp

@[simp] theorem Blocks.endHome_fl (b : Blocks) (r : OpResult) (f : OpFailures) :
    (b.endHome r f).fl = b.fl := by
  unfold Blocks.endHome; repeat' split
  all_goals simp

@[simp] theorem Blocks.endHome_pins (b : Blocks) (r : OpResult) (f : OpFailures) :
    (b.endHome r f).pins = b.pins := by
  unfold Blocks.endHome; repeat' split
  all_goals simp

@[simp] theorem Blocks.homeCheck_hu (b : Blocks) : b.homeCheck.hu = b.hu := by
  unfold Blocks.homeCheck; repeat' split
  all_goals simp

@[simp] theorem Blocks.homeCheck_sc (b : Blocks) : b.homeCheck.sc = b.sc := by
  unfold Blocks.homeCheck; repeat' split
  all_goals simp

@[simp] theorem Blocks.homeCheck_fl (b : Blocks) : b.homeCheck.fl = b.fl := by
  unfold Blocks.homeCheck; repeat' split
  all_goals simp

@[simp] theorem Blocks.homeCheck_pins (b : Blocks) : b.homeCheck.pins = b.pins := by
  unfold Blocks.homeCheck; repeat' split
  all_goals simp

/-! ## The stages of HOME -/

/-- An outcome an axis may have is kept (R40). -/
def HomeWork.noted (w : HomeWork) (ax : Axis) : Option AxisOutcome → HomeWork
  | none => w
  | some o => w.setAxis ax o

theorem Blocks.homingOffPosition_home {b : Blocks} (h : b.rc.op = some ⟨tag, base, .home w⟩) :
    b.homingOffPosition = decide (base ≠ .idle) := by
  unfold Blocks.homingOffPosition
  rw [h]
  cases base <;> rfl

/-- An axis of HOME begins to home, or has its outcome at once (R40, R41). -/
theorem Blocks.beginAxisHoming_home {b : Blocks} (ax : Axis)
    (h : b.rc.op = some ⟨tag, base, .home w⟩) :
    b.beginAxisHoming ax = { b with
      rc := { b.rc with op := some ⟨tag, base, .home
        (w.noted ax (outcomeBegun (b.fc.axis ax) (b.pins.homeSwitch ax)))⟩ }
      fc := { b.fc.setAxis ax (homingBegun (b.fc.axis ax) (b.pins.homeSwitch ax)
          (b.axisConfig ax).homeOffset) with
        offPosition := b.fc.offPosition
          || (decide ((b.fc.axis ax).state ≠ .fault) && decide (base ≠ .idle)) } } := by
  have flagged : (if b.homingOffPosition then { b with fc.offPosition := true } else b : Blocks)
      = { b with fc := { b.fc with offPosition := b.fc.offPosition || decide (base ≠ .idle) } } := by
    rw [Blocks.homingOffPosition_home h]
    cases decide (base ≠ .idle)
    · simp
    · simp
  unfold Blocks.beginAxisHoming
  by_cases hfault : (b.fc.axis ax).state = .fault
  · rw [if_pos hfault, Blocks.modHome_home h]
    simp only [outcomeBegun, homingBegun, hfault, if_true, Fc.setAxis_axis, HomeWork.noted, ne_eq,
      not_true_eq_false, decide_false, Bool.false_and, Bool.or_false]
  · rw [if_neg hfault, flagged]
    cases hswitch : b.pins.homeSwitch ax
    · simp only [hswitch, outcomeBegun, homingBegun, hfault, if_false, HomeWork.noted, ne_eq,
        not_false_eq_true, decide_true, Bool.true_and, Bool.false_eq_true]
      rw [← h]
      cases ax <;> rfl
    · dsimp only
      rw [if_pos hswitch, Blocks.modHome_home_withFc h]
      simp only [outcomeBegun, homingBegun, hfault, if_false, if_true, HomeWork.noted, ne_eq,
        not_false_eq_true, decide_true, Bool.true_and]
      cases ax <;> rfl

theorem Blocks.homesSelector_iff (b : Blocks) (h : HeadId) :
    b.homesSelector h = true ↔ homedByHome b h := by
  simp [Blocks.homesSelector, Blocks.configured, homedByHome]

/-- The second stage of HOME leaves an axis to home: HOME goes on (R87). -/
structure SecondBegun (b t : Blocks) (tag : Byte) (base : BaseState) (await : Eight Bool) : Prop where
  rc : t.rc = { b.rc with op := some ⟨tag, base, .home ⟨true, await,
    outcomeBegun b.fc.x b.pins.homeSwitchX, outcomeBegun b.fc.y b.pins.homeSwitchY,
    Eight.const false⟩⟩ }
  x : t.fc.x = homingBegun b.fc.x b.pins.homeSwitchX b.cf.config.x.homeOffset
  y : t.fc.y = homingBegun b.fc.y b.pins.homeSwitchY b.cf.config.y.homeOffset
  offPosition : t.fc.offPosition = (b.fc.offPosition || decide (base ≠ .idle))
  sc : t.sc = b.sc
  homed : ∀ h : HeadId, homedByHome b h →
    (t.hu.get h).selector = (if b.pins.selIndex.get h then .atNeedle 1 else .homing)
      ∧ await.get h = !b.pins.selIndex.get h
  left : ∀ h : HeadId, ¬ homedByHome b h → t.hu.get h = b.hu.get h ∧ await.get h = false

/-- The selectors HOME waits for (R87, R101). -/
def Blocks.awaited (b : Blocks) : Eight Bool :=
  Eight.tabulate fun h => b.homesSelector h && !b.pins.selIndex.get h

/-- The heads as their selectors begin to home (R87, R101). -/
def Blocks.selectorsBegun (b : Blocks) : Eight Head :=
  Eight.tabulate fun h =>
    if b.homesSelector h then
      (b.hu.get h).beginHoming (b.pins.selIndex.get h) b.cf.settings.selectorTimeout
    else b.hu.get h

/-- HOME at the beginning of its second stage, its axes still to come (R87). -/
def Blocks.secondOpened (b : Blocks) (tag : Byte) (base : BaseState) : Blocks :=
  { b with
    hu := b.selectorsBegun
    rc.op := some ⟨tag, base, .home ⟨true, b.awaited, none, none, Eight.const false⟩⟩ }

theorem Blocks.homeSecond_opened {b : Blocks}
    (h : b.rc.op = some ⟨tag, base, .home HomeWork.begun⟩) :
    b.homeSecond = (((b.secondOpened tag base).beginAxisHoming .x).beginAxisHoming .y).homeCheck := by
  unfold Blocks.homeSecond
  dsimp only
  rw [Blocks.modHome_home h]
  simp only [Eight.get_tabulate]
  rfl

theorem HomeWork.noted_both (await failed : Eight Bool) (ox oy : Option AxisOutcome) :
    ((⟨true, await, none, none, failed⟩ : HomeWork).noted .x ox).noted .y oy
      = ⟨true, await, ox, oy, failed⟩ := by
  cases ox <;> cases oy <;> rfl

/-- HOME with both its axes begun (R40, R41). -/
def Blocks.axesBegun (b : Blocks) (tag : Byte) (base : BaseState) : Blocks :=
  { b.secondOpened tag base with
    rc := { b.rc with op := some ⟨tag, base, .home ⟨true, b.awaited,
      outcomeBegun b.fc.x b.pins.homeSwitchX, outcomeBegun b.fc.y b.pins.homeSwitchY,
      Eight.const false⟩⟩ }
    fc := { b.fc with
      x := homingBegun b.fc.x b.pins.homeSwitchX b.cf.config.x.homeOffset
      y := homingBegun b.fc.y b.pins.homeSwitchY b.cf.config.y.homeOffset
      offPosition := b.fc.offPosition
        || (decide (b.fc.x.state ≠ .fault) && decide (base ≠ .idle))
        || (decide (b.fc.y.state ≠ .fault) && decide (base ≠ .idle)) } }

theorem Blocks.beginAxisHoming_both (b : Blocks) (tag : Byte) (base : BaseState) :
    ((b.secondOpened tag base).beginAxisHoming .x).beginAxisHoming .y = b.axesBegun tag base := by
  have hx := Blocks.beginAxisHoming_home (b := b.secondOpened tag base) .x rfl
  have hy := Blocks.beginAxisHoming_home (b := (b.secondOpened tag base).beginAxisHoming .x) .y
    (by rw [hx])
  rw [hy, hx]
  unfold Blocks.axesBegun
  rw [← HomeWork.noted_both b.awaited (Eight.const false)
    (outcomeBegun b.fc.x b.pins.homeSwitchX) (outcomeBegun b.fc.y b.pins.homeSwitchY)]
  rfl

/-- With one axis at least left to home, the second stage goes on (R87). -/
theorem Blocks.homeSecond_goesOn {b : Blocks}
    (h : b.rc.op = some ⟨tag, base, .home HomeWork.begun⟩)
    (hleft : (b.pins.homeSwitchX = false ∧ b.fc.x.state ≠ .fault)
      ∨ (b.pins.homeSwitchY = false ∧ b.fc.y.state ≠ .fault)) :
    b.homeSecond = b.axesBegun tag base := by
  rw [Blocks.homeSecond_opened h, Blocks.beginAxisHoming_both]
  refine Blocks.homeCheck_waits rfl ?_
  rintro ⟨-, -, hx, hy⟩
  rcases hleft with ⟨hs, hf⟩ | ⟨hs, hf⟩
  · exact hx (by simp [outcomeBegun, hs, hf])
  · exact hy (by simp [outcomeBegun, hs, hf])

theorem Blocks.homeSecond_begun {b : Blocks}
    (h : b.rc.op = some ⟨tag, base, .home HomeWork.begun⟩)
    (hleft : (b.pins.homeSwitchX = false ∧ b.fc.x.state ≠ .fault)
      ∨ (b.pins.homeSwitchY = false ∧ b.fc.y.state ≠ .fault)) :
    SecondBegun b b.homeSecond tag base b.awaited := by
  rw [Blocks.homeSecond_goesOn h hleft]
  have flag : (b.axesBegun tag base).fc.offPosition = (b.fc.offPosition || decide (base ≠ .idle)) := by
    have healthy : b.fc.x.state ≠ .fault ∨ b.fc.y.state ≠ .fault := hleft.imp And.right And.right
    show (b.fc.offPosition || _ || _) = _
    rcases healthy with hf | hf <;> simp only [hf, ne_eq, not_false_eq_true, decide_true] <;>
      cases b.fc.offPosition <;> cases decide (¬base = .idle) <;> simp
  have head (g : HeadId) : (b.axesBegun tag base).hu.get g = if b.homesSelector g then
      (b.hu.get g).beginHoming (b.pins.selIndex.get g) b.cf.settings.selectorTimeout
      else b.hu.get g := Eight.get_tabulate _ g
  have waits (g : HeadId) : b.awaited.get g = (b.homesSelector g && !b.pins.selIndex.get g) :=
    Eight.get_tabulate _ g
  refine ⟨rfl, rfl, rfl, flag, rfl, fun g hg => ?_, fun g hg => ?_⟩
  · rw [head, waits, (b.homesSelector_iff g).mpr hg]
    cases b.pins.selIndex.get g <;> exact ⟨rfl, rfl⟩
  · rw [head, waits, Bool.eq_false_iff.mpr (mt (b.homesSelector_iff g).mp hg)]
    exact ⟨rfl, rfl⟩

/-- HOME at its owner: refused with ESTOP first, and taken at rest (R86). -/
theorem cmdHome_eq (tag : Byte) (b : Blocks) (hlock : b.cf.lock = true) :
    cmdHome tag [] b = if b.fl.estop = true then refused b 0x0C#8
      else if runIsOf b [.idle, .paused, .ended, .halted] then
        okWith (b.beginOp tag (.home HomeWork.begun) .homing).homeFirst []
      else refused b 0x04#8 := by
  have length : lengthIs [] 0 = (true, .length) := rfl
  unfold cmdHome
  rw [Blocks.isConfigured, length, Blocks.runIs_eq, Blocks.judge_cons, if_pos hlock,
    Blocks.judge_cons, if_pos rfl, Blocks.judge_cons, Blocks.judge_cons, Blocks.judge_nil]
  cases b.fl.estop
  · simp [Code.byte]
  · simp [Code.byte]

theorem Blocks.beginHome_rc (b : Blocks) (tag : Byte) (work : Work) :
    (b.beginOp tag work .homing).rc =
      { b.rc with op := some ⟨tag, baseOf b, work⟩, runState := .homing, pauseCause := none } := by
  rw [Blocks.beginOp, Blocks.goto_rc, b.baseState_eq]

theorem baseOf_ne_idle (b : Blocks) : decide (baseOf b ≠ .idle) = decide (b.rc.runState ≠ .idle) := by
  unfold baseOf
  cases b.rc.runState <;> simp

end Sys2Proof.Machine

namespace Sys2Proof.Proofs

open Sys2Proof.Machine Sys2Proof.Claims

/-- Settles O34: HOME refused, with its find begun, and with its second stage begun. -/
theorem homeBeginsWithTheShaft : Obligations.HomeBeginsWithTheShaft := by
  unfold Obligations.HomeBeginsWithTheShaft
  intro tag s hfree hlock
  have answer := cmdHome_eq tag s.blk hlock
  have began := s.blk.beginHome_rc tag (.home HomeWork.begun)
  refine ⟨fun hestop => ?_, fun hestop hrun => ?_⟩
  · rw [exec_home _ _ _ hfree]
    refine next_answered ?_
    rw [answer, if_pos hestop]
  rw [if_neg (by rw [hestop]; nofun), if_pos hrun] at answer
  refine ⟨fun hoff => ?_, fun hstopped hleft => ?_⟩
  · have first : (s.blk.beginOp tag (.home HomeWork.begun) .homing).homeFirst =
        { s.blk.beginOp tag (.home HomeWork.begun) .homing with
          sc := (s.blk.beginOp tag (.home HomeWork.begun) .homing).sc.beginFind
            (s.blk.beginOp tag (.home HomeWork.begun) .homing).cf.settings.stallTime } := by
      unfold Blocks.homeFirst
      exact if_pos ((congrArg Sc.state (Blocks.beginOp_sc ..)).trans hoff)
    rw [first] at answer
    rw [exec_home _ _ _ hfree, answer]
    refine ⟨_, rfl, rfl, ?_, ?_, ?_, ?_, ?_, ?_, ?_, ?_⟩
    · exact congrArg Rc.runState began
    · exact congrArg Rc.pauseCause began
    · exact congrArg Rc.op began
    · dsimp only [okWith]
      rw [Blocks.beginOp_sc, Blocks.beginOp_cf]
      rfl
    · exact Blocks.beginOp_hu ..
    · exact Blocks.beginOp_fc ..
    · exact Blocks.beginOp_ds ..
    · exact Blocks.beginOp_fl ..
  · have first : (s.blk.beginOp tag (.home HomeWork.begun) .homing).homeFirst =
        (s.blk.beginOp tag (.home HomeWork.begun) .homing).homeSecond := by
      unfold Blocks.homeFirst
      rw [Blocks.beginOp_sc, if_neg (by rw [hstopped]; nofun)]
    obtain ⟨rc, x, y, offPosition, sc, homed, left⟩ := Blocks.homeSecond_begun
      (b := s.blk.beginOp tag (.home HomeWork.begun) .homing) (tag := tag) (base := baseOf s.blk)
      (by rw [began]) (by simpa using hleft)
    simp only [Blocks.beginOp_fc, Blocks.beginOp_pins, Blocks.beginOp_cf, Blocks.beginOp_sc,
      Blocks.beginOp_hu] at rc x y offPosition sc homed left
    rw [exec_home _ _ _ hfree, answer, first]
    refine ⟨_, (s.blk.beginOp tag (.home HomeWork.begun) .homing).awaited, rfl, rfl, ?_, ?_, ?_, x,
      y, sc, ?_, fun h => ⟨fun hh => ?_, fun hh => ?_⟩⟩
    · exact (congrArg Rc.runState rc).trans (congrArg Rc.runState began)
    · exact (congrArg Rc.pauseCause rc).trans (congrArg Rc.pauseCause began)
    · exact congrArg Rc.op rc
    · exact offPosition.trans (by rw [baseOf_ne_idle])
    · exact homed h (by simpa [homedByHome] using hh)
    · exact left h (by simpa [homedByHome] using hh)

end Sys2Proof.Proofs
end

section
/-!
SUPPORT. The failures of a homing, counted by HOME (R48, R152), and the inputs of the axes (R41, R42).
-/

namespace Sys2Proof.Machine

open Sys2Proof.Claims

/-! ## HOME_FAIL -/

/-- HOME_FAIL writes its entry, raises FAULT, and is counted by the operation that homes (R150, R152). -/
theorem Blocks.report_homeFail {b : Blocks} (p : Part) (hidle : b.fl.waiting = []) :
    b.report [.homeFail p] = ({ b with
        fl := b.fl.write (entryOf b .homeFail .failed (some p) (some b.ds.sew))
        ru := b.ru.raise .fault } : Blocks).countFailure (.homeFail p) := by
  have entry : b.entry (.homeFail p) = entryOf b .homeFail .failed (some p) (some b.ds.sew) := rfl
  rw [Blocks.report_one hidle, Blocks.take_failed _ _ rfl, Blocks.writeEntry_headless _ _ rfl, entry]
  rfl

theorem Blocks.countFailure_shaft (b : Blocks) : b.countFailure (.homeFail .shaft) = b := by
  unfold Blocks.countFailure
  split <;> rfl

theorem Blocks.countFailure_axis {b : Blocks} {tag : Byte} {base : BaseState} {w : HomeWork}
    (ax : Axis) (h : b.rc.op = some ⟨tag, base, .home w⟩) :
    b.countFailure (.homeFail (partOf ax)) =
      { b with rc.op := some ⟨tag, base, .home (w.setAxis ax .homeFail)⟩ } := by
  unfold Blocks.countFailure
  rw [h]
  cases ax <;> simp only [partOf, Blocks.setWork, h, Option.map_some] <;> rfl

/-- The end of HOME with the shaft lost: its base state, whatever that is (R87, R88). -/
theorem Blocks.endHome_lost {b : Blocks} {op : LongOp} (h : b.rc.op = some op)
    (hsc : b.sc.state = .off) (r : OpResult) (f : OpFailures) :
    (b.endHome r f).rc = { b.rc with
        runState := op.base.target.1, pauseCause := op.base.target.2, op := none
        opRecord := ⟨some op.work.kind, op.tag, some r, f, b.rc.opRecord.counter + 1⟩ }
      ∧ (b.endHome r f).fc = b.fc := by
  obtain ⟨tag, base, work⟩ := op
  by_cases hbase : base = .halted
  · subst hbase
    rw [Blocks.endHome_halted tag work h, if_neg (by rw [hsc]; exact fun ⟨hs, _⟩ => nomatch hs),
      Blocks.endOp_rc _ _ h, Blocks.endOp_fc]
    exact ⟨rfl, rfl⟩
  · rw [Blocks.endHome_base h hbase, Blocks.endOpBase_rc _ _ h, Blocks.endOpBase_fc]
    exact ⟨rfl, rfl⟩

/-- What a failed find leaves of HOME (R48, R87). -/
structure FindFailed (b t : Blocks) (tag : Byte) (base : BaseState) : Prop where
  sc : t.sc = shaftOff b.sc
  rc : t.rc = { b.rc with
    runState := base.target.1, pauseCause := base.target.2, op := none
    opRecord := ⟨some .home, tag, some .failed, ⟨true, false, false, Eight.const false⟩,
      b.rc.opRecord.counter + 1⟩ }
  fl : t.fl = b.fl.write (entryOf b .homeFail .failed (some .shaft) (some b.ds.sew))
  hu : t.hu = b.hu
  fc : t.fc = b.fc
  ds : t.ds = b.ds

theorem Blocks.findFailed_ends {b : Blocks} {tag : Byte} {base : BaseState} {w : HomeWork}
    (hidle : b.fl.waiting = []) (h : b.rc.op = some ⟨tag, base, .home w⟩) :
    FindFailed b b.findFailed tag base := by
  have reported : ({ b with sc := b.sc.turnOff } : Blocks).report [.homeFail .shaft] = { b with
      sc := b.sc.turnOff
      fl := b.fl.write (entryOf b .homeFail .failed (some .shaft) (some b.ds.sew))
      ru := b.ru.raise .fault } := by
    rw [Blocks.report_homeFail (b := { b with sc := b.sc.turnOff }) .shaft hidle,
      Blocks.countFailure_shaft]
    rfl
  obtain ⟨rc, fc⟩ := Blocks.endHome_lost (b := { b with
      sc := b.sc.turnOff
      fl := b.fl.write (entryOf b .homeFail .failed (some .shaft) (some b.ds.sew))
      ru := b.ru.raise .fault }) h rfl .failed { OpFailures.none with shaft := true }
  unfold Blocks.findFailed
  rw [reported]
  refine ⟨?_, rc, ?_, ?_, fc, ?_⟩
  · exact Blocks.endHome_sc ..
  · exact Blocks.endHome_fl ..
  · exact Blocks.endHome_hu ..
  · exact Blocks.endHome_ds ..

/-- An axis whose homing distance is moved: its outcome is HOME_FAIL, and HOME collects it (R41). -/
theorem Blocks.homingExhausted_counted {b : Blocks} {tag : Byte} {base : BaseState} {w : HomeWork}
    (ax : Axis) (hidle : b.fl.waiting = []) (hax : (b.fc.axis ax).state = .homing)
    (h : b.rc.op = some ⟨tag, base, .home w⟩) :
    b.homingExhausted ax = ({ b with
        fc := b.fc.setAxis ax ⟨.unhomed, none, none, 0⟩
        fl := b.fl.write (entryOf { b with fc := b.fc.setAxis ax ⟨.unhomed, none, none, 0⟩ }
          .homeFail .failed (some (partOf ax)) (some b.ds.sew))
        ru := b.ru.raise .fault
        rc.op := some ⟨tag, base, .home (w.setAxis ax .homeFail)⟩ } : Blocks).homeCheck := by
  have reported := Blocks.report_homeFail
    (b := { b with fc := b.fc.setAxis ax ⟨.unhomed, none, none, 0⟩ }) (partOf ax) hidle
  unfold Blocks.homingExhausted
  rw [if_pos hax]
  exact congrArg Blocks.homeCheck
    (reported.trans (Blocks.countFailure_axis (tag := tag) (base := base) (w := w) ax h))

/-! ## The inputs of an axis -/

/-- AXIS_DRIVE halts the part (R42, R153). -/
theorem haltsWith_axisDrive {i : Instr} {s : State} {b : Blocks} (ax : Axis)
    (hexec : exec i s = .next { s with blk := b.report [.axisDrive ax] })
    (hidle : b.fl.waiting = []) :
    haltsWith i s b (entryOf b .axisDrive .halt (some (partOf ax)) (some b.ds.sew)) :=
  haltsWith_of_report hexec hidle rfl rfl (by cases ax <;> rfl)

@[simp] theorem Blocks.homingFaulted_fc (b : Blocks) (ax : Axis) : (b.homingFaulted ax).fc = b.fc := by
  unfold Blocks.homingFaulted Blocks.modHome
  split_ifs
  · split <;> rfl
  · rfl

@[simp] theorem Blocks.homingFaulted_fl (b : Blocks) (ax : Axis) : (b.homingFaulted ax).fl = b.fl := by
  unfold Blocks.homingFaulted Blocks.modHome
  split_ifs
  · split <;> rfl
  · rfl

/-- A halt drops HOME whatever outcomes it has collected (R89). -/
theorem halted_of_homeWork {b t : Blocks} {tag : Byte} {base : BaseState} {w w' : HomeWork}
    (h : b.rc.op = some ⟨tag, base, .home w⟩)
    (ht : halted { b with rc.op := some ⟨tag, base, .home w'⟩ } t) : halted b t := by
  have sews (u : HomeWork) : (∀ (op : LongOp) (v : PatchWork),
      (⟨tag, base, .home u⟩ : LongOp) = op → ¬ op.work = .patch v) ↔ True :=
    iff_true_intro (by rintro _ v rfl; nofun)
  simpa [halted, h, Work.kind, sews] using ht

/-- The drive of an axis that homes fails: the halt is that of the part as it stood (R41, R153). -/
theorem haltsWith_homingFaulted {i : Instr} {s : State} {b : Blocks} (ax : Axis) (fc : Fc)
    (n : Option Nat)
    (h : haltsWith i s { b.homingFaulted ax with fc := fc }
      (entryOf { b.homingFaulted ax with fc := fc } .axisDrive .halt (some (partOf ax)) n)) :
    haltsWith i s { b with fc := fc }
      (entryOf { b with fc := fc } .axisDrive .halt (some (partOf ax)) n) := by
  by_cases hhome : (b.fc.axis ax).state = .homing ∧ ∃ tag base w, b.rc.op = some ⟨tag, base, .home w⟩
  · obtain ⟨hax, tag, base, w, hop⟩ := hhome
    have faulted : b.homingFaulted ax =
        { b with rc.op := some ⟨tag, base, .home (w.setAxis ax .driveFault)⟩ } := by
      rw [Blocks.homingFaulted, if_pos hax, Blocks.modHome_home hop]
    rw [faulted] at h
    obtain ⟨t, hexec, hpl, hpending, hhalt, hfl, hru⟩ := h
    exact ⟨t, hexec, hpl, hpending, halted_of_homeWork (b := { b with fc := fc }) hop hhalt, hfl, hru⟩
  · have same : b.homingFaulted ax = b := by
      unfold Blocks.homingFaulted Blocks.modHome
      split_ifs with hax
      · split
        · next hop => exact absurd ⟨hax, _, _, _, hop⟩ hhome
        · rfl
      · rfl
    rwa [same] at h

/-- A homing axis meets its home switch (R41). -/
theorem Blocks.homeSeen_homing {b : Blocks} {tag : Byte} {base : BaseState} {w : HomeWork} (ax : Axis)
    (hax : (b.fc.axis ax).state = .homing) (h : b.rc.op = some ⟨tag, base, .home w⟩) :
    b.homeSeen ax = ({ b with
        fc := b.fc.setAxis ax ⟨.ready, some (b.axisConfig ax).homeOffset, none, 0⟩
        rc.op := some ⟨tag, base, .home (w.setAxis ax .homed)⟩ } : Blocks).homeCheck := by
  unfold Blocks.homeSeen
  rw [hax]
  exact congrArg Blocks.homeCheck (Blocks.modHome_home_withFc h _ _)

theorem Blocks.homeSwitch_asserted (b : Blocks) (ax : Axis) (hlock : b.cf.lock = true) :
    b.homeSwitch ax true =
      ({ b with pins := b.pins.setHomeSwitch ax true } : Blocks).homeSeen ax := by
  unfold Blocks.homeSwitch
  exact if_pos hlock

/-- HOME with both axes homed and no failure ends OK in its base state (R87, R88). -/
theorem homeEnded_ok {b t : Blocks} {tag : Byte} {base : BaseState} {w : HomeWork}
    (h : homeEnded b t tag base w) (hx : w.xOutcome = some .homed) (hy : w.yOutcome = some .homed)
    (hfailed : w.failed = Eight.const false) (hbase : base ≠ .halted) :
    t.fc = b.fc ∧ t.rc.runState = base.target.1 ∧ t.rc.pauseCause = base.target.2 ∧ t.rc.op = none
      ∧ t.rc.opRecord = ⟨some .home, tag, some .ok, OpFailures.none, b.rc.opRecord.counter + 1⟩ := by
  obtain ⟨hop, hrec, hends, -⟩ := h
  obtain ⟨hrs, hcause, hfc⟩ := hends hbase
  rw [hx, hy, hfailed] at hrec
  exact ⟨hfc, hrs, hcause, hop, hrec⟩

end Sys2Proof.Machine

namespace Sys2Proof.Proofs

open Sys2Proof.Machine Sys2Proof.Claims

/-- Settles O51: the failures of the find and of an axis, as HOME counts them. -/
theorem homingFailuresAreCounted : Obligations.HomingFailuresAreCounted := by
  unfold Obligations.HomingFailuresAreCounted
  intro s hidle
  refine ⟨fun tag base w hfinding hangle hop => ?_, fun hother => ?_,
    fun ax tag base w hax hop hawait => ?_, fun ax tag base w hax hop => ?_, fun ax hax => ?_⟩
  · have last := s.blk.sc.atLastCount_iff.mpr hangle
    have exhausted : s.blk.findExhausted = s.blk.findFailed := by
      simp [Blocks.findExhausted, hfinding, last]
    have counted : s.blk.encoderCount = s.blk.findFailed := by
      simp [Blocks.encoderCount, hfinding, last]
    obtain ⟨sc, rc, fl, hu, fc, ds⟩ := Blocks.findFailed_ends hidle hop
    refine ⟨{ s with blk := s.blk.findFailed }, next_blocks exhausted, next_blocks counted, sc,
      ?_, ?_, ?_, ?_, fl, hu, fc, ds⟩ <;> rw [rc]
  · have rests : s.blk.findExhausted = s.blk := by
      refine if_neg fun h => ?_
      rw [Bool.and_eq_true, beq_iff_eq, s.blk.sc.atLastCount_iff] at h
      exact hother.elim (· h.1) (· h.2)
    exact next_blocks rests
  · intro b
    have goesOn := (Blocks.homingExhausted_counted ax hidle hax hop).trans
      (Blocks.homeCheck_waits rfl fun hw => by
        obtain ⟨-, hnone, -⟩ := hw
        cases ax <;> exact hawait hnone)
    exact ⟨_, next_blocks goesOn, rfl, rfl, rfl, rfl, rfl, rfl⟩
  · intro b
    refine ⟨_, next_blocks (Blocks.homingExhausted_counted ax hidle hax hop), ?_, ?_, ?_,
      Blocks.homeCheck_collected rfl rfl rfl⟩
    · exact Blocks.homeCheck_hu _
    · exact Blocks.homeCheck_sc _
    · exact Blocks.homeCheck_fl _
  · exact next_blocks (if_neg hax)

/-- Settles O58: the home switch and the drive-fault input of an axis, by the axis they find. -/
theorem axisInputsAreTaken : Obligations.AxisInputsAreTaken := by
  unfold Obligations.AxisInputsAreTaken
  intro ax s onSwitch offset
  refine ⟨next_blocks rfl, fun hquiet => ?_, fun hlock haxis hpos hidle => ?_,
    fun tag base w hlock haxis hop => ?_, fun hquiet => ?_, fun hlock haxis hidle => ?_, ?_⟩
  · by_cases hlock : s.blk.cf.lock = true
    · have seen := s.blk.homeSwitch_asserted ax hlock
      have nothing : onSwitch.homeSeen ax = onSwitch := by
        have quiet := hquiet.resolve_left (by rw [hlock]; nofun)
        simp only [List.mem_cons, List.not_mem_nil, or_false] at quiet
        unfold Blocks.homeSeen
        rcases quiet with (h | h) | ⟨h | h, hpos⟩ <;>
          rw [show (onSwitch.fc.axis ax).state = _ from h]
        · exact if_pos hpos
        · exact if_pos hpos
      exact next_blocks (seen.trans nothing)
    · exact next_blocks (if_neg hlock)
  · have seen : onSwitch.homeSeen ax = onSwitch.report [.axisDrive ax] := by
      simp only [List.mem_cons, List.not_mem_nil, or_false] at haxis
      unfold Blocks.homeSeen
      rcases haxis with h | h <;> rw [show (onSwitch.fc.axis ax).state = _ from h] <;>
        exact if_neg hpos
    exact haltsWith_axisDrive ax
      (next_blocks ((s.blk.homeSwitch_asserted ax hlock).trans seen)) hidle
  · have seen := (s.blk.homeSwitch_asserted ax hlock).trans
      (Blocks.homeSeen_homing (b := onSwitch) ax haxis hop)
    refine ⟨fun hawait => ?_, fun x y hsecond hawait hfailed hx hy hxHomed hyHomed hbase => ?_, ?_⟩
    · exact next_blocks (seen.trans (Blocks.homeCheck_waits rfl fun hw => by
        obtain ⟨-, hnone, -⟩ := hw
        cases ax <;> exact hawait hnone))
    · subst hxHomed hyHomed
      have done : allHomed (w.setAxis ax .homed) :=
        ⟨by cases ax <;> exact hsecond, by cases ax <;> exact hawait, by rw [hx]; nofun,
          by rw [hy]; nofun⟩
      have ended := Blocks.homeCheck_ended (tag := tag) (base := base)
        (b := { onSwitch with fc := s.blk.fc.setAxis ax ⟨.ready, some offset, none, 0⟩ })
        (x := { onSwitch with
          fc := s.blk.fc.setAxis ax ⟨.ready, some offset, none, 0⟩
          rc.op := some ⟨tag, base, .home (w.setAxis ax .homed)⟩ }) rfl rfl rfl done
      exact ⟨_, next_blocks seen,
        homeEnded_ok ended hx hy (by cases ax <;> exact hfailed) hbase⟩
    · refine ⟨_, next_blocks seen, ?_, ?_, ?_, Blocks.homeCheck_collected rfl rfl rfl⟩
      · exact Blocks.homeCheck_hu _
      · exact Blocks.homeCheck_fl _
      · exact Blocks.homeCheck_pins _
  · refine next_blocks (if_neg ?_)
    rw [Bool.and_eq_true, bne_iff_ne]
    rintro ⟨hlock, haxis⟩
    exact hquiet.elim (fun h => nomatch h.symm.trans hlock) haxis
  · intro b
    have faulted : s.blk.driveFaultOn ax = ({ ({ s.blk with
          pins := s.blk.pins.setDriveFault ax true } : Blocks).homingFaulted ax with
        fc := b.fc } : Blocks).report [.axisDrive ax] := by
      have taken : (s.blk.cf.lock && (s.blk.fc.axis ax).state != .fault) = true := by
        rw [Bool.and_eq_true, bne_iff_ne]
        exact ⟨hlock, haxis⟩
      unfold Blocks.driveFaultOn
      dsimp only
      rw [if_pos taken, Blocks.homingFaulted_fc]
      rfl
    have waiting : (({ s.blk with pins := s.blk.pins.setDriveFault ax true } :
        Blocks).homingFaulted ax).fl.waiting = [] := by
      rw [Blocks.homingFaulted_fl]
      exact hidle
    have sews : (({ s.blk with pins := s.blk.pins.setDriveFault ax true } :
        Blocks).homingFaulted ax).ds.sew = s.blk.ds.sew := by
      rw [Blocks.homingFaulted_ds]
    have halts := haltsWith_axisDrive (i := .driveFaultAssert ax) (s := s) ax (next_blocks faulted)
      waiting
    rw [show (({ ({ s.blk with pins := s.blk.pins.setDriveFault ax true } : Blocks).homingFaulted ax
      with fc := b.fc } : Blocks).ds.sew = s.blk.ds.sew) from sews] at halts
    exact haltsWith_homingFaulted (b := { s.blk with pins := s.blk.pins.setDriveFault ax true }) ax
      b.fc (some s.blk.ds.sew) halts
  · have released : s.blk.driveFaultOff ax = { s.blk with
        pins := s.blk.pins.setDriveFault ax false
        fc := if (s.blk.fc.axis ax).state = .fault then
          s.blk.fc.setAxis ax ⟨.unhomed, none, none, 0⟩ else s.blk.fc } := by
      unfold Blocks.driveFaultOff
      dsimp only
      split_ifs <;> rfl
    exact next_blocks released

end Sys2Proof.Proofs
end

section
/-!
SUPPORT. The drive-fault inputs found asserted (R42), CFG (R161, R162), and the controller reset
(R166, R173, R178).
-/

namespace Sys2Proof.Machine

open Sys2Proof.Claims

/-! ## A halt with no ranges and every head at rest -/

theorem shrinkList_nil (w : PatchWork) (start : Nat) : shrinkList w start [] = [] := rfl

theorem Eight.update_const {α : Type} (a : α) (i : Id8) (f : α → α) (h : f a = a) :
    (Eight.const a).update i f = Eight.const a := by
  refine Eight.ext_get fun j => ?_
  rw [Eight.get_update, Eight.get_const]
  split_ifs
  · rw [h]
  · rfl

/-- Without ranges the halt leaves the ranges and the store (R140, R147). -/
theorem Blocks.halt_noRanges (b : Blocks) (hrt : b.rt = Eight.const []) :
    b.halt.rt = b.rt ∧ b.halt.ds = b.ds := by
  by_cases hpatch : ∃ tag base w, b.rc.op = some ⟨tag, base, .patch w⟩
  · obtain ⟨tag, base, w, hop⟩ := hpatch
    have still : b.drivesOff.dropped.rt.update w.head (shrinkList w w.p) = b.rt := by
      show b.rt.update _ _ = _
      rw [hrt, Eight.update_const _ _ _ (shrinkList_nil w w.p)]
    have ranges := b.drivesOff.dropped.setRanges_still b.rt rfl
    rw [b.halt_eq, b.drivesOff.haltRun_patch tag base w hop, Blocks.endOp_rt, Blocks.endOp_ds]
    unfold Blocks.patchSettle
    dsimp only
    rw [still, ranges]
    exact ⟨rfl, rfl⟩
  · obtain ⟨hr, hd, -, -⟩ := b.halt_outside fun op w hop hw =>
      hpatch ⟨op.tag, op.base, w, by rw [← hw]; exact hop⟩
    exact ⟨hr, hd⟩

/-- A head with nothing driven and its rest flag clear (R92). -/
def Head.atRest (u : Head) : Prop := u.halt = u ∧ u.rest = false

/-- The halt leaves heads that are at rest (R103). -/
theorem Blocks.halt_heads (b : Blocks) (h : ∀ g : HeadId, (b.hu.get g).atRest) :
    b.halt.hu = b.hu := by
  refine Eight.ext_get fun g => ?_
  obtain ⟨halts, rests⟩ := h g
  have rest : (b.halt.hu.get g).rest = false := by
    by_cases hpatch : ∃ tag base w, b.rc.op = some ⟨tag, base, .patch w⟩
    · obtain ⟨tag, base, w, hop⟩ := hpatch
      exact (b.halt_inside tag base w hop).2.1 g
    · obtain ⟨-, -, -, hrest⟩ := b.halt_outside fun op w hop hw =>
        hpatch ⟨op.tag, op.base, w, by rw [← hw]; exact hop⟩
      rw [hrest g, rests]
  rw [b.halt_head g, halts, rest, ← rests]

theorem freshHeads_atRest (n : Nat) (g : HeadId) : ((freshHeads n).get g).atRest := by
  unfold freshHeads
  rw [Eight.get_tabulate]
  split_ifs <;> exact ⟨rfl, rfl⟩

/-! ## AXIS_DRIVE -/

/-- What one AXIS_DRIVE leaves, with no ranges and every head at rest (R42, R153). -/
structure Driven (ax : Axis) (b t : Blocks) : Prop where
  cf : t.cf = b.cf
  tp : t.tp = b.tp
  rt : t.rt = b.rt
  ds : t.ds = b.ds
  hu : t.hu = b.hu
  runState : t.rc.runState = .halted
  sc : t.sc.state = .off
  x : t.fc.x = b.fc.x.halt
  y : t.fc.y = b.fc.y.halt
  fl : t.fl = b.fl.write (entryOf b .axisDrive .halt (some (partOf ax)) (some b.ds.sew))

theorem Blocks.take_axisDrive {b : Blocks} (ax : Axis) (hrt : b.rt = Eight.const [])
    (hhu : ∀ g : HeadId, (b.hu.get g).atRest) : Driven ax b (b.take (.axisDrive ax)) := by
  have headless : (Condition.axisDrive ax).head = none := rfl
  have entry : b.entry (.axisDrive ax) =
      entryOf b .axisDrive .halt (some (partOf ax)) (some b.ds.sew) := by cases ax <;> rfl
  rw [b.take_halt _ rfl, b.writeEntry_headless _ headless, entry]
  obtain ⟨rt, ds⟩ := (({ b with fl := b.fl.write (entryOf b .axisDrive .halt (some (partOf ax))
    (some b.ds.sew)) } : Blocks).raise .fault).halt_noRanges hrt
  have hu := (({ b with fl := b.fl.write (entryOf b .axisDrive .halt (some (partOf ax))
    (some b.ds.sew)) } : Blocks).raise .fault).halt_heads hhu
  refine ⟨Blocks.halt_cf _, Blocks.halt_tp _, rt, ds, hu, ?_, ?_, ?_, ?_, Blocks.halt_fl _⟩
  · rw [Blocks.halt_rc]
  · rw [Blocks.halt_eq, Blocks.haltRun_sc]
    rfl
  · rw [Blocks.halt_fc]
    rfl
  · rw [Blocks.halt_fc]
    rfl

/-! ## The inputs found asserted -/

/-- The axes whose drive-fault inputs are asserted, in FAULT (R42). -/
def Blocks.drivesSeen (b : Blocks) : Blocks :=
  { b with
    fc.x := if b.pins.driveFaultX then AxisRec.faulted else b.fc.x
    fc.y := if b.pins.driveFaultY then AxisRec.faulted else b.fc.y }

theorem Blocks.watchDrives_quiet (b : Blocks) (hx : b.pins.driveFaultX = false)
    (hy : b.pins.driveFaultY = false) : b.watchDrives = b := by
  unfold Blocks.watchDrives
  rw [hx, hy]
  rfl

theorem Blocks.watchDrives_x (b : Blocks) (hx : b.pins.driveFaultX = true)
    (hy : b.pins.driveFaultY = false) (hidle : b.fl.waiting = []) :
    b.watchDrives = b.drivesSeen.take (.axisDrive .x) := by
  rw [← Blocks.report_one (b := b.drivesSeen) hidle]
  unfold Blocks.watchDrives Blocks.drivesSeen
  rw [hx, hy]

theorem Blocks.watchDrives_y (b : Blocks) (hx : b.pins.driveFaultX = false)
    (hy : b.pins.driveFaultY = true) (hidle : b.fl.waiting = []) :
    b.watchDrives = b.drivesSeen.take (.axisDrive .y) := by
  rw [← Blocks.report_one (b := b.drivesSeen) hidle]
  unfold Blocks.watchDrives Blocks.drivesSeen
  rw [hx, hy]

theorem Blocks.watchDrives_both (b : Blocks) (hx : b.pins.driveFaultX = true)
    (hy : b.pins.driveFaultY = true) (hidle : b.fl.waiting = []) :
    ∃ first second : Axis, b.watchDrives =
      (({ b.drivesSeen with draws := b.draws + 1 } : Blocks).take (.axisDrive first)).take
        (.axisDrive second) := by
  have watched : b.watchDrives = ({ b.drivesSeen with draws := b.draws + 1 } : Blocks).takeAll
      (if Config.freeOrder b.draws 0 % 2 = 0 then [.axisDrive .x, .axisDrive .y]
       else [.axisDrive .y, .axisDrive .x]) := by
    rw [← Blocks.report_idle (b := { b.drivesSeen with draws := b.draws + 1 }) hidle]
    unfold Blocks.watchDrives Blocks.drivesSeen
    rw [hx, hy]
  rw [watched]
  split_ifs
  · exact ⟨.x, .y, rfl⟩
  · exact ⟨.y, .x, rfl⟩

/-- What the drive-fault inputs leave, at least one of them asserted (R42, R153). -/
structure DrivesFaulted (b t : Blocks) : Prop where
  cf : t.cf = b.cf
  tp : t.tp = b.tp
  rt : t.rt = b.rt
  ds : t.ds = b.ds
  hu : t.hu = b.hu
  runState : t.rc.runState = .halted
  sc : t.sc.state = .off
  x : t.fc.x = if b.pins.driveFaultX then AxisRec.faulted else b.fc.x.halt
  y : t.fc.y = if b.pins.driveFaultY then AxisRec.faulted else b.fc.y.halt
  flX : b.pins.driveFaultX = true → b.pins.driveFaultY = false → t.fl = b.fl.write
    (entryOf b.drivesSeen .axisDrive .halt (some .x) (some b.ds.sew))
  flY : b.pins.driveFaultX = false → b.pins.driveFaultY = true → t.fl = b.fl.write
    (entryOf b.drivesSeen .axisDrive .halt (some .y) (some b.ds.sew))
  flBoth : b.pins.driveFaultX = true → b.pins.driveFaultY = true →
    t.fl.nextSeq = b.fl.nextSeq + 2

theorem AxisRec.faulted_halt : AxisRec.faulted.halt = AxisRec.faulted := rfl

theorem AxisRec.halt_halt (r : AxisRec) : r.halt.halt = r.halt := by
  unfold AxisRec.halt
  split_ifs <;> rfl

theorem Blocks.drivesSeen_x_halt (b : Blocks) : b.drivesSeen.fc.x.halt =
    if b.pins.driveFaultX then AxisRec.faulted else b.fc.x.halt := by
  show AxisRec.halt (if _ then _ else _) = _
  split_ifs <;> rfl

theorem Blocks.drivesSeen_y_halt (b : Blocks) : b.drivesSeen.fc.y.halt =
    if b.pins.driveFaultY then AxisRec.faulted else b.fc.y.halt := by
  show AxisRec.halt (if _ then _ else _) = _
  split_ifs <;> rfl

theorem Blocks.watchDrives_faulted {b : Blocks} (hidle : b.fl.waiting = [])
    (hrt : b.rt = Eight.const []) (hhu : ∀ g : HeadId, (b.hu.get g).atRest)
    (hin : b.pins.driveFaultX = true ∨ b.pins.driveFaultY = true) :
    DrivesFaulted b b.watchDrives := by
  cases hx : b.pins.driveFaultX <;> cases hy : b.pins.driveFaultY
  case false.false => exact absurd hin (by simp [hx, hy])
  case false.true =>
    obtain ⟨cf, tp, rt, ds, hu, runState, sc, x, y, fl⟩ :=
      Blocks.take_axisDrive (b := b.drivesSeen) .y hrt hhu
    rw [b.watchDrives_y hx hy hidle]
    exact ⟨cf, tp, rt, ds, hu, runState, sc, x.trans b.drivesSeen_x_halt,
      y.trans b.drivesSeen_y_halt, fun h => absurd (hx.symm.trans h) nofun, fun _ _ => fl,
      fun h => absurd (hx.symm.trans h) nofun⟩
  case true.false =>
    obtain ⟨cf, tp, rt, ds, hu, runState, sc, x, y, fl⟩ :=
      Blocks.take_axisDrive (b := b.drivesSeen) .x hrt hhu
    rw [b.watchDrives_x hx hy hidle]
    exact ⟨cf, tp, rt, ds, hu, runState, sc, x.trans b.drivesSeen_x_halt,
      y.trans b.drivesSeen_y_halt, fun _ _ => fl, fun _ h => absurd (hy.symm.trans h) nofun,
      fun _ h => absurd (hy.symm.trans h) nofun⟩
  case true.true =>
    obtain ⟨first, second, hboth⟩ := b.watchDrives_both hx hy hidle
    obtain ⟨cf, tp, rt, ds, hu, -, -, x, y, fl⟩ :=
      Blocks.take_axisDrive (b := { b.drivesSeen with draws := b.draws + 1 }) first hrt hhu
    obtain ⟨cf', tp', rt', ds', hu', runState, sc, x', y', fl'⟩ :=
      Blocks.take_axisDrive second (rt.trans hrt) (by rw [hu]; exact hhu)
    rw [hboth]
    refine ⟨cf'.trans cf, tp'.trans tp, rt'.trans rt, ds'.trans ds, hu'.trans hu, runState, sc, ?_,
      ?_, fun _ h => absurd (hy.symm.trans h) nofun, fun h => absurd (hx.symm.trans h) nofun,
      fun _ _ => ?_⟩
    · rw [x', x, AxisRec.halt_halt]
      exact b.drivesSeen_x_halt
    · rw [y', y, AxisRec.halt_halt]
      exact b.drivesSeen_y_halt
    · rw [fl', fl]
      show b.fl.nextSeq + 1 + 1 = b.fl.nextSeq + 2
      rw [add_assoc]
      rfl

/-! ## CFG -/

theorem s16_skip8 (n : Nat) (l : List Byte) (i : Nat) : s16 (enc8 n ++ l) (i + 1) = s16 l i := rfl

theorem u16_skipS16 (z : Int) (l : List Byte) (i : Nat) : u16 (encS16 z ++ l) (i + 2) = u16 l i :=
  u16_skip16 _ l i

/-- The bytes of a configuration, field after field (R185). -/
theorem configBytes_eq (c : MachineConfig) : configBytes c =
    enc8 c.headCount ++ (enc8 c.needleCount ++ (enc8 c.x.stepsPerUnit ++ (enc8 c.y.stepsPerUnit
      ++ (enc8 c.x.maxRate ++ (enc8 c.y.maxRate ++ (encS16 c.x.travelMin ++ (encS16 c.x.travelMax
      ++ (encS16 c.y.travelMin ++ (encS16 c.y.travelMax ++ (encS16 c.x.homeOffset
      ++ (encS16 c.y.homeOffset ++ (enc16 c.entryAngle ++ (enc16 c.trimAngle
      ++ (enc16 0 ++ [])))))))))))))) := by
  unfold configBytes
  simp only [List.append_assoc, List.append_nil]

/-- The coordinates of an axis fit their bytes (R161, R185). -/
theorem axis_fits {a : AxisConfig} (h : axisInRange a) (hw : axisWide a) :
    (-32768 ≤ a.travelMin ∧ a.travelMin ≤ 32767) ∧ (-32768 ≤ a.travelMax ∧ a.travelMax ≤ 32767)
      ∧ (-32768 ≤ a.homeOffset ∧ a.homeOffset ≤ 32767) := by
  obtain ⟨-, -, -, -, hlt, hlo, hhi⟩ := h
  obtain ⟨hmin, hmax⟩ := hw
  omega

/-- The configuration is read back from its bytes (R185). -/
theorem configOf_bytes {c : MachineConfig} (h : configInRange c) (hx : axisWide c.x)
    (hy : axisWide c.y) :
    configOf (configBytes c) = c ∧ u16 (configBytes c) 22 = 0 := by
  obtain ⟨-, hheads, -, hneedles, hxr, hyr, -, hentry, -, htrim⟩ := h
  obtain ⟨⟨x0, x1⟩, ⟨x2, x3⟩, ⟨x4, x5⟩⟩ := axis_fits hxr hx
  obtain ⟨⟨y0, y1⟩, ⟨y2, y3⟩, ⟨y4, y5⟩⟩ := axis_fits hyr hy
  obtain ⟨-, xsteps, -, xrate, -⟩ := hxr
  obtain ⟨-, ysteps, -, yrate, -⟩ := hyr
  have bytes : c.headCount < 256 ∧ c.needleCount < 256 ∧ c.x.stepsPerUnit < 256
      ∧ c.y.stepsPerUnit < 256 ∧ c.x.maxRate < 256 ∧ c.y.maxRate < 256 ∧ c.entryAngle < 65536
      ∧ c.trimAngle < 65536 := by omega
  unfold configOf
  rw [configBytes_eq]
  simp only [u8_skip8, s16_skip8, u16_skip8, s16_skipS16, u16_skipS16, u16_skip16, u8_enc8, u16_enc16,
    s16_encS16, bytes, x0, x1, x2, x3, x4, x5, y0, y1, y2, y3, y4, y5, Nat.zero_lt_succ, and_self]

theorem configOk_of_inRange {c : MachineConfig} (h : configInRange c) : c.ok = true := by
  unfold configInRange axisInRange at h
  simp only [MachineConfig.ok, AxisConfig.ok, within, Bool.and_eq_true, decide_eq_true_eq]
  omega

/-- CFG before the lock, with a configuration in its ranges, is taken (R161, R162). -/
theorem cmdCfg_taken (tag : Byte) {c : MachineConfig} {b : Blocks} (hlock : b.cf.lock = false)
    (h : configInRange c) (hx : axisWide c.x) (hy : axisWide c.y) :
    cmdCfg tag (configBytes c) b = okWith (b.configure c) [] := by
  obtain ⟨config, reserved⟩ := configOf_bytes h hx hy
  have length : lengthIs (configBytes c) 24 = (true, .length) := rfl
  unfold cmdCfg
  rw [config, reserved, length, configOk_of_inRange h, hlock]
  rfl

theorem cmdCfg_locked (tag : Byte) (p : List Byte) {b : Blocks} (hlock : b.cf.lock = true) :
    cmdCfg tag p b = refused b 0x06#8 := by
  unfold cmdCfg
  rw [hlock]
  rfl

/-- The part with its configuration kept and locked, its drive-fault inputs not yet watched (R162). -/
def Blocks.opened (b : Blocks) (c : MachineConfig) : Blocks :=
  ({ b with
      cf := ⟨true, c, Settings.default c.headCount⟩
      hu := freshHeads c.headCount
      tm := Eight.const Monitor.fresh
      rt := Eight.const []
      tp := []
      ru := b.ru.clearFlags } : Blocks).goto .idle none

theorem Blocks.opened_keeps (b : Blocks) (c : MachineConfig) :
    (b.opened c).cf = ⟨true, c, Settings.default c.headCount⟩ ∧ (b.opened c).hu = freshHeads c.headCount
      ∧ (b.opened c).tp = [] ∧ (b.opened c).rt = Eight.const [] ∧ (b.opened c).ds = b.ds
      ∧ (b.opened c).fc = b.fc ∧ (b.opened c).fl = b.fl ∧ (b.opened c).pins = b.pins := by
  simp [Blocks.opened]

theorem Blocks.opened_idle (b : Blocks) (c : MachineConfig) :
    (b.opened c).rc.runState = .idle ∧ (b.opened c).rc.pauseCause = none := by
  rw [Blocks.opened, Blocks.goto_rc]
  exact ⟨rfl, rfl⟩

/-! ## The controller reset -/

theorem Blocks.controllerReset_eq {b : Blocks} (hidle : b.fl.waiting = []) :
    b.controllerReset = if b.cf.lock then (resetBlocks b).watchDrives else resetBlocks b := by
  unfold Blocks.controllerReset
  rw [Blocks.report_nothing hidle]
  rfl

theorem Blocks.controllerReset_quiet {b : Blocks} (hidle : b.fl.waiting = [])
    (hquiet : drivesQuiet b) : b.controllerReset = resetBlocks b := by
  rw [Blocks.controllerReset_eq hidle]
  rcases hquiet with hlock | ⟨hx, hy⟩
  · rw [hlock]
    rfl
  · rw [(resetBlocks b).watchDrives_quiet hx hy, ite_self]

/-- The entry of an AXIS_DRIVE that a controller reset finds (R156, R166). -/
theorem entryOf_reset (b : Blocks) (p : Part) (hlock : b.cf.lock = true) :
    entryOf (resetBlocks b).drivesSeen .axisDrive .halt (some p) (some (resetBlocks b).ds.sew) =
      ⟨b.fl.nextSeq, .axisDrive, .halt, .idle, 0#32, some p, none, none, none, none, none, none,
        none⟩ := by
  have x : axisAt (resetBlocks b).drivesSeen.fc.x = none := by
    show axisAt (if _ then _ else _) = none
    split_ifs <;> rfl
  have y : axisAt (resetBlocks b).drivesSeen.fc.y = none := by
    show axisAt (if _ then _ else _) = none
    split_ifs <;> rfl
  have idle : (resetBlocks b).drivesSeen.rc.runState = .idle := by
    show (Rc.reset (if b.cf.lock then .idle else .unconfigured)).runState = .idle
    rw [hlock]
    rfl
  unfold entryOf
  rw [x, y, idle]
  rfl

theorem Pl.controllerReset_eq (p : Pl) : p.controllerReset = resetLink p p.lineLow := rfl

/-- The last byte of a frame that is neither a HEAD report nor RST's reply (R173). -/
theorem State.sent_plain {s : State} {o : Outbound} (htx : s.pl.tx = some o)
    (hhead : o.purpose ≠ .report .head) (hrst : o.purpose ≠ .rstReply) :
    s.sent = { s with pl.tx := none } := by
  unfold State.sent
  rw [htx]
  dsimp only
  split
  · next h => exact absurd h hrst
  · next h => exact absurd h hhead
  · rfl

theorem State.sent_rst {s : State} {f : Frame} (htx : s.pl.tx = some ⟨f, .rstReply⟩) :
    s.sent = { s with pl := resetLink s.pl s.pl.lineLow, blk := s.blk.controllerReset } := by
  unfold State.sent
  rw [htx]
  rfl

/-- RST at the decoder (R166, R172). -/
theorem exec_rst_byte (tag n : Byte) (s : State) (hfree : s.linkFree) :
    exec (.rst tag [n]) s =
      if n = 0#8 then .next
        { s with pl.replies := s.pl.replies ++ [⟨⟨0x85#8, tag, [0x00#8]⟩, .rstReply⟩]
                 pl.rstTaken := true }
      else .next (answered s 0x05#8 tag (refused s.blk 0x03#8)) := by
  have answer : cmdRst tag [n] s.blk = if n = 0#8 then okWith s.blk [] else refused s.blk 0x03#8 := by
    have zero : (u8 [n] 0 == 0) = decide (n = 0#8) := by
      rw [Bool.eq_iff_iff, beq_iff_eq, decide_eq_true_eq, BitVec.toNat_eq]
      rfl
    unfold cmdRst
    rw [zero]
    by_cases hn : n = 0#8 <;> simp [hn, Blocks.judge_cons, Blocks.judge_nil, lengthIs, Code.byte]
  rw [exec_rst _ _ _ hfree]
  unfold State.takeFrame
  rw [show Machine.answer s.pl.errs ⟨0x05#8, tag, [n]⟩ s.blk = cmdRst tag [n] s.blk from rfl, answer]
  by_cases hn : n = 0#8
  · rw [if_pos hn, if_pos hn]
    simp [okWith, isOk, replyFrame, Code.byte]
  · rw [if_neg hn, if_neg hn]
    simp [answered, State.replied, refused, isOk, replyFrame, Code.byte]

end Sys2Proof.Machine

namespace Sys2Proof.Proofs

open Sys2Proof.Machine Sys2Proof.Claims

/-- Settles O17: the last byte of each frame, with the controller reset that RST's reply makes, and
RST. -/
theorem theLastByteOfAFrame : Obligations.TheLastByteOfAFrame := by
  unfold Obligations.TheLastByteOfAFrame
  refine ⟨fun s f => ⟨fun htx => ?_, fun p hp htx => ?_, fun htx => ?_, fun htx hidle hquiet => ?_,
    fun x y htx hidle hlock hx hy hin => ?_⟩, fun tag n s hfree => exec_rst_byte tag n s hfree⟩
  · have still : s.sent = s := by
      unfold State.sent
      rw [htx]
    exact congrArg Host.Outcome.next still
  · refine congrArg Host.Outcome.next (State.sent_plain htx ?_ ?_)
    · rcases hp with rfl | rfl | ⟨k, hk, rfl⟩
      · nofun
      · nofun
      · exact fun h => hk (by cases h; rfl)
    · rcases hp with rfl | rfl | ⟨k, -, rfl⟩ <;> nofun
  · have sent : s.sent = { s with pl.tx := none, blk.ru := s.blk.ru.headSent } := by
      unfold State.sent
      rw [htx]
    exact congrArg Host.Outcome.next sent
  · refine congrArg Host.Outcome.next ((State.sent_rst htx).trans ?_)
    rw [Blocks.controllerReset_quiet hidle hquiet]
  · subst hx hy
    have reset : s.blk.controllerReset = (resetBlocks s.blk).watchDrives := by
      rw [Blocks.controllerReset_eq hidle, hlock]
      rfl
    obtain ⟨cf, -, rt, ds, -, runState, sc, fx, fy, flX, flY, flBoth⟩ :=
      Blocks.watchDrives_faulted (b := resetBlocks s.blk) hidle rfl
        (fun g => freshHeads_atRest _ g) hin
    have sent := State.sent_rst htx
    rw [reset] at sent
    refine ⟨_, congrArg Host.Outcome.next sent, rfl, rfl, cf, ds, rt, runState, sc, ?_, ?_,
      fun hx hy => ?_, fun hx hy => ?_, flBoth⟩
    · exact (congrArg AxisRec.state fx).trans (apply_ite AxisRec.state ..)
    · exact (congrArg AxisRec.state fy).trans (apply_ite AxisRec.state ..)
    · exact (flX hx hy).trans (congrArg _ (entryOf_reset s.blk .x hlock))
    · exact (flY hx hy).trans (congrArg _ (entryOf_reset s.blk .y hlock))

/-- Settles O20: CFG as it is taken, by the drive-fault inputs it finds, and CFG locked. -/
theorem cfgConfiguresOnce : Obligations.CfgConfiguresOnce := by
  unfold Obligations.CfgConfiguresOnce
  refine ⟨fun tag c s hfree hlock hc hx hy hidle => ?_, fun tag p s hfree hlock => ?_⟩
  · have answer := cmdCfg_taken tag hlock hc hx hy
    obtain ⟨cf, hu, tp, rt, ds, fc, fl, pins⟩ := s.blk.opened_keeps c
    by_cases hin : s.blk.pins.driveFaultX = true ∨ s.blk.pins.driveFaultY = true
    · obtain ⟨cf', tp', rt', ds', hu', runState, -, fx, fy, -⟩ :=
        Blocks.watchDrives_faulted (b := s.blk.opened c) (by rw [fl]; exact hidle) rt
          (fun g => by rw [hu]; exact freshHeads_atRest _ g) (by rw [pins]; exact hin)
      rw [exec_cfg _ _ _ hfree, answer]
      refine ⟨_, rfl, rfl, cf'.trans cf, hu'.trans hu, tp'.trans tp, rt'.trans rt, ds'.trans ds,
        fun hx hy => absurd hin (by simp [hx, hy]), fun hx => ⟨runState, ?_⟩,
        fun hy => ⟨runState, ?_⟩⟩
      · exact (congrArg AxisRec.state fx).trans (by rw [pins, if_pos hx]; rfl)
      · exact (congrArg AxisRec.state fy).trans (by rw [pins, if_pos hy]; rfl)
    · obtain ⟨hx, hy⟩ : s.blk.pins.driveFaultX = false ∧ s.blk.pins.driveFaultY = false := by
        simpa using hin
      have quiet : s.blk.configure c = s.blk.opened c :=
        (s.blk.opened c).watchDrives_quiet (by rw [pins]; exact hx) (by rw [pins]; exact hy)
      rw [exec_cfg _ _ _ hfree, answer, quiet]
      exact ⟨_, rfl, rfl, cf, hu, tp, rt, ds, fun _ _ => ⟨(s.blk.opened_idle c).1,
        (s.blk.opened_idle c).2, fc, fl⟩, fun h => absurd (hx.symm.trans h) nofun,
        fun h => absurd (hy.symm.trans h) nofun⟩
  · rw [exec_cfg _ _ _ hfree]
    exact next_answered (cmdCfg_locked tag p hlock)

end Sys2Proof.Proofs
end

section
/-!
SUPPORT. The encoder count by the shaft state, and the angle events it gives (R47, R51, R35).
-/

namespace Sys2Proof.Machine

open Sys2Proof.Claims

/-! ## Counting -/

theorem Sc.not_atLastCount {s : Sc} {a : Nat} (ha : s.angle = some a) (hlt : a < 1023) :
    s.atLastCount = false := by
  rw [Bool.eq_false_iff, Ne, Sc.atLastCount_iff, ha]
  intro h
  cases h
  exact absurd hlt (by decide)

theorem Sc.count_at {s : Sc} {a : Nat} (ha : s.angle = some a) :
    s.count = { s with angle := some (min 1023 (a + 1)) } := by
  rw [Sc.count, ha]
  rfl

theorem Sc.count_below {s : Sc} {a : Nat} (ha : s.angle = some a) (hlt : a < 1023) :
    s.count = { s with angle := some (a + 1) } := by
  rw [Sc.count_at ha, Nat.min_eq_right hlt]

/-- The shaft at an angle. -/
def Blocks.angledAt (b : Blocks) (a : Nat) : Blocks := { b with sc.angle := some a }

/-- A count below the last in TURNING and STOPPING gives the events of the angle it reaches (R47). -/
theorem Blocks.encoderCount_turns {b : Blocks} {a : Nat} (h : b.sc.state ∈ [.turning, .stopping])
    (ha : b.sc.angle = some a) (hlt : a < 1023) :
    b.encoderCount = (b.angledAt (a + 1)).angleEvents := by
  have below := Sc.not_atLastCount ha hlt
  simp only [List.mem_cons, List.not_mem_nil, or_false] at h
  rcases h with h | h <;>
    simp only [Blocks.encoderCount, h, below, Bool.false_eq_true, if_false, Sc.count_below ha hlt,
      Blocks.angledAt]

/-! ## The angle events -/

variable {b : Blocks} {c : Cycle} {a : Nat}

theorem Blocks.angleEvents_none (hc : b.sc.cycle = some c) (ha : b.sc.angle = some a)
    (hentry : a ≠ b.cf.config.entryAngle ∨ c.entryGiven = true)
    (htrim : a ≠ b.cf.config.trimAngle ∨ c.kind ≠ .trim ∨ c.trimGiven = true) :
    b.angleEvents = b := by
  unfold Blocks.angleEvents
  rw [hc, ha]
  dsimp only
  rw [if_neg, if_neg]
  · rintro ⟨h, hk, hg⟩
    exact htrim.elim (· h) (·.elim (· hk) fun hgiven => nomatch hg.symm.trans hgiven)
  · rintro ⟨h, hg⟩
    exact hentry.elim (· h) fun hgiven => nomatch hg.symm.trans hgiven

theorem Blocks.angleEvents_entry (hc : b.sc.cycle = some c) (ha : b.sc.angle = some a)
    (hentry : a = b.cf.config.entryAngle) (hgiven : c.entryGiven = false) :
    b.angleEvents = b.giveEntry c := by
  unfold Blocks.angleEvents
  rw [hc, ha]
  exact if_pos ⟨hentry, hgiven⟩

theorem Blocks.angleEvents_trim (hc : b.sc.cycle = some c) (ha : b.sc.angle = some a)
    (htrim : a = b.cf.config.trimAngle) (hk : c.kind = .trim) (hgiven : c.trimGiven = false)
    (hentry : a ≠ b.cf.config.entryAngle ∨ c.entryGiven = true) :
    b.angleEvents = b.trimPoint c := by
  unfold Blocks.angleEvents
  rw [hc, ha]
  dsimp only
  rw [if_neg, if_pos ⟨htrim, hk, hgiven⟩]
  rintro ⟨h, hg⟩
  exact hentry.elim (· h) fun hyes => nomatch hg.symm.trans hyes

/-- The entry event of a cycle whose move is done, or that has none (R51). -/
theorem Blocks.giveEntry_plain (hlate : c.kind ≠ .stitch ∨ b.fc.notDone c.index = false) :
    b.giveEntry c = { b with sc.cycle := some { c with entryGiven := true } } := by
  unfold Blocks.giveEntry Blocks.needleEntry
  dsimp only
  rw [if_neg]
  · rfl
  · rintro ⟨hk, hd⟩
    exact hlate.elim (· hk) fun hdone => nomatch hdone.symm.trans hd

theorem Condition.coordinate_now (slot : Option Nat) (i : Nat) (x y : Option Int) :
    Condition.coordinate (.moveLate slot i x y) .x x = x
      ∧ Condition.coordinate (.moveLate slot i x y) .y y = y := by
  cases x <;> cases y <;> exact ⟨rfl, rfl⟩

/-- The entry of a MOVE_LATE taken as it is detected, outside a patch run (R156). -/
theorem Blocks.entry_moveLateOf (b : Blocks) (i : Nat) (hpatch : b.patchWork = none) :
    b.entry (b.moveLateOf i) = entryOf b .moveLate .stopAll none (some i) := by
  obtain ⟨hx, hy⟩ := Condition.coordinate_now b.sewSlot i b.fc.x.coordinate b.fc.y.coordinate
  have slot : b.sewSlot = b.rc.slotInEffect := by rw [Blocks.sewSlot, hpatch]
  unfold Blocks.entry Blocks.moveLateOf entryOf
  rw [hx, hy, slot]
  rfl

/-- The state in which a MOVE_LATE finds its stop begun: its entry written and FAULT raised (R150). -/
def Blocks.lateWritten (b : Blocks) (i : Nat) : Blocks :=
  { b with
    fl := b.fl.write (entryOf b .moveLate .stopAll none (some i))
    ru := b.ru.raise .fault }

/-- MOVE_LATE outside a patch run is a STOP_ALL after its entry (R35, R151). -/
theorem Blocks.take_moveLateOf (b : Blocks) (i : Nat) (hpatch : b.patchWork = none) :
    b.take (b.moveLateOf i) = (b.lateWritten i).stopAll := by
  rw [b.take_stopAll_headless _ rfl (by simp [Blocks.moveLateOf, Condition.kind]) rfl,
    b.writeEntry_headless _ rfl, b.entry_moveLateOf i hpatch]
  rfl

/-- STOP_ALL in RUNNING steps the shaft down and changes nothing else (R75). -/
theorem Blocks.stopAll_runs (b : Blocks) (h : b.rc.runState = .running) :
    b.stopAll.fc = b.fc ∧ b.stopAll.hu = b.hu ∧ b.stopAll.ds = b.ds ∧ b.stopAll.tm = b.tm
      ∧ b.stopAll.rt = b.rt := by
  simp [Blocks.stopAll, h]

/-- The entry event of a STITCH whose move has not completed: MOVE_LATE is taken (R35, R51). -/
theorem Blocks.giveEntry_late (hk : c.kind = .stitch) (hlate : b.fc.notDone c.index = true)
    (hidle : b.fl.waiting = []) (hpatch : b.patchWork = none) :
    b.giveEntry c =
      (({ b with sc.cycle := some { c with entryGiven := true } } : Blocks).lateWritten
        c.index).stopAll := by
  have late := Blocks.take_moveLateOf { b with sc.cycle := some { c with entryGiven := true } }
    c.index hpatch
  unfold Blocks.giveEntry Blocks.needleEntry
  dsimp only
  rw [if_pos ⟨hk, hlate⟩, ← late]
  exact Blocks.report_one (b := { b with sc.cycle := some { c with entryGiven := true } }) hidle _

end Sys2Proof.Machine

namespace Sys2Proof.Proofs

open Sys2Proof.Machine Sys2Proof.Claims

/-- Settles O50: an encoder count in each shaft state, and each angle event. -/
theorem encoderCountsMoveTheAngle : Obligations.EncoderCountsMoveTheAngle := by
  unfold Obligations.EncoderCountsMoveTheAngle
  intro s
  refine ⟨fun hoff => ?_, fun a hstopped ha => ?_, fun a hfinding ha hlt => ?_,
    fun a c hturns ha hlt hc => ?_⟩
  · have rests : s.blk.encoderCount = s.blk := by rw [Blocks.encoderCount, hoff]
    exact next_blocks rests
  · have counts : s.blk.encoderCount = { s.blk with sc.angle := some (min 1023 (a + 1)) } := by
      rw [Blocks.encoderCount, hstopped]
      dsimp only
      rw [Sc.count_at ha]
    exact next_blocks counts
  · have counts : s.blk.encoderCount = { s.blk with sc.angle := some (a + 1) } := by
      rw [Blocks.encoderCount, hfinding]
      dsimp only
      rw [Sc.not_atLastCount ha hlt, Sc.count_below ha hlt]
      rfl
    exact next_blocks counts
  have counts := Blocks.encoderCount_turns hturns ha hlt
  refine ⟨fun hentry htrim => ?_, fun hentry hgiven hdone => ?_,
    fun hentry hgiven hk hlate hidle hrun hturning hpatch => ?_,
    fun htrim hk hgiven hentry => ?_⟩
  · exact next_blocks (counts.trans
      (Blocks.angleEvents_none (b := s.blk.angledAt (a + 1)) hc rfl hentry htrim))
  · exact next_blocks (counts.trans
      ((Blocks.angleEvents_entry (b := s.blk.angledAt (a + 1)) hc rfl hentry hgiven).trans
        (Blocks.giveEntry_plain hdone)))
  · have late := Blocks.giveEntry_late (b := s.blk.angledAt (a + 1)) hk hlate hidle
      hpatch
    have taken := counts.trans
      ((Blocks.angleEvents_entry (b := s.blk.angledAt (a + 1)) hc rfl hentry hgiven).trans late)
    obtain ⟨hrs, hfault, hsc⟩ := Blocks.stopAll_running (({ s.blk with
      sc := { s.blk.sc with angle := some (a + 1), cycle := some { c with entryGiven := true } } } :
        Blocks).lateWritten c.index) hrun
    obtain ⟨hfc, hhu, hds, htm, hrt⟩ := Blocks.stopAll_runs (({ s.blk with
      sc := { s.blk.sc with angle := some (a + 1), cycle := some { c with entryGiven := true } } } :
        Blocks).lateWritten c.index) hrun
    exact ⟨_, next_blocks taken, hsc.trans (if_pos hturning), hrs, hfault, Blocks.stopAll_fl _, hfc,
      hhu, hds, htm, hrt⟩
  · exact next_blocks (counts.trans
      (Blocks.angleEvents_trim (b := s.blk.angledAt (a + 1)) hc rfl htrim hk hgiven hentry))

end Sys2Proof.Proofs
end

section
/-!
SUPPORT. The plan of a cycle (R54 to R57), the cycle start (R50, R111, R118, R121), the start request and
the shaft start (R49, R72), and the cycle move (R34).
-/

namespace Sys2Proof.Machine

open Sys2Proof.Claims

/-! ## The speed of a cycle -/

theorem capped_le (v : Nat) (o : Option Nat) : capped v o ≤ v := by
  cases o
  · exact le_rfl
  · exact Nat.min_le_left _ _

theorem capped_le_cap (v c : Nat) : capped v (some c) ≤ c := Nat.min_le_right _ _

theorem capped_cases (v : Nat) (o : Option Nat) : capped v o = v ∨ o = some (capped v o) := by
  cases o with
  | none => exact .inl rfl
  | some c =>
    exact (Nat.le_total v c).imp Nat.min_eq_left fun h => congrArg some (Nat.min_eq_right h).symm

/-- The class term, record kind by record kind and class by class (R55). -/
theorem classTerm_eq_some (s : Settings) (r : StoredRecord) (c : Nat) :
    classTerm s r = some c ↔
      (r.kind = .stitch ∧ 30 < max r.dx.natAbs r.dy.natAbs ∧ max r.dx.natAbs r.dy.natAbs ≤ 70)
          ∧ s.mediumCap = c
        ∨ (r.kind = .stitch ∧ 70 < max r.dx.natAbs r.dy.natAbs) ∧ s.longCap = c
        ∨ r.kind = .jump ∧ s.jumpCap = c ∨ r.kind = .trim ∧ 200 = c := by
  unfold classTerm
  cases hk : r.kind
  case stitch =>
    have cls : classOf r.dx r.dy = if max r.dx.natAbs r.dy.natAbs ≤ 30 then .short
      else if max r.dx.natAbs r.dy.natAbs ≤ 70 then .medium else .long := rfl
    rw [cls]
    split_ifs with hshort hmedium <;> simp <;> omega
  all_goals simp

theorem Blocks.settleTerm_eq_some (b : Blocks) (plan : PlanMode) (c : Nat) :
    b.settleTerm plan = some c ↔ Id8.all.any (fun h => b.partakes plan h
      && (b.tm.get h).countsAsSettling b.cf.settings.settleCode) = true
        ∧ b.cf.settings.startSpeed = c := by
  unfold Blocks.settleTerm
  split_ifs with h <;> simp [h]

/-- The planned speed is below every term (R55). -/
theorem Blocks.planSpeed_le (b : Blocks) (plan : PlanMode) (i : Nat) (r : StoredRecord) :
    b.planSpeed plan i r ≤ b.cf.settings.hostSpeed
      ∧ b.planSpeed plan i r ≤ b.sc.previous + 200
      ∧ b.planSpeed plan i r ≤ 200 * b.planK plan i
      ∧ (∀ c, classTerm b.cf.settings r = some c → b.planSpeed plan i r ≤ c)
      ∧ (∀ c, b.settleTerm plan = some c → b.planSpeed plan i r ≤ c) := by
  have caps : b.planSpeed plan i r ≤ capped (capped b.cf.settings.hostSpeed
      (classTerm b.cf.settings r)) (b.settleTerm plan) :=
    (Nat.min_le_left _ _).trans (Nat.min_le_left _ _)
  refine ⟨caps.trans ((capped_le _ _).trans (capped_le _ _)),
    (Nat.min_le_left _ _).trans (Nat.min_le_right _ _), Nat.min_le_right _ _,
    fun c hc => caps.trans ((capped_le _ _).trans ?_), fun c hc => caps.trans ?_⟩
  · rw [hc]
    exact capped_le_cap _ _
  · rw [hc]
    exact capped_le_cap _ _

/-- The planned speed is one of its terms (R55). -/
theorem Blocks.planSpeed_cases (b : Blocks) (plan : PlanMode) (i : Nat) (r : StoredRecord) :
    b.planSpeed plan i r = b.cf.settings.hostSpeed
      ∨ b.planSpeed plan i r = b.sc.previous + 200
      ∨ b.planSpeed plan i r = 200 * b.planK plan i
      ∨ classTerm b.cf.settings r = some (b.planSpeed plan i r)
      ∨ b.settleTerm plan = some (b.planSpeed plan i r) := by
  have least (x y z : Nat) : min (min x y) z = y ∨ min (min x y) z = z ∨ min (min x y) z = x := by
    omega
  rcases least (capped (capped b.cf.settings.hostSpeed (classTerm b.cf.settings r))
    (b.settleTerm plan)) (b.sc.previous + 200) (200 * b.planK plan i) with h | h | h
  · exact .inr (.inl h)
  · exact .inr (.inr (.inl h))
  · have h' : b.planSpeed plan i r = _ := h
    rw [h']
    rcases capped_cases (capped b.cf.settings.hostSpeed (classTerm b.cf.settings r))
      (b.settleTerm plan) with hs | hs
    · rw [hs]
      exact (capped_cases b.cf.settings.hostSpeed (classTerm b.cf.settings r)).imp id
        fun hc => .inr (.inr (.inl hc))
    · exact .inr (.inr (.inr (.inr hs)))

/-! ## MARKs of a patch run -/

theorem Ds.hasKind_held {d : Ds} {i : Nat} {k : RecordKind} (h : d.hasKind i k = true) :
    d.tail ≤ i ∧ i < d.tail + d.records.length := by
  unfold Ds.hasKind Ds.record at h
  split_ifs at h with htail
  refine ⟨htail, ?_⟩
  by_contra hout
  rw [List.getElem?_eq_none (by omega)] at h
  cases h

/-- Where the passing of MARKs ends, with steps for `n` of them (R50). -/
theorem Ds.skipMarks_spec (d : Ds) (e : Nat) : ∀ n i : Nat,
    let j := d.skipMarks e n i
    i ≤ j ∧ (i ≤ e → j ≤ e) ∧ (∀ k, i ≤ k → k < j → d.hasKind k .mark = true)
      ∧ (j < e → d.hasKind j .mark = true → j = i + n) := by
  intro n
  induction n with
  | zero => exact fun i => ⟨le_rfl, id, fun k h h' => absurd h' (by simpa [Ds.skipMarks] using h),
      fun _ _ => rfl⟩
  | succ n ih =>
    intro i
    unfold Ds.skipMarks
    split_ifs with h
    · obtain ⟨hlt, hmark⟩ := h
      obtain ⟨hle, hend, hmarks, hstop⟩ := ih (i + 1)
      refine ⟨by omega, fun _ => hend hlt, fun k hk hkj => ?_, fun hj hm => ?_⟩
      · rcases Nat.eq_or_lt_of_le hk with rfl | hk'
        · exact hmark
        · exact hmarks k hk' hkj
      · have := hstop hj hm
        omega
    · exact ⟨le_rfl, id, fun k hk hkj => absurd hkj (Nat.not_lt.mpr hk),
        fun hj hm => absurd ⟨hj, hm⟩ h⟩

/-- There are steps for every record held (R50). -/
theorem Blocks.pastMarks_spec (b : Blocks) (e i : Nat) :
    let j := b.pastMarks e i
    i ≤ j ∧ (i ≤ e → j ≤ e) ∧ (∀ k, i ≤ k → k < j → b.ds.hasKind k .mark = true)
      ∧ (j < e → b.ds.hasKind j .mark = false) := by
  intro j
  obtain ⟨hle, hend, hmarks, hstop⟩ := b.ds.skipMarks_spec e b.ds.records.length i
  refine ⟨hle, hend, hmarks, fun hj => ?_⟩
  by_contra hm
  rw [Bool.not_eq_false] at hm
  have last : j = i + b.ds.records.length := hstop hj hm
  obtain ⟨htail, hhead⟩ := Ds.hasKind_held hm
  rcases Nat.eq_zero_or_pos b.ds.records.length with hnone | hsome
  · omega
  · have first := Ds.hasKind_held (hmarks i le_rfl (show i < j by omega))
    omega

/-! ## The cycle start -/

theorem Blocks.partakes_eq (b : Blocks) (plan : PlanMode) (h : HeadId) :
    b.partakes plan h = takesIn b plan h := by
  cases plan with
  | run =>
    unfold Blocks.partakes takesIn
    simp only [Bool.decide_and, Blocks.configured, beq_eq_decide, Bool.and_assoc]
    cases (b.hu.get h).rest <;> rfl
  | patch e =>
    unfold Blocks.partakes takesIn
    cases b.patchWork <;> simp [beq_eq_decide]

theorem settleK_eq (code : Nat) : settleK code = [0, 1, 2, 3, 4, 6, 8, 12].getD code 12 := by
  match code with
  | 0 | 1 | 2 | 3 | 4 | 5 | 6 | 7 => rfl
  | _ + 8 => rfl

theorem Monitor.atStart_eq (m : Monitor) (code : Nat) (part : Bool) (window : Option Window) :
    m.atStart code part window = monitorStarted m code part window := by
  unfold Monitor.atStart monitorStarted
  dsimp only
  rw [settleK_eq]
  cases part
  · rfl
  · simp only [Bool.or_eq_true, beq_iff_eq, if_true]
    split_ifs <;> rfl

theorem Blocks.cycleStart_starts (b : Blocks) (plan : PlanMode) (i : Nat) (r : StoredRecord)
    (speed : Nat) : cycleStarts b (b.cycleStart plan i r speed) plan i r := by
  refine ⟨fun h => ⟨?_, ?_⟩, rfl⟩
  · refine (Eight.get_tabulate _ h).trans ?_
    rw [b.partakes_eq, Head.atStart, beq_eq_decide]
  · refine (Eight.get_tabulate _ h).trans ?_
    rw [b.partakes_eq, Monitor.atStart_eq]

/-! ## The decision at the end of a cycle -/

theorem Blocks.decideNext_rests (b : Blocks) (plan : PlanMode) (c : Cycle)
    (h : (b.sc.state = .stopping ∧ b.sc.previous ≤ 200) ∨ b.planK plan (c.index + 1) = 0) :
    b.decideNext plan c = b.comeToRest plan c.index (b.cycleIndex plan (c.index + 1)) := by
  unfold Blocks.decideNext
  dsimp only
  by_cases hslow : b.sc.state = .stopping ∧ b.sc.previous ≤ 200
  · rw [if_pos hslow]
  · rw [if_neg hslow, decide_eq_true (h.resolve_left hslow)]
    cases b.ds.record (b.cycleIndex plan (c.index + 1)) <;> rfl

theorem Blocks.decideNext_goesOn (b : Blocks) (plan : PlanMode) (c : Cycle) (r : StoredRecord)
    (hslow : ¬ (b.sc.state = .stopping ∧ b.sc.previous ≤ 200))
    (hk : b.planK plan (c.index + 1) ≠ 0)
    (hr : b.ds.record (b.cycleIndex plan (c.index + 1)) = some r) :
    b.decideNext plan c = b.cycleStart plan (b.cycleIndex plan (c.index + 1)) r
      (if b.sc.state = .stopping then
        min (b.planSpeed plan (c.index + 1) r) (b.sc.previous - 200)
       else b.planSpeed plan (c.index + 1) r) := by
  unfold Blocks.decideNext
  dsimp only
  rw [if_neg hslow, hr, decide_eq_false hk]

theorem Blocks.comeToRest_spec (b : Blocks) (plan : PlanMode) (last i : Nat) :
    let t := b.comeToRest plan last i
    t.sc = shaftAtRest b.sc ∧ t.fc = b.fc ∧ t.ds = b.ds ∧ t.tm = b.tm
      ∧ (∀ h : HeadId, t.hu.get h = { b.hu.get h with
          trimmer := false, footDown := false, engaged := false, takesPart := false })
      ∧ t.rc = { b.rc with stop := some ⟨some last, i, decide (b.sc.state = .stopping),
          b.points plan i⟩ } :=
  ⟨rfl, rfl, rfl, rfl, fun h => Eight.get_tabulate _ h, by rw [← beq_eq_decide]; rfl⟩

/-! ## The start request and the shaft start -/

theorem Blocks.startRequest_notReady (b : Blocks) (plan : PlanMode) (i : Nat)
    (h : b.sc.state ≠ .stopped) : b.startRequest plan i = (b, .notReady b.sc.state) := by
  unfold Blocks.startRequest
  exact if_pos h

theorem Blocks.startRequest_selectorBusy (b : Blocks) (plan : PlanMode) (i : Nat)
    (h : b.sc.state = .stopped) (hsel : b.selectorMoving = true) :
    b.startRequest plan i = (b, .selectorBusy) := by
  unfold Blocks.startRequest
  dsimp only
  rw [if_neg (not_not_intro h), if_pos hsel]

theorem Blocks.startRequest_frameNotReady (b : Blocks) (plan : PlanMode) (i : Nat)
    (h : b.sc.state = .stopped) (hsel : b.selectorMoving = false)
    (hfc : ¬ axesReady b ∨ b.fc.busy = true) : b.startRequest plan i = (b, .frameNotReady) := by
  have refused : (!b.fc.ready || b.fc.busy) = true := by
    rw [Bool.or_eq_true, Bool.not_eq_true', Bool.eq_false_iff]
    exact hfc.imp (mt fun hready => by simpa [Fc.ready] using hready) id
  unfold Blocks.startRequest
  dsimp only
  rw [if_neg (not_not_intro h), if_neg (by rw [hsel]; nofun), if_pos refused]

/-- The shaft start with no RUN to prepare, by the answer to its request (R72). -/
theorem Blocks.startPhase_plain {b : Blocks} (h : b.rc.resume = none) :
    b.startPhase =
      match (b.startRequest .run b.ds.sew).2 with
      | .started => (inState (b.startRequest .run b.ds.sew).1 .running none, none)
      | .atStop points => (b, some (.resolve ⟨false, false⟩ points))
      | .notReady _ | .selectorBusy | .frameNotReady => (inState b .paused (some .host), none) := by
  have same : (b.startRequest .run b.ds.sew).2 ≠ .started →
      (b.startRequest .run b.ds.sew).1 = b := b.startRequest_refused .run b.ds.sew
  have paused : b.pauseFor .host = inState b .paused (some .host) := by
    unfold Blocks.pauseFor
    rw [← h]
    rfl
  unfold Blocks.startPhase
  simp only [h, Option.isSome_none, Bool.false_eq_true, if_false]
  cases hans : (b.startRequest .run b.ds.sew).2 with
  | started => rfl
  | atStop points => rw [same (by rw [hans]; nofun)]; rfl
  | notReady shaft => rw [same (by rw [hans]; nofun), paused]
  | selectorBusy => rw [same (by rw [hans]; nofun), paused]
  | frameNotReady => rw [same (by rw [hans]; nofun), paused]

/-- A RUN from IDLE or PAUSED has every participating head owe a settle first (R72, R117). -/
theorem Blocks.startPhase_resumes {b : Blocks} (h : b.rc.resume ≠ none) :
    b.startPhase = ({ b with
      rc.resume := none
      tm := Eight.tabulate (fun h =>
        if takesIn b .run h then { b.tm.get h with owed := true } else b.tm.get h) } :
      Blocks).startPhase := by
  have owes : b.oweParticipants = { b with
      tm := Eight.tabulate (fun h =>
        if takesIn b .run h then { b.tm.get h with owed := true } else b.tm.get h) } := by
    unfold Blocks.oweParticipants
    simp only [Blocks.partakes_eq]
  unfold Blocks.startPhase
  simp only [Option.isSome_iff_ne_none.mpr h, if_true, Option.isSome_none, Bool.false_eq_true, if_false,
    owes]

/-! ## The cycle move -/

theorem Fc.cycleMove_alone (f : Fc) (i : Nat) (p : Pos) (hready : f.ready = true)
    (hmove : f.move = none) (hwaiting : f.waiting = []) :
    f.cycleMove i p = { f.depart (.cycle i) p with waiting := [] } := by
  unfold Fc.cycleMove
  rw [hwaiting, List.nil_append, Fc.beginWaiting, hready, hmove]
  rfl

theorem Fc.cycleMove_waits (f : Fc) (i : Nat) (p : Pos) (h : f.ready = false ∨ f.move ≠ none) :
    f.cycleMove i p = { f with waiting := f.waiting ++ [⟨i, p⟩] } := by
  have held : ¬ (f.ready && f.move.isNone) = true := by
    rw [Bool.and_eq_true, Option.isNone_iff_eq_none]
    rintro ⟨hready, hmove⟩
    exact h.elim (fun hno => nomatch hno.symm.trans hready) (· hmove)
  unfold Fc.cycleMove
  cases f.waiting with
  | nil => rw [List.nil_append, Fc.beginWaiting, if_neg held]
  | cons m ms => rw [List.cons_append, Fc.beginWaiting, if_neg held]

end Sys2Proof.Machine

namespace Sys2Proof.Proofs

open Sys2Proof.Machine Sys2Proof.Claims

/-- Settles O53: the speed by its terms, the decision, the MARKs of a patch run, the start request, the
shaft start and the cycle move. -/
theorem theNextCycleIsPlanned : Obligations.TheNextCycleIsPlanned := by
  unfold Obligations.TheNextCycleIsPlanned
  refine ⟨?_, ?_, ?_, ?_, ?_, ?_⟩
  · intro b plan i r v cls terms
    obtain ⟨hhost, hprev, hk, hclass, hsettle⟩ := b.planSpeed_le plan i r
    simp only [classTerm_eq_some] at hclass
    simp only [Blocks.settleTerm_eq_some] at hsettle
    refine ⟨?_, ?_⟩
    · intro x hx hin
      simp only [terms, List.mem_cons, List.not_mem_nil, or_false] at hx
      rcases hx with rfl | rfl | rfl | rfl | rfl | rfl | rfl | rfl
      · exact hhost
      · exact hprev
      · exact hk
      · exact hclass _ (.inl ⟨of_decide_eq_true hin, rfl⟩)
      · exact hclass _ (.inr (.inl ⟨of_decide_eq_true hin, rfl⟩))
      · exact hclass _ (.inr (.inr (.inl ⟨of_decide_eq_true hin, rfl⟩)))
      · exact hclass _ (.inr (.inr (.inr ⟨of_decide_eq_true hin, rfl⟩)))
      · exact hsettle _ ⟨hin, rfl⟩
    · have among := b.planSpeed_cases plan i r
      simp only [classTerm_eq_some, Blocks.settleTerm_eq_some] at among
      simp only [terms, List.mem_cons, List.not_mem_nil, or_false, exists_eq_or_imp, exists_eq_left,
        decide_eq_true_eq, true_and]
      rcases among with h | h | h | (⟨hc, h⟩ | ⟨hc, h⟩ | ⟨hc, h⟩ | ⟨hc, h⟩) | ⟨hc, h⟩
      · exact .inl h
      · exact .inr (.inl h)
      · exact .inr (.inr (.inl h))
      · exact .inr (.inr (.inr (.inl ⟨hc, h.symm⟩)))
      · exact .inr (.inr (.inr (.inr (.inl ⟨hc, h.symm⟩))))
      · exact .inr (.inr (.inr (.inr (.inr (.inl ⟨hc, h.symm⟩)))))
      · exact .inr (.inr (.inr (.inr (.inr (.inr (.inl ⟨hc, h.symm⟩))))))
      · exact .inr (.inr (.inr (.inr (.inr (.inr (.inr ⟨hc, h.symm⟩))))))
  · intro b plan c i j t
    refine ⟨fun h => ?_, fun r hslow hk hr => ?_⟩
    · have rests : t = b.comeToRest plan c.index j := b.decideNext_rests plan c h
      rw [rests]
      exact b.comeToRest_spec plan c.index j
    · have goesOn : t = _ := b.decideNext_goesOn plan c r hslow hk hr
      rw [goesOn]
      exact ⟨rfl, rfl, rfl, b.cycleStart_starts plan j r _⟩
  · exact fun b i => ⟨rfl, fun e => b.pastMarks_spec e i⟩
  · intro b plan i j r
    refine ⟨b.startRequest_notReady plan i, fun hsc => ⟨b.startRequest_selectorBusy plan i hsc,
      b.startRequest_frameNotReady plan i hsc, fun hsel haxes hbusy => ?_⟩⟩
    have mayAsk : b.sc.state = .stopped ∧ b.selectorMoving = false ∧ b.fc.ready = true
        ∧ b.fc.busy = false := ⟨hsc, hsel, b.fc.ready_of_axes haxes, hbusy⟩
    refine ⟨b.startRequest_atStop plan i mayAsk, fun x hk hx => ?_⟩
    have started : r = _ := b.startRequest_started plan i x mayAsk hk hx
    rw [started]
    exact ⟨rfl, rfl, rfl, rfl, Blocks.cycleStart_starts _ plan j x _⟩
  · intro b r
    refine ⟨fun h => ?_, Blocks.startPhase_resumes⟩
    have plain := Blocks.startPhase_plain h
    refine ⟨fun hans => ?_, fun p hans => ?_, fun hstarted hstop => ?_⟩
    · rw [plain, hans]
    · rw [plain, hans]
    · rw [plain]
      split
      · next hans => exact absurd hans hstarted
      · next p hans => exact absurd hans (hstop p)
      · rfl
      · rfl
      · rfl
  · intro f i p
    refine ⟨fun hx hy hmove hwaiting => ?_, fun h => f.cycleMove_waits i p ?_⟩
    · have ready := f.ready_of_axes ⟨hx, hy⟩
      have alone := f.cycleMove_alone i p ready hmove hwaiting
      refine ⟨fun hoff => ?_, fun hpx hpy => ?_⟩
      · rw [alone, Fc.depart_off _ _ _ hoff, ← hwaiting]
        rfl
      · rw [alone, Fc.depart_here f (.cycle i) p ready hpx hpy, ← hwaiting, ← hmove]
    · rcases h with h | h | h
      · exact .inl (by simp [Fc.ready, h])
      · exact .inl (by simp [Fc.ready, h])
      · exact .inr h

end Sys2Proof.Proofs
end

section
/-!
SUPPORT. The stages a move's end leads to: the steps of BACK and FWD (R83, R84), the reconciliation and
the colour change it begins (R71, R107, R108), and the end of a patch run (R142, R143, R146).
-/

namespace Sys2Proof.Machine

open Sys2Proof.Claims

/-! ## The steps of BACK and FWD -/

variable {b : Blocks} {tag : Byte} {base : BaseState} {w : RepoWork}

theorem Blocks.stepPhase_ends (h : b.rc.op = some ⟨tag, base, .repo w⟩)
    (hw : w.pauseAsked = true ∨ w.stepsLeft = 0) :
    b.stepPhase = (b.endOpBase (if w.pauseAsked then .stopped else .ok) OpFailures.none, none) := by
  unfold Blocks.stepPhase
  rw [h]
  dsimp only
  by_cases hasked : w.pauseAsked = true
  · rw [if_pos hasked, if_pos hasked]
  · rw [if_neg hasked, if_neg hasked, hw.resolve_left hasked]

theorem Blocks.stepPhase_blocked {n : Nat} (h : b.rc.op = some ⟨tag, base, .repo w⟩)
    (hasked : w.pauseAsked = false) (hn : w.stepsLeft = n + 1) (hm : b.moveSew w.forward = none) :
    b.stepPhase = (b.endOpBase .failed OpFailures.none, none) := by
  unfold Blocks.stepPhase
  rw [h]
  dsimp only
  rw [hasked, hn, hm]
  rfl

theorem Blocks.stepPhase_stays {b' : Blocks} {n : Nat} (h : b.rc.op = some ⟨tag, base, .repo w⟩)
    (hasked : w.pauseAsked = false) (hn : w.stepsLeft = n + 1) (hm : b.moveSew w.forward = some b')
    (ht : b'.travel .step (b'.ds.posBefore b'.ds.sew) = none) :
    b.stepPhase = (b'.endOpBase .failed OpFailures.none, none) := by
  unfold Blocks.stepPhase
  rw [h]
  dsimp only
  rw [hasked, hn, hm]
  dsimp only
  rw [ht]
  rfl

theorem Blocks.stepPhase_moves {b' b'' : Blocks} {n : Nat} (h : b.rc.op = some ⟨tag, base, .repo w⟩)
    (hasked : w.pauseAsked = false) (hn : w.stepsLeft = n + 1) (hm : b.moveSew w.forward = some b')
    (ht : b'.travel .step (b'.ds.posBefore b'.ds.sew) = some b'') :
    b.stepPhase = (b''.setWork (.repo { w with stepsLeft := n }),
      if b''.fc.move.isNone then some .step else none) := by
  unfold Blocks.stepPhase
  rw [h]
  dsimp only
  rw [hasked, hn, hm]
  dsimp only
  rw [ht]
  rfl

theorem Blocks.travel_rc {b b' : Blocks} {o : MoveOwner} {rel : Option Pos}
    (h : b.travel o rel = some b') : b'.rc = b.rc := by
  unfold Blocks.travel at h
  split at h
  · split_ifs at h
    cases h
    rfl
  · cases h

/-- A stage of the stepping is its last, or leaves one step fewer (R83). -/
theorem Blocks.stepPhase_next (h : b.rc.op = some ⟨tag, base, .repo w⟩) :
    b.stepPhase.2 = none ∨ ∃ n, w.stepsLeft = n + 1 ∧ b.stepPhase.2 = some .step
      ∧ b.stepPhase.1.rc.op = some ⟨tag, base, .repo { w with stepsLeft := n }⟩ := by
  by_cases hends : w.pauseAsked = true ∨ w.stepsLeft = 0
  · rw [Blocks.stepPhase_ends h hends]
    exact .inl rfl
  obtain ⟨hasked, hleft⟩ := not_or.mp hends
  obtain ⟨n, hn⟩ := Nat.exists_eq_succ_of_ne_zero hleft
  have running : w.pauseAsked = false := Bool.eq_false_iff.mpr hasked
  cases hm : b.moveSew w.forward with
  | none =>
    rw [Blocks.stepPhase_blocked h running hn hm]
    exact .inl rfl
  | some b' =>
    cases ht : b'.travel .step (b'.ds.posBefore b'.ds.sew) with
    | none =>
      rw [Blocks.stepPhase_stays h running hn hm ht]
      exact .inl rfl
    | some b'' =>
      obtain ⟨-, -, -, -, -, hrc⟩ := Blocks.moveSew_keeps hm
      have op : b''.rc.op = some ⟨tag, base, .repo w⟩ := by
        rw [Blocks.travel_rc ht, hrc]
        exact h
      rw [Blocks.stepPhase_moves h running hn hm ht]
      by_cases hmove : b''.fc.move.isNone = true
      · refine .inr ⟨n, hn, if_pos hmove, ?_⟩
        simp only [Blocks.setWork, op, Option.map_some]
      · exact .inl (if_neg hmove)

/-- More stages than there are steps change nothing (R83). -/
theorem Blocks.follow_step_enough : ∀ (n : Nat) (b : Blocks) (w : RepoWork) (k k' : Nat),
    b.rc.op = some ⟨tag, base, .repo w⟩ → w.stepsLeft = n → n < k → n < k' →
      Blocks.follow k .step b = Blocks.follow k' .step b := by
  intro n
  induction n with
  | zero =>
    intro b w k k' h hn hk hk'
    obtain ⟨k, rfl⟩ := Nat.exists_eq_succ_of_ne_zero (Nat.ne_of_gt hk)
    obtain ⟨k', rfl⟩ := Nat.exists_eq_succ_of_ne_zero (Nat.ne_of_gt hk')
    have last : (b.phase .step).2 = none := by
      rw [Blocks.phase, Blocks.stepPhase_ends h (.inr hn)]
    rw [Blocks.follow_end _ _ _ last, Blocks.follow_end _ _ _ last]
  | succ n ih =>
    intro b w k k' h hn hk hk'
    obtain ⟨k, rfl⟩ := Nat.exists_eq_succ_of_ne_zero (Nat.ne_of_gt (Nat.zero_lt_of_lt hk))
    obtain ⟨k', rfl⟩ := Nat.exists_eq_succ_of_ne_zero (Nat.ne_of_gt (Nat.zero_lt_of_lt hk'))
    rcases Blocks.stepPhase_next h with hlast | ⟨m, hm, hnext, hop⟩
    · rw [Blocks.follow_end _ .step b hlast, Blocks.follow_end _ .step b hlast]
    · rw [Blocks.follow_on _ .step .step b hnext, Blocks.follow_on _ .step .step b hnext]
      exact ih _ _ _ _ hop (by simp only; omega) (by omega) (by omega)

theorem Blocks.stages_steps (h : b.rc.op = some ⟨tag, base, .repo w⟩) : w.stepsLeft + 1 < b.stages := by
  have left : b.stepsLeft = w.stepsLeft := by rw [Blocks.stepsLeft, h]
  unfold Blocks.stages
  omega

/-- A step with nothing to travel leads to the next within the stage (R83). -/
theorem Blocks.go_step_on {n : Nat} (h : b.rc.op = some ⟨tag, base, .repo w⟩)
    (hn : w.stepsLeft = n + 1) (hnext : b.stepPhase.2 = some .step)
    (hop : b.stepPhase.1.rc.op = some ⟨tag, base, .repo { w with stepsLeft := n }⟩) :
    b.go .step = b.stepPhase.1.go .step := by
  have enough := Blocks.stages_steps h
  have enough' := Blocks.stages_steps hop
  obtain ⟨k, hk⟩ := Nat.exists_eq_succ_of_ne_zero (Nat.ne_of_gt (Nat.zero_lt_of_lt enough))
  rw [Blocks.go, hk, Blocks.follow_on _ .step .step b hnext]
  exact Blocks.follow_step_enough n _ _ _ _ hop rfl (by omega) (by simp only at enough'; omega)

theorem Blocks.go_step_end (r : Blocks) (h : b.stepPhase = (r, none)) : b.go .step = r := by
  rw [Blocks.go_end .step b (by rw [Blocks.phase, h]), Blocks.phase, h]

/-! ## Reconciliation, and the change it begins -/

theorem Blocks.reconcilePhase_color (b : Blocks) (r : StoredRecord)
    (hr : b.ds.record b.ds.sew = some r) (hk : r.kind = .color) :
    b.reconcilePhase = (b.goto .changing none).changePhase r.slot b.sewingScope
      (.recordDriven b.ds.sew) := by
  obtain ⟨kind, dx, dy, slot, rel, after⟩ := r
  cases hk
  unfold Blocks.reconcilePhase
  rw [hr]

theorem Blocks.reconcilePhase_other (b : Blocks) (h : b.ds.hasKind b.ds.sew .color = false) :
    b.reconcilePhase = match b.rc.slotInEffect with
      | some slot => if b.needlesDiffer slot then
          (b.goto .changing none).changePhase slot b.sewingScope (.reconciliation b.ds.sew)
        else (b, some .start)
      | none => (b, some .start) := by
  unfold Blocks.reconcilePhase
  split
  · next hr => simp [Ds.hasKind, hr] at h
  · rfl

/-- The heads a change moves (R107). -/
def Blocks.movedBy (b : Blocks) (slot : Nat) (scope : HeadId → Bool) : Eight Bool :=
  Eight.tabulate fun h => b.configured h && scope h
    && (b.hu.get h).commanded ((planNeedle b.tp slot h).getD 0)

/-- A change begun (R107). -/
def Blocks.changeBegun (b : Blocks) (slot : Nat) (scope : HeadId → Bool) (kind : ChangeKind) : Blocks :=
  { b with
    hu := Eight.tabulate fun h =>
      if (b.movedBy slot scope).get h then
        (b.hu.get h).moveTo ((planNeedle b.tp slot h).getD 0) b.cf.settings.selectorTimeout
      else b.hu.get h
    rc.change := some ⟨slot, kind, b.movedBy slot scope, false, false⟩ }

theorem Blocks.changePhase_begins (b : Blocks) (slot : Nat) (scope : HeadId → Bool) (kind : ChangeKind)
    (e : PlanEntry) (h : planEntry b.tp slot = some e) :
    b.changePhase slot scope kind = (b.changeBegun slot scope kind, some .changeCheck) := by
  unfold Blocks.changePhase Blocks.beginChange
  rw [h]
  rfl

theorem Blocks.changePhase_noPlan (b : Blocks) (slot : Nat) (scope : HeadId → Bool) (kind : ChangeKind)
    (h : planEntry b.tp slot = none) :
    b.changePhase slot scope kind = (b.noPlanStop slot kind.index, none) := by
  unfold Blocks.changePhase Blocks.beginChange
  rw [h]

theorem planNeedle_of_entry {tp : List PlanEntry} {slot : Nat} {e : PlanEntry} {h : HeadId} {m : Nat}
    (he : planEntry tp slot = some e) (hm : e.needles[h.num - 1]? = some m) :
    planNeedle tp slot h = some m := by
  rw [planNeedle, he]
  exact hm

/-- A head in the scope that stands at another needle is moved (R100, R107). -/
theorem Blocks.changeBegun_moves (b : Blocks) {slot : Nat} {scope : HeadId → Bool} (kind : ChangeKind)
    {h : HeadId} {n m : Nat} (hconf : h.num ≤ b.cf.config.headCount) (hscope : scope h = true)
    (hsel : (b.hu.get h).selector = .atNeedle n) (hm : planNeedle b.tp slot h = some m) (hne : n ≠ m) :
    (b.movedBy slot scope).get h = true
      ∧ (b.changeBegun slot scope kind).hu.get h = { b.hu.get h with
        selector := .moving m n (max m n - min m n)
        selTimer := some b.cf.settings.selectorTimeout } := by
  have moved : (b.movedBy slot scope).get h = true := by
    unfold Blocks.movedBy
    rw [Eight.get_tabulate, hscope, hm]
    simp [Blocks.configured, hconf, Head.commanded, hsel, hne]
  refine ⟨moved, (Eight.get_tabulate _ h).trans ?_⟩
  rw [if_pos moved, hm]
  simp only [Head.moveTo, hsel, Option.getD_some, if_neg hne]

/-- While a moved head is under way the change goes on (R108). -/
theorem Blocks.changeCheckPhase_waits {b : Blocks} {c : Change} {h : HeadId} {m n l : Nat}
    (hc : b.rc.change = some c) (hmoved : c.moved.get h = true)
    (hsel : (b.hu.get h).selector = .moving m n l) : b.changeCheckPhase = (b, none) := by
  have moving : b.changeMoving c = true := by
    unfold Blocks.changeMoving
    rw [List.any_eq_true]
    refine ⟨h, by cases h <;> decide, ?_⟩
    rw [hmoved, hsel]
    rfl
  unfold Blocks.changeCheckPhase
  rw [hc]
  dsimp only
  rw [if_pos moving]

/-- A change that moves a head is in flight (R107, R108). -/
theorem Blocks.changeBegun_checks (b : Blocks) {slot : Nat} {scope : HeadId → Bool} (kind : ChangeKind)
    {h : HeadId} {n m : Nat} (hconf : h.num ≤ b.cf.config.headCount) (hscope : scope h = true)
    (hsel : (b.hu.get h).selector = .atNeedle n) (hm : planNeedle b.tp slot h = some m) (hne : n ≠ m) :
    (b.changeBegun slot scope kind).phase .changeCheck = (b.changeBegun slot scope kind, none) := by
  obtain ⟨hmoved, hhead⟩ := b.changeBegun_moves kind hconf hscope hsel hm hne
  exact Blocks.changeCheckPhase_waits rfl hmoved (by rw [hhead])

/-- A SEWING head at another needle makes the needles differ (R71). -/
theorem Blocks.needlesDiffer_of (b : Blocks) {slot : Nat} {h : HeadId} {n m : Nat}
    (hconf : h.num ≤ b.cf.config.headCount) (hsews : (b.hu.get h).state = .sewing)
    (hsel : (b.hu.get h).selector = .atNeedle n) (hm : planNeedle b.tp slot h = some m) (hne : n ≠ m) :
    b.needlesDiffer slot = true := by
  unfold Blocks.needlesDiffer
  rw [List.any_eq_true]
  refine ⟨h, by cases h <;> decide, ?_⟩
  rw [hm]
  simp [Blocks.configured, hconf, hsews, hsel, hne]

theorem Blocks.go_one {b : Blocks} {p : Phase} {r : Blocks} (h : b.phase p = (r, none)) :
    b.go p = r := by
  rw [Blocks.go_end p b (by rw [h]), h]

/-- Two stages in one step. -/
theorem Blocks.go_two {b b' r : Blocks} {p q : Phase} (h : b.phase p = (b', some q))
    (hend : b'.phase q = (r, none)) : b.go p = r := by
  obtain ⟨n, hn⟩ := b.stages_pos
  rw [Blocks.go, hn, Blocks.follow_on _ p q b (by rw [h]), h]
  exact (Blocks.follow_end _ q b' (by rw [hend])).trans (by rw [hend])

/-- A reconciliation that moves a head (R71, R107): the run is CHANGING. -/
theorem Blocks.go_reconcile_changes (b : Blocks) {slot : Nat} {e : PlanEntry} {h : HeadId} {n m : Nat}
    (hslot : (∃ r, b.ds.record b.ds.sew = some r ∧ r.kind = .color ∧ r.slot = slot)
      ∨ (b.ds.hasKind b.ds.sew .color = false ∧ b.rc.slotInEffect = some slot))
    (he : planEntry b.tp slot = some e) (hconf : h.num ≤ b.cf.config.headCount)
    (hsews : (b.hu.get h).state = .sewing) (hsel : (b.hu.get h).selector = .atNeedle n)
    (hm : e.needles[h.num - 1]? = some m) (hne : n ≠ m) :
    b.go .reconcile = (b.goto .changing none).changeBegun slot b.sewingScope
      (if b.ds.hasKind b.ds.sew .color then .recordDriven b.ds.sew
        else .reconciliation b.ds.sew) := by
  have needle := planNeedle_of_entry he hm
  have scope : b.sewingScope h = true := by simp [Blocks.sewingScope, hsews]
  have began (kind : ChangeKind) := (b.goto .changing none).changePhase_begins slot b.sewingScope kind
    e (by rw [Blocks.goto_tp]; exact he)
  have waits (kind : ChangeKind) := (b.goto .changing none).changeBegun_checks (slot := slot)
    (scope := b.sewingScope) (h := h) (n := n) (m := m) kind (by simpa using hconf) scope
    (by simpa using hsel) (by simpa using needle) hne
  have stage : b.reconcilePhase = ((b.goto .changing none).changeBegun slot b.sewingScope
      (if b.ds.hasKind b.ds.sew .color then .recordDriven b.ds.sew
        else .reconciliation b.ds.sew), some .changeCheck) := by
    rcases hslot with ⟨r, hr, hk, rfl⟩ | ⟨hno, hslot⟩
    · have color : b.ds.hasKind b.ds.sew .color = true := by simp [Ds.hasKind, hr, hk]
      rw [b.reconcilePhase_color r hr hk, began, color]
      rfl
    · rw [b.reconcilePhase_other hno, hslot]
      dsimp only
      rw [b.needlesDiffer_of hconf hsews hsel needle hne, if_pos rfl, began, hno]
      rfl
  exact Blocks.go_two stage (waits _)

/-! ## The shaft start after return travel -/

/-- The window of the plan depends on the store, the ranges and the pin alone (R56). -/
theorem Blocks.cyclesAhead_congr {b b' : Blocks} (hds : b'.ds = b.ds) (hrt : b'.rt = b.rt)
    (hcf : b'.cf = b.cf) (plan : PlanMode) : ∀ n i : Nat,
      b'.cyclesAhead plan n i = b.cyclesAhead plan n i := by
  have pin : b'.pinStop = b.pinStop := by rw [Blocks.pinStop, Blocks.e, hrt, hcf]; rfl
  have points (i : Nat) : b'.points plan i = b.points plan i := by
    cases plan <;> simp only [Blocks.points, hds, pin]
  intro n
  induction n with
  | zero => exact fun _ => rfl
  | succ n ih =>
    intro i
    simp only [Blocks.cyclesAhead, points, hds, ih]

theorem Blocks.planK_congr {b b' : Blocks} (hds : b'.ds = b.ds) (hrt : b'.rt = b.rt)
    (hcf : b'.cf = b.cf) (plan : PlanMode) (i : Nat) : b'.planK plan i = b.planK plan i :=
  Blocks.cyclesAhead_congr hds hrt hcf plan 6 i

/-- With a cycle ahead no COLOR stands at the index (R56). -/
theorem Blocks.noColor_of_planK {b : Blocks} {plan : PlanMode} {i : Nat} (h : b.planK plan i ≠ 0) :
    b.ds.hasKind i .color = false := by
  rw [Bool.eq_false_iff]
  intro hcolor
  have stands : (b.points plan i).any = true := by
    cases plan <;> simp [StopPoints.any, Blocks.points, hcolor]
  refine h ?_
  rw [Blocks.planK, Blocks.cyclesAhead, if_pos stands]

theorem Fc.beginWaiting_offPosition (l : List CycleMove) : ∀ f : Fc,
    (Fc.beginWaiting l f).offPosition = f.offPosition := by
  induction l with
  | nil => exact fun _ => rfl
  | cons m ms ih =>
    intro f
    unfold Fc.beginWaiting
    split_ifs
    · exact ih _
    · rfl

/-- The shaft start leaves the off-position flag (R72). -/
theorem Blocks.startPhase_offPosition {b : Blocks} (hresume : b.rc.resume = none) (h : mayStart b) :
    b.startPhase.1.fc.offPosition = b.fc.offPosition := by
  obtain ⟨hsc, hsel, hax, hbusy, hk⟩ := h
  obtain ⟨r, hr⟩ := b.record_of_planK .run b.ds.sew hk
  have started := b.startRequest_started .run b.ds.sew r
    ⟨hsc, hsel, b.fc.ready_of_axes hax, hbusy⟩ hk hr
  rw [Blocks.startPhase_plain hresume, started]
  dsimp only
  rw [← Blocks.goto_eq_inState, Blocks.goto_fc]
  show (if r.kind = .stitch ∨ r.kind = .jump then b.fc.cycleMove _ _ else b.fc).offPosition = _
  split_ifs
  · exact Fc.beginWaiting_offPosition _ _
  · rfl

/-- A start that may be made, after a RUN from IDLE or PAUSED or without one (R72). -/
theorem Blocks.startPhase_starts {b : Blocks} (h : mayStart b) :
    b.startPhase.2 = none ∧ runsOn b b.startPhase.1
      ∧ b.startPhase.1.fc.offPosition = b.fc.offPosition := by
  by_cases hresume : b.rc.resume = none
  · obtain ⟨hend, hruns⟩ := Blocks.startPhase_runsOn hresume h
    exact ⟨hend, hruns, Blocks.startPhase_offPosition hresume h⟩
  · rw [Blocks.startPhase_resumes hresume]
    obtain ⟨hend, hruns⟩ := Blocks.startPhase_runsOn (b := { b with
      rc.resume := none
      tm := Eight.tabulate (fun h =>
        if takesIn b .run h then { b.tm.get h with owed := true } else b.tm.get h) }) rfl h
    exact ⟨hend, hruns, Blocks.startPhase_offPosition (b := { b with
      rc.resume := none
      tm := Eight.tabulate (fun h =>
        if takesIn b .run h then { b.tm.get h with owed := true } else b.tm.get h) }) rfl h⟩

/-- Where the needles agree, the reconciliation leads to the shaft start (R71, R72). -/
theorem Blocks.go_reconcile_starts {b : Blocks} (h : mayStart b)
    (hneedles : ∀ slot, b.rc.slotInEffect = some slot → b.needlesDiffer slot = false) :
    runsOn b (b.go .reconcile) ∧ (b.go .reconcile).fc.offPosition = b.fc.offPosition := by
  have agree : b.phase .reconcile = (b, some .start) := by
    show b.reconcilePhase = _
    obtain ⟨-, -, -, -, hk⟩ := h
    rw [b.reconcilePhase_other (Blocks.noColor_of_planK hk)]
    cases hslot : b.rc.slotInEffect with
    | none => rfl
    | some slot =>
      dsimp only
      rw [hneedles slot hslot]
      rfl
  obtain ⟨hend, hruns, hflag⟩ := Blocks.startPhase_starts h
  have starts : b.phase .start = (b.startPhase.1, none) := Prod.ext rfl hend
  rw [Blocks.go_two agree starts]
  exact ⟨hruns, hflag⟩

/-! ## Patch travel and the patch change -/

variable {v : PatchWork}

theorem Blocks.patchWork_of (h : b.rc.op = some ⟨tag, base, .patch v⟩) : b.patchWork = some v := by
  rw [Blocks.patchWork, h]

/-- A patch run that ends with a result (R145, R146). -/
theorem Blocks.patchEnd_ended {x : Blocks} (hrc : x.rc = b.rc) (hfc : x.fc = b.fc) (hrt : x.rt = b.rt)
    (h : b.rc.op = some ⟨tag, base, .patch v⟩) (result : OpResult) (start : Nat) :
    patchEnded b (x.patchEnd v result start) tag base v result start := by
  have rc := Blocks.endOpBase_rc ((x.patchSettle v start).patchMonitorOff v) ⟨tag, base, .patch v⟩
    (by rw [Blocks.patchMonitorOff_rc, Blocks.patchSettle_rc, hrc]; exact h) result OpFailures.none
  rw [Blocks.patchMonitorOff_rc, Blocks.patchSettle_rc, hrc] at rc
  have rt : (x.patchEnd v result start).rt = b.rt.update v.head (shrinkList v start) := by
    rw [Blocks.patchEnd, Blocks.endOpBase_rt, Blocks.patchMonitorOff_rt, ← hrt]
    exact x.setRanges_rt _
  rw [patchEnded, show (x.patchEnd v result start).rc = _ from rc]
  refine ⟨rfl, rfl, rfl, rfl, rfl, rfl, ?_, fun g => ?_, fun g hg => ?_, ?_⟩
  · rw [Blocks.patchEnd, Blocks.endOpBase_fc, Blocks.patchMonitorOff_fc, ← hfc]
    simp [Blocks.patchSettle]
  · rw [Blocks.patchEnd, Blocks.endOpBase_hu, Blocks.patchMonitorOff_hu]
    simp [Blocks.patchSettle]
  · rw [rt, Eight.get_update, if_neg hg]
  · rw [rt, Eight.get_update, if_pos rfl, shrinkList_eq_shrunk]

theorem PatchWork.newStart_failed (v : PatchWork) : v.newStart .failed = failedStart v := by
  unfold PatchWork.newStart failedStart
  cases v.breakStart <;> simp

theorem PatchWork.newStart_stopped (v : PatchWork) : v.newStart .stopped = v.p := by
  unfold PatchWork.newStart
  cases v.breakStart <;> simp

/-- A NO_PLAN of a patch run written: its entry and FAULT (R150, R156). -/
def Blocks.noPlanWritten (b : Blocks) (slot i : Nat) : Blocks :=
  { b with
    fl := b.fl.write { entryOf b .noPlan .failed none (some i) with slot := some slot }
    ru := b.ru.raise .fault }

/-- NO_PLAN in a patch run is written as FAILED and ends it (R142, R152). -/
theorem Blocks.noPlanStop_patch (h : b.rc.op = some ⟨tag, base, .patch v⟩)
    (hrun : b.rc.runState = .patch) (slot i : Nat) :
    b.noPlanStop slot i = (b.noPlanWritten slot i).patchEnd v .failed v.p := by
  have action : b.action (.noPlan slot i) = .failed := by simp [Blocks.action, hrun]
  have entry : b.entry (.noPlan slot i) =
      { entryOf b .noPlan .failed none (some i) with slot := some slot } := by
    unfold Blocks.entry
    rw [action]
    rfl
  have taken : b.take (.noPlan slot i) = b.noPlanWritten slot i := by
    rw [b.take_failed _ action, b.writeEntry_headless _ rfl, entry]
    unfold Blocks.countFailure Blocks.raise
    dsimp only
    rw [h]
    rfl
  have run : (b.noPlanWritten slot i).rc.runState = .patch := hrun
  have work : (b.noPlanWritten slot i).patchWork = some v := Blocks.patchWork_of h
  unfold Blocks.noPlanStop
  rw [taken]
  dsimp only
  rw [run, work]

/-- Where p stands at no MARK it stays (R143). -/
theorem Blocks.pastMarks_here (b : Blocks) (e i : Nat) (h : b.ds.hasKind i .mark = false) :
    b.pastMarks e i = i := by
  unfold Blocks.pastMarks
  cases b.ds.records.length with
  | zero => rfl
  | succ n => rw [Ds.skipMarks, if_neg (by rw [h]; exact fun hm => nomatch hm.2)]

theorem Blocks.setWork_same (h : b.rc.op = some ⟨tag, base, .patch v⟩) : b.setWork (.patch v) = b := by
  unfold Blocks.setWork
  rw [h, Option.map_some]
  simp only [← h]

/-- The test before a start of a patch run, with p at no MARK (R143). -/
theorem Blocks.patchTestPhase_here {r : StoredRecord} (h : b.rc.op = some ⟨tag, base, .patch v⟩)
    (hr : b.ds.record v.p = some r) (hmark : r.kind ≠ .mark) (hp : v.p ≠ v.b) :
    b.patchTestPhase = if r.kind = .color then
        b.changePhase r.slot (fun g => g == v.head) (.recordDriven v.p)
      else match (b.startRequest (.patch v.b) v.p).2 with
        | .started => ((b.startRequest (.patch v.b) v.p).1, none)
        | _ => ((b.startRequest (.patch v.b) v.p).1.patchEnd v .failed v.p, none) := by
  have noMark : b.ds.hasKind v.p .mark = false := by simp [Ds.hasKind, hr, hmark]
  obtain ⟨kind, dx, dy, slot, rel, after⟩ := r
  unfold Blocks.patchTestPhase
  rw [Blocks.patchWork_of h]
  dsimp only
  rw [b.pastMarks_here _ _ noMark, Blocks.setWork_same h, if_neg hp, hr]
  cases kind <;> rfl

/-- The patch change: the slot of the patch, or that of a COLOR at p (R142, R143). -/
def patchSlot (b : Blocks) (v : PatchWork) (slot : Nat) : Prop :=
  v.slot = some slot ∨ (v.slot = none ∧ v.p ≠ v.b
    ∧ ∃ r, b.ds.record v.p = some r ∧ r.kind = .color ∧ r.slot = slot)

/-- The kind of the patch change (R142, R143). -/
def PatchWork.changeKind (v : PatchWork) : ChangeKind :=
  if v.slot = none then .recordDriven v.p else .reconciliation v.p

theorem PatchWork.changeKind_index (v : PatchWork) : v.changeKind.index = v.p := by
  unfold PatchWork.changeKind
  split_ifs <;> rfl

/-- Patch travel completed with a slot to change to leads to that change (R142, R143). -/
theorem Blocks.patchArrived_changes {slot : Nat} (h : b.rc.op = some ⟨tag, base, .patch v⟩)
    (hslot : patchSlot b v slot) (r : Blocks) (q : Option Phase)
    (hphase : b.changePhase slot (fun g => g == v.head) v.changeKind = (r, q))
    (hq : q = none ∨ q = some .changeCheck ∧ r.phase .changeCheck = (r, none)) :
    b.patchArrived v = r := by
  unfold Blocks.patchArrived
  rcases hslot with hsome | ⟨hnone, hp, x, hx, hk, rfl⟩
  · have kind : v.changeKind = .reconciliation v.p := if_neg (by rw [hsome]; nofun)
    rw [hsome]
    dsimp only
    rw [← kind, hphase]
    rcases hq with rfl | ⟨rfl, hchecks⟩
    · rfl
    · exact Blocks.go_one hchecks
  · have kind : v.changeKind = .recordDriven v.p := if_pos hnone
    have test : b.phase .patchTest = (r, q) := by
      show b.patchTestPhase = _
      rw [Blocks.patchTestPhase_here h hx (by rw [hk]; nofun) hp, if_pos hk, ← kind, hphase]
    rw [hnone]
    dsimp only
    rcases hq with rfl | ⟨rfl, hchecks⟩
    · exact Blocks.go_one test
    · exact Blocks.go_two test hchecks

/-- The patch change of a head at another needle, and of no other head (R107, R142). -/
theorem Blocks.changeBegun_patch {slot n m : Nat} {e : PlanEntry} (kind : ChangeKind)
    (he : planEntry b.tp slot = some e) (hconf : v.head.num ≤ b.cf.config.headCount)
    (hsel : (b.hu.get v.head).selector = .atNeedle n)
    (hm : e.needles[v.head.num - 1]? = some m) (hne : n ≠ m) :
    b.changeBegun slot (fun g => g == v.head) kind = { b with
      rc.change := some ⟨slot, kind, (Eight.const false).set v.head true, false, false⟩
      hu := b.hu.set v.head { b.hu.get v.head with
        selector := .moving m n (max m n - min m n)
        selTimer := some b.cf.settings.selectorTimeout } } := by
  obtain ⟨hmoved, hhead⟩ := b.changeBegun_moves (slot := slot) (scope := fun g => g == v.head) kind hconf
    (beq_self_eq_true _) hsel (planNeedle_of_entry he hm) hne
  have others (g : HeadId) (hg : g ≠ v.head) :
      (b.movedBy slot (fun g => g == v.head)).get g = false := by
    unfold Blocks.movedBy
    rw [Eight.get_tabulate]
    simp [hg]
  have moved : b.movedBy slot (fun g => g == v.head) = (Eight.const false).set v.head true := by
    refine Eight.ext_get fun g => ?_
    by_cases hg : g = v.head
    · rw [hg, hmoved, Eight.get_set_same]
    · rw [others g hg, Eight.get_set_other _ _ _ _ hg, Eight.get_const]
  have heads : (b.changeBegun slot (fun g => g == v.head) kind).hu = b.hu.set v.head
      { b.hu.get v.head with
        selector := .moving m n (max m n - min m n)
        selTimer := some b.cf.settings.selectorTimeout } := by
    refine Eight.ext_get fun g => ?_
    by_cases hg : g = v.head
    · rw [hg, hhead, Eight.get_set_same]
    · rw [Eight.get_set_other _ _ _ _ hg]
      exact (Eight.get_tabulate _ g).trans (if_neg (by rw [others g hg]; nofun))
  rw [← heads, ← moved]
  rfl

/-! ## The start of a patch run -/

/-- The patch head stands at its needle of the patch slot, if there is one (R142). -/
def atPatchNeedle (b : Blocks) (v : PatchWork) : Prop :=
  ∀ slot, v.slot = some slot → ∃ e n, planEntry b.tp slot = some e
    ∧ (b.hu.get v.head).selector = .atNeedle n ∧ e.needles[v.head.num - 1]? = some n

/-- A patch change that moves no head (R107). -/
theorem Blocks.changeBegun_still {slot n : Nat} {e : PlanEntry} (kind : ChangeKind)
    (he : planEntry b.tp slot = some e) (hsel : (b.hu.get v.head).selector = .atNeedle n)
    (hn : e.needles[v.head.num - 1]? = some n) :
    b.changeBegun slot (fun g => g == v.head) kind =
      { b with rc.change := some ⟨slot, kind, Eight.const false, false, false⟩ } := by
  have needle := planNeedle_of_entry he hn
  have still (g : HeadId) : (b.movedBy slot (fun g => g == v.head)).get g = false := by
    unfold Blocks.movedBy
    rw [Eight.get_tabulate]
    by_cases hg : g = v.head
    · rw [hg, needle]
      simp [Head.commanded, hsel]
    · simp [hg]
  have moved : b.movedBy slot (fun g => g == v.head) = Eight.const false :=
    Eight.ext_get fun g => by rw [still, Eight.get_const]
  have heads : (b.changeBegun slot (fun g => g == v.head) kind).hu = b.hu :=
    Eight.ext_get fun g => (Eight.get_tabulate _ g).trans (if_neg (by rw [still g]; nofun))
  rw [← moved]
  conv_rhs => rw [← heads]
  rfl

/-- The patch run at its first test, its patch change done (R108, R142). -/
def Blocks.patchReady (b : Blocks) (v : PatchWork) : Blocks :=
  { b with
    rc.change := if v.slot.isSome then none else b.rc.change
    tm := b.tm.update v.head fun m => { m with owed := m.owed || v.slot.isSome } }

theorem Blocks.patchReady_noSlot (hslot : v.slot = none) : b.patchReady v = b := by
  have monitors : (b.tm.update v.head fun m => { m with owed := m.owed || v.slot.isSome }) = b.tm := by
    refine Eight.ext_get fun g => ?_
    rw [Eight.get_update, hslot]
    split_ifs
    · simp
    · rfl
  rw [Blocks.patchReady, monitors, hslot]
  rfl

/-- A patch change that ends done leads to the test of the run (R108, R142). -/
theorem Blocks.changeCheckPhase_done {c : Change} (h : b.rc.op = some ⟨tag, base, .patch v⟩)
    (hrun : b.rc.runState = .patch) (hc : b.rc.change = some c) (hstill : b.changeMoving c = false)
    (hall : c.stopAll = false) (hpaused : c.paused = false) :
    b.changeCheckPhase =
      ((({ b with rc.change := none } : Blocks).oweMoved c).patchChangeDone v c, some .patchTest) := by
  have work : ({ b with rc.change := none } : Blocks).patchWork = some v := Blocks.patchWork_of h
  unfold Blocks.changeCheckPhase
  rw [hc]
  dsimp only
  rw [hstill, if_neg (by nofun)]
  split
  · next hw =>
    cases work.symm.trans hw
    rw [hall, hpaused]
    rfl
  · next hno => exact absurd work (hno v hrun)

/-- A patch change that moves no head ends at once, the patch head owing a settle (R108, R142). -/
theorem Blocks.changeCheckPhase_patch {slot : Nat} (h : b.rc.op = some ⟨tag, base, .patch v⟩)
    (hrun : b.rc.runState = .patch) (hslot : v.slot = some slot) (i : Nat) :
    ({ b with rc.change := some ⟨slot, .reconciliation i, Eight.const false, false, false⟩ } :
      Blocks).changeCheckPhase = (b.patchReady v, some .patchTest) := by
  have still : ({ b with
      rc.change := some ⟨slot, .reconciliation i, Eight.const false, false, false⟩ } :
      Blocks).changeMoving ⟨slot, .reconciliation i, Eight.const false, false, false⟩ = false := by
    unfold Blocks.changeMoving
    simp
  have owed : ({ b with rc.change := none } : Blocks).oweMoved
      ⟨slot, .reconciliation i, Eight.const false, false, false⟩ = { b with rc.change := none } := by
    have monitors : (Eight.tabulate fun g => if (Eight.const false).get g = true then
        { b.tm.get g with owed := true } else b.tm.get g) = b.tm :=
      Eight.ext_get fun g => by simp
    unfold Blocks.oweMoved
    dsimp only
    rw [monitors]
  rw [Blocks.changeCheckPhase_done (b := { b with
      rc.change := some ⟨slot, .reconciliation i, Eight.const false, false, false⟩ }) h hrun rfl still
    rfl rfl]
  refine Prod.ext ((congrArg (fun x : Blocks => x.patchChangeDone v
    ⟨slot, .reconciliation i, Eight.const false, false, false⟩) owed).trans ?_) rfl
  unfold Blocks.patchReady Blocks.patchChangeDone Blocks.modMonitor
  simp [hslot]

/-- Patch travel completed with the head at its needle leads to the first test of the run (R142). -/
theorem Blocks.patchArrived_tests {r : Blocks} (h : b.rc.op = some ⟨tag, base, .patch v⟩)
    (hrun : b.rc.runState = .patch) (hneedle : atPatchNeedle b v)
    (htest : (b.patchReady v).phase .patchTest = (r, none)) : b.patchArrived v = r := by
  unfold Blocks.patchArrived
  cases hslot : v.slot with
  | none =>
    rw [Blocks.patchReady_noSlot hslot] at htest
    exact Blocks.go_one htest
  | some slot =>
    obtain ⟨e, n, he, hsel, hn⟩ := hneedle slot hslot
    dsimp only
    rw [b.changePhase_begins slot _ _ e he, Blocks.changeBegun_still _ he hsel hn]
    exact Blocks.go_two (Blocks.changeCheckPhase_patch h hrun hslot v.p) htest

/-- What the first start of a patch run leaves (R50, R143). -/
structure PatchStarted (b t : Blocks) (v : PatchWork) (r : StoredRecord) : Prop where
  rc : t.rc = { b.rc with change := if v.slot.isSome then none else b.rc.change }
  state : t.sc.state = .turning
  plan : t.sc.plan = some (.patch v.b)
  cycle : t.sc.cycle.map (·.index) = some v.p
  ds : t.ds = b.ds
  tm : t.tm.get v.head = monitorStarted
    { b.tm.get v.head with owed := (b.tm.get v.head).owed || v.slot.isSome }
    b.cf.settings.settleCode true
    (if r.kind = .stitch then some ⟨0, classOf r.dx r.dy⟩ else none)

/-- The shaft starts at p where it may (R49, R143). -/
theorem Blocks.patchReady_starts {r : StoredRecord} (h : b.rc.op = some ⟨tag, base, .patch v⟩)
    (hr : b.ds.record v.p = some r) (hmark : r.kind ≠ .mark) (hcolor : r.kind ≠ .color)
    (hp : v.p ≠ v.b) (hsc : b.sc.state = .stopped) (hsel : b.selectorMoving = false)
    (hax : axesReady b) (hbusy : b.fc.busy = false) (hk : b.planK (.patch v.b) v.p ≠ 0) :
    ((b.patchReady v).phase .patchTest).2 = none
      ∧ PatchStarted b ((b.patchReady v).phase .patchTest).1 v r := by
  have here : (b.patchReady v).cycleIndex (.patch v.b) v.p = v.p :=
    (b.patchReady v).pastMarks_here _ _ (by simp [Ds.hasKind, Blocks.patchReady, hr, hmark])
  have window : (b.patchReady v).planK (.patch v.b) v.p ≠ 0 := by
    rw [Blocks.planK_congr (b := b) (b' := b.patchReady v) rfl rfl rfl]
    exact hk
  have started := (b.patchReady v).startRequest_started (.patch v.b) v.p r
    ⟨hsc, hsel, b.fc.ready_of_axes hax, hbusy⟩ window (by rw [here]; exact hr)
  have test := Blocks.patchTestPhase_here (b := b.patchReady v) (v := v) h hr hmark hp
  rw [if_neg hcolor, started] at test
  have phase : (b.patchReady v).phase .patchTest = _ := test
  rw [phase]
  refine ⟨rfl, rfl, rfl, rfl, ?_, rfl, ?_⟩
  · dsimp only
    rw [here]
    rfl
  · have part : takesIn (b.patchReady v) (.patch v.b) v.head = true := by
      have work : (b.patchReady v).patchWork = some v := Blocks.patchWork_of h
      unfold takesIn
      rw [work]
      simp
    have monitor : (b.patchReady v).tm.get v.head =
        { b.tm.get v.head with owed := (b.tm.get v.head).owed || v.slot.isSome } :=
      (Eight.get_update ..).trans (if_pos rfl)
    obtain ⟨heads, -⟩ := (b.patchReady v).cycleStart_starts (.patch v.b) v.p r 0
    have began := (heads v.head).2
    rw [part, monitor] at began
    exact (congrArg (fun i => (((b.patchReady v).cycleStart (.patch v.b) i r 0).tm.get v.head))
      here).trans began

end Sys2Proof.Machine
end

section
/-!
SUPPORT. The end of a move, owner by owner (R33, R34, R36, R39, R70, R83, R84, R142, R144).
-/

namespace Sys2Proof.Machine

open Sys2Proof.Claims

/-! ## The end of a move at its owner -/

/-- The frame arrived. -/
def Blocks.arrived (b : Blocks) : Blocks := { b with fc := b.fc.arrive }

/-- The frame stopped short. -/
def Blocks.stoppedShort (b : Blocks) : Blocks := { b with fc := b.fc.stopShort }

variable {b : Blocks}

theorem Blocks.moveComplete_still (h : b.fc.move = none) : b.moveComplete = b := by
  unfold Blocks.moveComplete; rw [h]

theorem Blocks.moveStopped_still (h : b.fc.move = none) : b.moveStopped = b := by
  unfold Blocks.moveStopped; rw [h]

theorem Blocks.moveComplete_cycle {i : Nat} (h : b.fc.move = some ⟨.cycle i, false⟩) :
    b.moveComplete = { b with fc := Fc.beginWaiting b.fc.waiting b.fc.arrive } := by
  unfold Blocks.moveComplete; rw [h]; rfl

theorem Blocks.moveComplete_manual (h : b.fc.move = some ⟨.manual, false⟩) :
    b.moveComplete = b.arrived.endOpBase .ok OpFailures.none := by
  unfold Blocks.moveComplete; rw [h]; rfl

theorem Blocks.moveComplete_step (h : b.fc.move = some ⟨.step, false⟩) :
    b.moveComplete = b.arrived.go .step := by
  unfold Blocks.moveComplete; rw [h]; rfl

theorem Blocks.moveComplete_travel (h : b.fc.move = some ⟨.returnTravel, false⟩)
    (hrun : b.rc.runState = .travel) :
    b.moveComplete = ({ b.arrived with fc.offPosition := false } : Blocks).go .reconcile := by
  unfold Blocks.moveComplete Blocks.returned; rw [h]; dsimp only; rw [hrun]; rfl

theorem Blocks.moveComplete_reposition (h : b.fc.move = some ⟨.returnTravel, false⟩)
    (hrun : b.rc.runState = .reposition) :
    b.moveComplete = ({ b.arrived with fc.offPosition := false } : Blocks).go .step := by
  unfold Blocks.moveComplete Blocks.returned; rw [h]; dsimp only; rw [hrun]; rfl

theorem Blocks.moveComplete_patch (h : b.fc.move = some ⟨.patchTravel, false⟩) {w : PatchWork}
    (hw : b.patchWork = some w) : b.moveComplete = b.arrived.patchArrived w := by
  have work : b.arrived.patchWork = some w := hw
  unfold Blocks.moveComplete Blocks.patchTravelled; rw [h]; dsimp only
  rw [show ({ b with fc := b.fc.arrive } : Blocks).patchWork = some w from work]
  rfl

theorem Blocks.moveStopped_manual (h : b.fc.move = some ⟨.manual, true⟩) :
    b.moveStopped = b.stoppedShort.endOpBase .stopped OpFailures.none := by
  unfold Blocks.moveStopped; rw [h]; rfl

theorem Blocks.returnStopped_travel (hrun : b.rc.runState = .travel) :
    b.returnStopped = inState { b with rc.resume := none, rc.causes := ⟨false, false⟩ }
      .paused (some (if b.rc.causes.fault then .fault else .host)) := by
  unfold Blocks.returnStopped
  split
  · rfl
  · next h => exact absurd (hrun.symm.trans h) nofun
  · next h _ => exact absurd hrun h

theorem Blocks.moveStopped_travel (h : b.fc.move = some ⟨.returnTravel, true⟩)
    (hrun : b.rc.runState = .travel) :
    b.moveStopped = inState { b.stoppedShort with rc.resume := none, rc.causes := ⟨false, false⟩ }
      .paused (some (if b.rc.causes.fault then .fault else .host)) := by
  unfold Blocks.moveStopped; rw [h]; exact Blocks.returnStopped_travel (b := b.stoppedShort) hrun

theorem Blocks.moveStopped_reposition (h : b.fc.move = some ⟨.returnTravel, true⟩)
    (hrun : b.rc.runState = .reposition) :
    b.moveStopped = b.stoppedShort.endOpBase .stopped OpFailures.none := by
  unfold Blocks.moveStopped Blocks.returnStopped; rw [h]; dsimp only; rw [hrun]; rfl

theorem Blocks.moveStopped_patch (h : b.fc.move = some ⟨.patchTravel, true⟩) {w : PatchWork}
    (hw : b.patchWork = some w) : b.moveStopped = b.stoppedShort.patchStopped w := by
  unfold Blocks.moveStopped Blocks.patchTravelStopped; rw [h]; dsimp only
  rw [show ({ b with fc := b.fc.stopShort } : Blocks).patchWork = some w from hw]
  rfl

/-! ## The waiting cycle moves -/

/-- The first cycle move that waits begins; from off its target the others wait on (R34). -/
theorem Fc.beginWaiting_sent (f : Fc) (m : CycleMove) (ms : List CycleMove) (hready : f.ready = true)
    (hmove : f.move = none) (hoff : f.x.pos ≠ some m.target.x ∨ f.y.pos ≠ some m.target.y) :
    Fc.beginWaiting (m :: ms) f = { frameSent f (.cycle m.index) m.target with waiting := ms } := by
  rw [Fc.beginWaiting, hready, hmove, Option.isNone_none, Bool.and_self, if_pos rfl,
    Fc.depart_off _ _ _ hoff]
  cases ms with
  | nil => rfl
  | cons m' ms' =>
    rw [Fc.beginWaiting, if_neg]
    simp [frameSent]

/-! ## The steps of BACK and FWD, from the end of a move -/

section

variable {tag : Byte} {base : BaseState} {w : RepoWork}

theorem repoEnded_endOpBase {x : Blocks} (h : x.rc.op = some ⟨tag, base, .repo w⟩)
    (hcount : x.rc.opRecord.counter = b.rc.opRecord.counter) (r : OpResult) :
    repoEnded b (x.endOpBase r OpFailures.none) tag base w r := by
  have kind : (Work.repo w).kind = if w.forward then .fwd else .back := rfl
  rw [repoEnded, Blocks.endOpBase_rc x _ h, hcount, ← kind]
  exact ⟨rfl, rfl, rfl, rfl⟩

/-- The sew point moved by one (R22, R68). -/
def Blocks.sewMoved (b : Blocks) (forward : Bool) : Blocks :=
  if forward then b.advance
  else { b with ds.sew := b.ds.sew - 1, rc.slotInEffect := b.ds.slotBefore (b.ds.sew - 1) }

theorem Blocks.moveSew_some {forward : Bool}
    (h : if forward then b.ds.sew < b.ds.load else b.ds.tail < b.ds.sew) :
    b.moveSew forward = some (b.sewMoved forward)
      ∧ (b.sewMoved forward).ds.sew = if forward then b.ds.sew + 1 else b.ds.sew - 1 := by
  cases forward with
  | true =>
    obtain ⟨b', hb', hsew, -⟩ := b.moveSew_forward h
    have moved : b.moveSew true = some b.advance := if_pos h
    cases moved.symm.trans hb'
    exact ⟨moved, hsew⟩
  | false =>
    have h' : b.ds.tail < b.ds.sew := h
    refine ⟨(if_pos h').trans ?_, rfl⟩
    rw [Ds.stepBack, if_pos h']
    rfl

theorem Blocks.moveSew_none {forward : Bool}
    (h : if forward then b.ds.load ≤ b.ds.sew else b.ds.sew ≤ b.ds.tail) :
    b.moveSew forward = none := by
  cases forward with
  | true => exact if_neg (Nat.not_lt.mpr h)
  | false => exact if_neg (Nat.not_lt.mpr h)

theorem Blocks.sewMoved_keeps {forward : Bool}
    (hroom : if forward then b.ds.sew < b.ds.load else b.ds.tail < b.ds.sew) :
    (b.sewMoved forward).fc = b.fc ∧ (b.sewMoved forward).rc = { b.rc with
      slotInEffect := (b.sewMoved forward).ds.slotBefore (b.sewMoved forward).ds.sew } := by
  obtain ⟨hfc, -, -, -, -, hrc⟩ := Blocks.moveSew_keeps (Blocks.moveSew_some hroom).1
  exact ⟨hfc, hrc⟩

/-- What a stage of the stepping makes, the frame standing (R83). -/
structure StepStage (b : Blocks) (tag : Byte) (base : BaseState) (w : RepoWork) : Prop where
  /-- The stepping ends where a PAUSE came, or no step is left. -/
  ends : w.pauseAsked = true ∨ w.stepsLeft = 0 →
    b.go .step = b.endOpBase (if w.pauseAsked then .stopped else .ok) OpFailures.none
  /-- It fails where S may not move. -/
  blocked : ∀ n, w.pauseAsked = false → w.stepsLeft = n + 1 →
    (if w.forward then b.ds.load ≤ b.ds.sew else b.ds.sew ≤ b.ds.tail) →
    b.go .step = b.endOpBase .failed OpFailures.none
  /-- S moves, and the frame is sent after it. -/
  sent : ∀ n q, w.pauseAsked = false → w.stepsLeft = n + 1 →
    (if w.forward then b.ds.sew < b.ds.load else b.ds.tail < b.ds.sew) →
    ((b.sewMoved w.forward).ds.posBefore (b.sewMoved w.forward).ds.sew).map b.fc.origin.add = some q →
    b.fc.ready = true → standsOff b q →
    b.go .step = { b.sewMoved w.forward with
      fc := frameSent b.fc .step q
      rc.op := some ⟨tag, base, .repo { w with stepsLeft := n }⟩ }
  /-- S moves, and the frame stands there already. -/
  stands : ∀ n q, w.pauseAsked = false → w.stepsLeft = n + 1 →
    (if w.forward then b.ds.sew < b.ds.load else b.ds.tail < b.ds.sew) →
    ((b.sewMoved w.forward).ds.posBefore (b.sewMoved w.forward).ds.sew).map b.fc.origin.add = some q →
    b.fc.ready = true → ¬ standsOff b q →
    b.go .step = ({ b.sewMoved w.forward with
      fc := { b.fc with move := none }
      rc.op := some ⟨tag, base, .repo { w with stepsLeft := n }⟩ } : Blocks).go .step
  /-- S moves, and the frame cannot follow. -/
  stays : ∀ n, w.pauseAsked = false → w.stepsLeft = n + 1 →
    (if w.forward then b.ds.sew < b.ds.load else b.ds.tail < b.ds.sew) →
    (((b.sewMoved w.forward).ds.posBefore (b.sewMoved w.forward).ds.sew).map b.fc.origin.add = none
      ∨ b.fc.ready = false) →
    b.go .step = (b.sewMoved w.forward).endOpBase .failed OpFailures.none

theorem Blocks.stepStage (h : b.rc.op = some ⟨tag, base, .repo w⟩) : StepStage b tag base w := by
  have kept (hroom : if w.forward then b.ds.sew < b.ds.load else b.ds.tail < b.ds.sew) :
      (b.sewMoved w.forward).fc = b.fc
        ∧ (b.sewMoved w.forward).rc.op = some ⟨tag, base, .repo w⟩ := by
    obtain ⟨hfc, hrc⟩ := Blocks.sewMoved_keeps hroom
    exact ⟨hfc, by rw [hrc]; exact h⟩
  refine ⟨fun hends => ?_, fun n hasked hn hroom => ?_, fun n q hasked hn hroom hq hready hoff => ?_,
    fun n q hasked hn hroom hq hready hhere => ?_, fun n hasked hn hroom hno => ?_⟩
  · exact Blocks.go_step_end _ (Blocks.stepPhase_ends h hends)
  · exact Blocks.go_step_end _ (Blocks.stepPhase_blocked h hasked hn (Blocks.moveSew_none hroom))
  · obtain ⟨hfc, hop⟩ := kept hroom
    obtain ⟨p, hp, rfl⟩ := Option.map_eq_some_iff.mp hq
    have travel := (b.sewMoved w.forward).travel_some .step p (by rw [hfc]; exact hready)
    rw [hfc, Fc.depart_off _ _ _ hoff] at travel
    have stage := Blocks.stepPhase_moves h hasked hn (Blocks.moveSew_some hroom).1
      (by rw [hp]; exact travel)
    refine (Blocks.go_step_end _ stage).trans ?_
    simp only [Blocks.setWork, hop, Option.map_some]
  · obtain ⟨hfc, hop⟩ := kept hroom
    obtain ⟨p, hp, rfl⟩ := Option.map_eq_some_iff.mp hq
    obtain ⟨hx, hy⟩ : b.fc.x.pos = some (b.fc.origin.add p).x
        ∧ b.fc.y.pos = some (b.fc.origin.add p).y := by simpa [standsOff] using hhere
    have travel := (b.sewMoved w.forward).travel_some .step p (by rw [hfc]; exact hready)
    rw [hfc, Fc.depart_here _ _ _ hready hx hy] at travel
    have stage := Blocks.stepPhase_moves h hasked hn (Blocks.moveSew_some hroom).1
      (by rw [hp]; exact travel)
    have next : b.stepPhase.1 = { b.sewMoved w.forward with
        fc := { b.fc with move := none }
        rc.op := some ⟨tag, base, .repo { w with stepsLeft := n }⟩ } := by
      rw [stage]
      simp only [Blocks.setWork, hop, Option.map_some]
    rw [Blocks.go_step_on h hn (by rw [stage]; rfl) (by rw [next]), next]
  · obtain ⟨hfc, hop⟩ := kept hroom
    have travel := (b.sewMoved w.forward).travel_none .step
      ((b.sewMoved w.forward).ds.posBefore (b.sewMoved w.forward).ds.sew)
      (hno.symm.imp (fun hready => by rw [hfc]; exact hready) Option.map_eq_none_iff.mp)
    exact Blocks.go_step_end _ (Blocks.stepPhase_stays h hasked hn (Blocks.moveSew_some hroom).1 travel)

end

theorem Fc.arrive_ready (f : Fc) (h : f.ready = true) : f.arrive = { f with move := none } := by
  obtain ⟨hx, hy⟩ : f.x.state = .ready ∧ f.y.state = .ready := by simpa [Fc.ready] using h
  unfold Fc.arrive
  rw [AxisRec.arrive_other _ (by rw [hx]; nofun), AxisRec.arrive_other _ (by rw [hy]; nofun)]

end Sys2Proof.Machine

namespace Sys2Proof.Proofs

open Sys2Proof.Machine Sys2Proof.Claims

/-- Patch travel completed, for O59: the patch change, and the first start of the run. -/
theorem patchArrives_of_arrived (s : State) (tag : Byte) (base : BaseState) (w : PatchWork)
    (hop : s.blk.rc.op = some ⟨tag, base, .patch w⟩) (hrun : s.blk.rc.runState = .patch)
    (hmove : s.blk.fc.move = some ⟨.patchTravel, false⟩) :
    patchArrives s.blk.arrived s tag base w := by
  have taken := Blocks.moveComplete_patch hmove (Blocks.patchWork_of hop)
  have op : s.blk.arrived.rc.op = some ⟨tag, base, .patch w⟩ := hop
  refine ⟨fun slot hslot => ⟨fun hnone => ?_, fun e n m he hconf hsel hm hne => ?_⟩,
    fun r hneedle hr hmark hcolor hp hsc hsel hax hbusy hk => ?_⟩
  · have refused := s.blk.arrived.changePhase_noPlan slot (fun g => g == w.head) w.changeKind hnone
    rw [w.changeKind_index, Blocks.noPlanStop_patch op hrun] at refused
    have arrives := Blocks.patchArrived_changes op hslot _ _ refused (.inl rfl)
    have ended := Blocks.patchEnd_ended (x := s.blk.arrived.noPlanWritten slot w.p) rfl rfl rfl op
      .failed w.p
    exact ⟨_, next_blocks (taken.trans arrives), ended, Blocks.patchEnd_fl ..⟩
  · have begins := s.blk.arrived.changePhase_begins slot (fun g => g == w.head) w.changeKind e he
    have arrives := Blocks.patchArrived_changes op hslot _ _ begins (.inr ⟨rfl,
      s.blk.arrived.changeBegun_checks w.changeKind hconf (beq_self_eq_true _) hsel
        (planNeedle_of_entry he hm) hne⟩)
    exact next_blocks (taken.trans (arrives.trans
      (Blocks.changeBegun_patch w.changeKind he hconf hsel hm hne)))
  · obtain ⟨hend, rc, state, plan, cycle, ds, tm⟩ :=
      Blocks.patchReady_starts op hr hmark hcolor hp hsc hsel hax hbusy hk
    have arrives := Blocks.patchArrived_tests op hrun hneedle (Prod.ext rfl hend)
    exact ⟨_, next_blocks (taken.trans arrives), rc, state, plan, cycle, ds, tm⟩

/-- A step of BACK or FWD has ended, or return travel to the first, for O59. -/
theorem steps_of_stage {s : State} {b : Blocks} {tag : Byte} {base : BaseState} {w : RepoWork}
    (taken : s.blk.moveComplete = b.go .step) (hop : b.rc.op = some ⟨tag, base, .repo w⟩) :
    (w.pauseAsked = true ∨ w.stepsLeft = 0 → ∃ t : State, exec .frameMoveComplete s = .next t
        ∧ t.blk.fc = b.fc ∧ t.blk.ds = b.ds
        ∧ repoEnded b t.blk tag base w (if w.pauseAsked then .stopped else .ok))
      ∧ (∀ n, w.pauseAsked = false → w.stepsLeft = n + 1 →
        ((if w.forward then b.ds.load ≤ b.ds.sew else b.ds.sew ≤ b.ds.tail) →
          ∃ t : State, exec .frameMoveComplete s = .next t ∧ t.blk.fc = b.fc ∧ t.blk.ds = b.ds
            ∧ repoEnded b t.blk tag base w .failed)
        ∧ ((if w.forward then b.ds.sew < b.ds.load else b.ds.tail < b.ds.sew) →
          let moved := b.sewMoved w.forward
          let p := (moved.ds.posBefore moved.ds.sew).map b.fc.origin.add
          moved.ds.sew = (if w.forward then b.ds.sew + 1 else b.ds.sew - 1)
          ∧ (∀ q, p = some q → b.fc.ready = true → standsOff b q →
            exec .frameMoveComplete s = .next (withBlocks s { moved with
              fc := frameSent b.fc .step q
              rc.op := some ⟨tag, base, .repo { w with stepsLeft := n }⟩ }))
          ∧ (∀ q, p = some q → b.fc.ready = true → ¬ standsOff b q →
            exec .frameMoveComplete s = exec .frameMoveComplete (withBlocks s { moved with
              fc := { b.fc with move := some ⟨.step, false⟩ }
              rc.op := some ⟨tag, base, .repo { w with stepsLeft := n }⟩ }))
          ∧ (p = none ∨ b.fc.ready = false → ∃ t : State, exec .frameMoveComplete s = .next t
            ∧ t.blk.fc = b.fc ∧ t.blk.ds = moved.ds ∧ repoEnded b t.blk tag base w .failed))) := by
  have stage := Blocks.stepStage hop
  refine ⟨fun hends => ?_, fun n hasked hn => ⟨fun hroom => ?_, ?_⟩⟩
  · exact ⟨_, next_blocks (taken.trans (stage.ends hends)), Blocks.endOpBase_fc ..,
      Blocks.endOpBase_ds .., repoEnded_endOpBase hop rfl _⟩
  · exact ⟨_, next_blocks (taken.trans (stage.blocked n hasked hn hroom)), Blocks.endOpBase_fc ..,
      Blocks.endOpBase_ds .., repoEnded_endOpBase hop rfl _⟩
  intro hroom moved p
  refine ⟨(Blocks.moveSew_some hroom).2, ?_, ?_, ?_⟩
  · exact fun q hq hready hoff => next_blocks (taken.trans
      (stage.sent n q hasked hn hroom hq hready hoff))
  · intro q hq hready hhere
    have again : ({ moved with
        fc := { b.fc with move := some ⟨.step, false⟩ }
        rc.op := some ⟨tag, base, .repo { w with stepsLeft := n }⟩ } : Blocks).moveComplete =
        ({ moved with
          fc := { b.fc with move := none }
          rc.op := some ⟨tag, base, .repo { w with stepsLeft := n }⟩ } : Blocks).go .step := by
      refine (Blocks.moveComplete_step rfl).trans ?_
      exact congrArg (fun f => ({ moved with
        fc := f, rc.op := some ⟨tag, base, .repo { w with stepsLeft := n }⟩ } : Blocks).go .step)
        (Fc.arrive_ready { b.fc with move := some ⟨.step, false⟩ } hready)
    exact next_blocks (taken.trans ((stage.stands n q hasked hn hroom hq hready hhere).trans again.symm))
  · intro hno
    obtain ⟨hfc, hrc⟩ := Blocks.sewMoved_keeps hroom
    exact ⟨_, next_blocks (taken.trans (stage.stays n hasked hn hroom hno)),
      (Blocks.endOpBase_fc ..).trans hfc, Blocks.endOpBase_ds ..,
      repoEnded_endOpBase (by rw [hrc]; exact hop) (by rw [hrc]) _⟩

/-- Settles O59: the end of each owner's move. -/
theorem frameMovesEnd : Obligations.FrameMovesEnd := by
  unfold Obligations.FrameMovesEnd
  intro s fc' stopped
  refine ⟨fun hmove => ⟨?_, ?_⟩, fun i hmove hwaiting => ?_, fun tag base hmove hop => ?_,
    fun tag base w hmove hop hends => ?_, fun hmove hrun hwaiting hready hsc hsel hk hneedles => ?_,
    fun tag base hmove hop => ?_, fun hmove hrun => ?_, fun i m ms hmove hwaiting hx hy => ⟨?_, ?_⟩,
    fun tag base w hop howner => ?_, fun tag base w hmove hrun hop => ?_,
    fun hmove hrun slot e h n m hslot he hconf hsews hsel hm hne => ?_,
    fun tag base w hop hrun => ⟨fun hmove => ?_, fun hmove => ?_⟩⟩
  · exact next_blocks (Blocks.moveComplete_still hmove)
  · exact next_blocks (Blocks.moveStopped_still hmove)
  · refine next_blocks ((Blocks.moveComplete_cycle hmove).trans ?_)
    rw [hwaiting, Fc.beginWaiting, ← hwaiting]
    rfl
  · have rc := Blocks.endOpBase_rc s.blk.arrived _ hop .ok OpFailures.none
    refine ⟨_, next_blocks (Blocks.moveComplete_manual hmove), Blocks.endOpBase_fc .., ?_⟩
    rw [rc]
    exact ⟨rfl, rfl, rfl, rfl⟩
  · have stage := Blocks.stepStage (b := s.blk.arrived) hop
    have rc := Blocks.endOpBase_rc s.blk.arrived _ hop (if w.pauseAsked then .stopped else .ok)
      OpFailures.none
    refine ⟨_, next_blocks ((Blocks.moveComplete_step hmove).trans (stage.ends hends)),
      Blocks.endOpBase_fc .., Blocks.endOpBase_ds .., ?_⟩
    rw [rc]
    exact ⟨rfl, rfl, rfl⟩
  · have may : mayStart { s.blk.arrived with fc.offPosition := false } := by
      have axes : axesReady { s.blk.arrived with fc.offPosition := false } := by
        rw [Fc.ready, Bool.and_eq_true, beq_iff_eq, beq_iff_eq] at hready
        exact hready
      refine ⟨hsc, hsel, axes, ?_, ?_⟩
      · show ((match (none : Option Move) with | some ⟨.cycle _, _⟩ => true | _ => false)
          || !s.blk.fc.waiting.isEmpty) = false
        rw [hwaiting]
        rfl
      · rw [Blocks.planK_congr (b := s.blk) (b' := { s.blk.arrived with fc.offPosition := false }) rfl
          rfl rfl]
        exact hk
    obtain ⟨⟨hrs, hresume, hturns, hplan, -, hds⟩, hflag⟩ := Blocks.go_reconcile_starts may hneedles
    exact ⟨_, next_blocks (Blocks.moveComplete_travel hmove hrun), hrs, hresume, hturns, hplan, hflag,
      hds⟩
  · have rc := Blocks.endOpBase_rc s.blk.stoppedShort _ hop .stopped OpFailures.none
    refine ⟨_, next_blocks (Blocks.moveStopped_manual hmove), Blocks.endOpBase_fc .., ?_⟩
    rw [rc]
    exact ⟨rfl, rfl, rfl⟩
  · exact next_blocks (Blocks.moveStopped_travel hmove hrun)
  · intro hoff
    refine next_blocks ((Blocks.moveComplete_cycle hmove).trans ?_)
    rw [hwaiting]
    exact congrArg (fun f => { s.blk with fc := f })
      (Fc.beginWaiting_sent fc' m ms (fc'.ready_of_axes ⟨hx, hy⟩) rfl hoff)
  · intro hpx hpy hms
    subst hms
    have ready := fc'.ready_of_axes ⟨hx, hy⟩
    have stands : Fc.beginWaiting [m] fc' = { fc' with waiting := [] } := by
      rw [Fc.beginWaiting, ready, fc'.depart_here (.cycle m.index) m.target ready hpx hpy]
      rfl
    refine next_blocks ((Blocks.moveComplete_cycle hmove).trans ?_)
    rw [hwaiting]
    exact congrArg (fun f => { s.blk with fc := f }) stands
  · intro f b
    have taken : s.blk.moveComplete = b.go .step := by
      rcases howner with hmove | ⟨hmove, hrun⟩
      · have hf : f = fc' := if_pos hmove
        rw [Blocks.moveComplete_step hmove]
        show _ = ({ s.blk with fc := f } : Blocks).go .step
        rw [hf]
        rfl
      · have hf : f = { fc' with offPosition := false } := if_neg (by rw [hmove]; nofun)
        rw [Blocks.moveComplete_reposition hmove hrun]
        show _ = ({ s.blk with fc := f } : Blocks).go .step
        rw [hf]
        rfl
    have ready : f.ready = fc'.ready := by
      show (if _ then fc' else _ : Fc).ready = _
      split_ifs <;> rfl
    rw [← ready]
    exact steps_of_stage taken hop
  · exact ⟨_, next_blocks (Blocks.moveStopped_reposition hmove hrun), Blocks.endOpBase_fc ..,
      Blocks.endOpBase_ds .., repoEnded_endOpBase (b := s.blk) (x := s.blk.stoppedShort) hop rfl _⟩
  · let b : Blocks := { s.blk.arrived with fc.offPosition := false }
    have taken := (Blocks.moveComplete_travel hmove hrun).trans
      (Blocks.go_reconcile_changes b hslot he hconf hsews hsel hm hne)
    obtain ⟨hmoved, hhead⟩ := (b.goto .changing none).changeBegun_moves (slot := slot)
      (scope := b.sewingScope) (if b.ds.hasKind b.ds.sew .color then .recordDriven b.ds.sew
        else .reconciliation b.ds.sew) (h := h) (n := n) (m := m)
      (by simpa [b, Blocks.arrived] using hconf)
      (by simp [Blocks.sewingScope, b, Blocks.arrived, hsews])
      (by simpa [b, Blocks.arrived] using hsel)
      (by simpa [b, Blocks.arrived] using planNeedle_of_entry he hm) hne
    exact ⟨_, _, next_blocks taken, Blocks.goto_runState .., rfl, rfl, rfl, hmoved,
      (congrArg Head.selector hhead), Blocks.goto_fc .., Blocks.goto_ds ..⟩
  · exact patchArrives_of_arrived s tag base w hop hrun hmove
  · have taken := Blocks.moveStopped_patch hmove (Blocks.patchWork_of hop)
    refine ⟨_, next_blocks taken, Blocks.patchStopped_sc .., ?_⟩
    have ended := Blocks.patchEnd_ended (b := s.blk.stoppedShort) (x := s.blk.stoppedShort) (v := w)
      rfl rfl rfl hop
    rw [Blocks.patchStopped]
    cases hfault : w.causes.fault
    · have stops := ended .stopped (w.newStart .stopped)
      rw [w.newStart_stopped] at stops
      simp only [Bool.false_eq_true, if_false, w.newStart_stopped]
      exact stops
    · have fails := ended .failed (w.newStart .failed)
      rw [w.newStart_failed] at fails
      simp only [if_true, w.newStart_failed]
      exact fails

end Sys2Proof.Proofs
end

section
/-!
SUPPORT. The taking of an index's conditions while a run or a patch run sews, and the index that ends a
cycle stage by stage (R47, R52, R57, R59, R60, R143, R144).
-/

namespace Sys2Proof.Machine

open Sys2Proof.Claims

/-! ## What a release leaves of the store -/

/-- A store after releases: they reach no record from S on (R3, R23). -/
structure Ds.Released (d d' : Ds) : Prop where
  sew : d'.sew = d.sew
  load : d'.load = d.load
  channel : d'.channel = d.channel
  tail : d.tail ≤ d.sew → d'.tail ≤ d'.sew
  record : d.tail ≤ d.sew → ∀ i, d.sew ≤ i → d'.record i = d.record i

theorem Ds.Released.refl (d : Ds) : d.Released d := ⟨rfl, rfl, rfl, id, fun _ _ _ => rfl⟩

theorem Ds.Released.trans {d e f : Ds} (h : d.Released e) (k : e.Released f) : d.Released f where
  sew := k.sew.trans h.sew
  load := k.load.trans h.load
  channel := k.channel.trans h.channel
  tail := fun ht => k.tail (h.tail ht)
  record := fun ht i hi => (k.record (h.tail ht) i (h.sew ▸ hi)).trans (h.record ht i hi)

theorem Ds.Released.hasKind {d d' : Ds} (h : d.Released d') (ht : d.tail ≤ d.sew) {i : Nat}
    (hi : d.sew ≤ i) (k : RecordKind) : d'.hasKind i k = d.hasKind i k := by
  rw [Ds.hasKind, Ds.hasKind, h.record ht i hi]

theorem Ds.releaseOne_released (d : Ds) (h : d.tail < d.sew) : d.Released d.releaseOne := by
  refine ⟨d.releaseOne_sew, d.releaseOne_load, d.releaseOne_channel, fun _ => ?_,
    fun _ i hi => d.releaseOne_record i (by omega)⟩
  unfold Ds.releaseOne
  split
  · exact h.le
  · exact h

theorem Ds.releaseLoop_released (h : Nat) (e : Option Nat) (mark n : Nat) (d : Ds) (x : Bool) :
    d.Released (Ds.releaseLoop h e mark n d x).1 := by
  induction n generalizing d x with
  | zero => exact .refl d
  | succ n ih =>
    unfold Ds.releaseLoop
    split
    · next hm =>
      have history : h < d.sew - d.tail := by
        simp only [Ds.mayRelease, Ds.history, Bool.and_eq_true] at hm
        exact of_decide_eq_true hm.1
      exact (d.releaseOne_released (by omega)).trans (ih _ _)
    · exact .refl d

theorem Blocks.releaseTest_released (b : Blocks) : b.ds.Released b.releaseTest.ds := by
  unfold Blocks.releaseTest
  dsimp only
  split <;> exact Ds.releaseLoop_released ..

theorem Blocks.setRanges_released (b : Blocks) (rt : Eight (List Range)) :
    b.ds.Released (b.setRanges rt).ds := by
  unfold Blocks.setRanges
  dsimp only
  split
  · exact Blocks.releaseTest_released { b with rt := rt }
  · exact .refl _

theorem Blocks.isolate_released (b : Blocks) (h : HeadId) (c : Condition) :
    b.ds.Released (b.isolate h c).ds := by
  have opened : b.ds.Released (b.openIsolated h c).ds := by
    rw [Blocks.openIsolated, Blocks.monitorLeaves_ds]
    exact b.setRanges_released _
  rw [b.isolate_eq]
  split
  · exact opened.trans (Blocks.setRanges_released _ _)
  · exact opened

/-! ## The taking of a condition of an index, case by case -/

/-- A condition of an index is written, meets the run with a STOP_ALL, or isolates its head (R150). -/
theorem Blocks.take_ofIndex (b : Blocks) {x : Condition} (hx : x.ofIndex) :
    b.take x = b.writeEntry x ∨ b.take x = (b.writeEntry x).stopAll
      ∨ (∃ g, x.head = some g ∧ b.take x = ((b.faulted g x).notePatchBreak x).stopAll)
      ∨ ∃ g, x.head = some g ∧ b.mayIsolate g x = true ∧ b.take x = (b.writeEntry x).isolate g x := by
  obtain ⟨hfailed, hhalt⟩ := b.action_ofIndex x hx
  have kinds : x.kind ≠ .noPlan ∧ x.kind ≠ .pinLimit := by
    cases x with
    | threadBreak | tensionLoose | bobbinEmpty | moveLate => exact ⟨nofun, nofun⟩
    | _ => exact hx.elim
  have isolates (g : HeadId) (hg : x.head = some g) (ha : b.action x = .isolate) :
      b.mayIsolate g x = true := by
    cases x with
    | threadBreak | bobbinEmpty =>
      cases hg
      by_contra hm
      simp [Blocks.action, Blocks.policyAction, hm] at ha
    | tensionLoose =>
      cases hg
      by_contra hm
      cases hl : b.cf.settings.looseAction <;>
        simp [Blocks.action, Blocks.policyAction, hl, hm] at ha
    | moveLate => exact nomatch hg
    | _ => exact hx.elim
  cases ha : b.action x with
  | failed => exact absurd ha hfailed
  | halt => exact absurd ha hhalt
  | none => exact .inl (b.take_none x ha)
  | stopAll =>
    cases hg : x.head with
    | none => exact .inr (.inl (b.take_stopAll_headless x ha kinds hg))
    | some g =>
      cases hf : (b.hu.get g).faultFlag with
      | true => exact .inl (b.take_flagged x g (.inl ha) hg hf)
      | false => exact .inr (.inr (.inl ⟨g, rfl, b.take_stopAll x g ha kinds hg hf⟩))
  | isolate =>
    cases hg : x.head with
    | none =>
      left
      simp [Blocks.take, ha, Blocks.alreadyFlagged, hg, Blocks.handIsolate]
    | some g =>
      cases hf : (b.hu.get g).faultFlag with
      | true => exact .inl (b.take_flagged x g (.inr ha) hg hf)
      | false =>
        exact .inr (.inr (.inr ⟨g, rfl, isolates g hg ha, b.take_isolate x g ha hg hf⟩))

/-! ## What the taking leaves of the shaft and of its stop -/

/-- From `b` to `b'` by the conditions of an index: a shaft at rest and its stop stay, one that steps
down goes on stepping down, its speeds stay, and the store loses no record from S on. -/
structure Blocks.Along (b b' : Blocks) : Prop where
  cf : b'.cf = b.cf
  waiting : b'.fl.waiting = b.fl.waiting
  stop : b'.rc.stop = b.rc.stop
  atRest : b.sc.state = .stopped → b'.sc = b.sc
  slowing : b.sc.state = .stopping → b'.sc.state = .stopping
  turns : b'.sc.turns = b.sc.turns
  previous : b'.sc.previous = b.sc.previous
  demanded : b'.sc.demanded = b.sc.demanded
  ds : b.ds.Released b'.ds

theorem Blocks.Along.refl (b : Blocks) : b.Along b :=
  ⟨rfl, rfl, rfl, fun _ => rfl, id, rfl, rfl, rfl, .refl _⟩

theorem Blocks.Along.trans {b x y : Blocks} (h : b.Along x) (k : x.Along y) : b.Along y where
  cf := k.cf.trans h.cf
  waiting := k.waiting.trans h.waiting
  stop := k.stop.trans h.stop
  atRest := fun hs => (k.atRest (by rw [h.atRest hs, hs])).trans (h.atRest hs)
  slowing := fun hs => k.slowing (h.slowing hs)
  turns := k.turns.trans h.turns
  previous := k.previous.trans h.previous
  demanded := k.demanded.trans h.demanded
  ds := h.ds.trans k.ds

/-- Where the shaft, the stop and the store are not touched. -/
theorem Blocks.Along.of_same {b x : Blocks} (hcf : x.cf = b.cf) (hfl : x.fl.waiting = b.fl.waiting)
    (hsc : x.sc = b.sc) (hstop : x.rc.stop = b.rc.stop) (hds : b.ds.Released x.ds) : b.Along x :=
  ⟨hcf, hfl, hstop, fun _ => hsc, fun h => by rw [hsc, h], by rw [hsc], by rw [hsc], by rw [hsc], hds⟩

/-- A raised stop is taken by a shaft that turns alone (R59). -/
theorem Blocks.Along.of_raiseStop {b x : Blocks} (hcf : x.cf = b.cf)
    (hfl : x.fl.waiting = b.fl.waiting) (hsc : x.sc = b.sc.raiseStop) (hstop : x.rc.stop = b.rc.stop)
    (hds : x.ds = b.ds) : b.Along x := by
  obtain ⟨hstate, -, hturns⟩ := b.sc.raiseStop_keeps
  refine ⟨hcf, hfl, hstop, fun h => ?_, fun h => ?_, by rw [hsc, hturns], ?_, ?_,
    by rw [hds]; exact .refl _⟩
  · rw [hsc, Sc.raiseStop, if_neg (by rw [h]; nofun)]
  · rw [hsc, Sc.raiseStop, if_neg (by rw [h]; nofun), h]
  all_goals
    rw [hsc, Sc.raiseStop]
    split <;> rfl

theorem Blocks.writeEntry_along (b : Blocks) (x : Condition) : b.Along (b.writeEntry x) :=
  .of_same (by simp) (by simp) (by simp) (by simp) (by simpa using Ds.Released.refl _)

theorem Blocks.isolate_along (b : Blocks) (h : HeadId) (x : Condition) : b.Along (b.isolate h x) :=
  .of_same (by simp) (by simp) (by simp) (by simp) (b.isolate_released h x)

/-- A head's fault flag set, and its break noted where it is the patch head's (R146, R151). -/
theorem Blocks.faulted_noted (b : Blocks) (g : HeadId) (x : Condition) :
    let y := (b.faulted g x).notePatchBreak x
    y.cf = b.cf ∧ y.fl.waiting = b.fl.waiting ∧ y.sc = b.sc ∧ y.fc = b.fc ∧ y.ds = b.ds
      ∧ y.rt = b.rt := by
  simp [Blocks.faulted]

/-! ## A run that sews -/

/-- A run that sews: RUNNING or STOPPING, with no patch run. -/
def Blocks.sewsRun (b : Blocks) : Prop := runIsOf b [.running, .stopping] ∧ b.patchWork = none

/-- A STOP_ALL in a run that sews (R75). -/
theorem Blocks.stopAll_sewsRun {b : Blocks} (h : b.sewsRun) :
    b.Along b.stopAll ∧ b.stopAll.sewsRun ∧ b.stopAll.rt = b.rt ∧ b.stopAll.rc.causes.fault = true := by
  obtain ⟨hrun, hwork⟩ := h
  obtain hr | hs : b.rc.runState = .running ∨ b.rc.runState = .stopping := by simpa using hrun
  · obtain ⟨hstate, hfault, hsc⟩ := b.stopAll_running hr
    obtain ⟨-, -, hds, -, hrt⟩ := b.stopAll_runs hr
    have rc : b.stopAll.rc.stop = b.rc.stop ∧ b.stopAll.rc.op = b.rc.op := by
      simp [Blocks.stopAll, hr, Blocks.goto_rc]
    refine ⟨.of_raiseStop (by simp) (by simp) hsc rc.1 hds, ⟨by simp [hstate], ?_⟩, hrt, hfault⟩
    rw [Blocks.patchWork, rc.2]
    exact hwork
  · obtain ⟨hrc, hsc⟩ := b.stopAll_stopping hs
    have same : b.stopAll.ds = b.ds ∧ b.stopAll.rt = b.rt := by simp [Blocks.stopAll, hs]
    refine ⟨.of_same (by simp) (by simp) hsc (by rw [hrc]) (by rw [same.1]; exact .refl _),
      ⟨by simp [hrc, hs], ?_⟩, same.2, by rw [hrc]⟩
    rw [Blocks.patchWork, hrc]
    exact hwork

theorem Blocks.sewsRun_of_rc {b x : Blocks} (h : b.sewsRun) (hrc : x.rc = b.rc) : x.sewsRun := by
  rw [Blocks.sewsRun, Blocks.patchWork, runIsOf, hrc]
  exact h

/-- A condition of an index taken in a run that sews; only an ISOLATE changes the ranges. -/
theorem Blocks.take_sewsRun {b : Blocks} (h : b.sewsRun) {x : Condition} (hx : x.ofIndex) :
    b.Along (b.take x) ∧ (b.take x).sewsRun
      ∧ (b.cf.settings.policy = .stopAll ∨ x.head = none → (b.take x).rt = b.rt) := by
  have written := b.writeEntry_along x
  have sews := Blocks.sewsRun_of_rc (x := b.writeEntry x) h (by simp)
  rcases b.take_ofIndex hx with ht | ht | ⟨g, -, ht⟩ | ⟨g, hg, hm, ht⟩
  · rw [ht]
    exact ⟨written, sews, fun _ => by simp⟩
  · obtain ⟨along, hsews, hrt, -⟩ := Blocks.stopAll_sewsRun sews
    rw [ht]
    exact ⟨written.trans along, hsews, fun _ => hrt.trans (by simp)⟩
  · have noted : (b.faulted g x).notePatchBreak x = b.faulted g x :=
      Blocks.notePatchBreak_none _ x (Blocks.sewsRun_of_rc h (b.faulted_rc g x)).2
    obtain ⟨hcf, hfl, hsc, -, hds, hrt⟩ := b.faulted_noted g x
    rw [noted] at hcf hfl hsc hds hrt
    obtain ⟨along, hsews, hrt', -⟩ := Blocks.stopAll_sewsRun (Blocks.sewsRun_of_rc h (b.faulted_rc g x))
    rw [ht, noted]
    exact ⟨(Blocks.Along.of_same hcf hfl hsc (by simp) (by rw [hds]; exact .refl _)).trans along, hsews,
      fun _ => hrt'.trans hrt⟩
  · rw [ht]
    refine ⟨written.trans (Blocks.isolate_along _ _ _), Blocks.sewsRun_of_rc sews (by simp), ?_⟩
    rintro (hp | hn)
    · simp [Blocks.mayIsolate, hp] at hm
    · exact nomatch hn.symm.trans hg

/-! ## A patch run that sews -/

/-- A patch run that sews: in PATCH, with the head, the bounds, the slot and the place of `w`, no change
of needles in progress, and no end before the resolution of its stop. -/
def Blocks.sewsPatch (tag : Byte) (base : BaseState) (w : PatchWork) (b : Blocks) : Prop :=
  (∃ w' : PatchWork, b.rc.op = some ⟨tag, base, .patch w'⟩
    ∧ w'.head = w.head ∧ w'.a = w.a ∧ w'.b = w.b ∧ w'.slot = w.slot ∧ w'.p = w.p)
  ∧ b.rc.runState = .patch ∧ b.rc.change = none ∧ b.patchGoesOn

variable {tag : Byte} {base : BaseState} {w : PatchWork}

/-- A STOP_ALL in a patch run that sews (R144). -/
theorem Blocks.stopAll_sewsPatch {b : Blocks} (h : b.sewsPatch tag base w) :
    b.Along b.stopAll ∧ b.stopAll.sewsPatch tag base w ∧ b.stopAll.rt = b.rt ∧ b.stopAll.ds = b.ds := by
  obtain ⟨⟨v, hop, like⟩, hrun, hchange, hgoes⟩ := h
  have goes := (b.stopAll_takes (fun _ => True) hgoes).patch hgoes
  have met := b.stopAll_patch tag base v hrun hop
  rw [b.patchInterrupt_sews v (fun ⟨asked, hm⟩ => hgoes.1 asked hm) hchange] at met
  have rc : (b.setWork (.patch v.failing)).rc =
      { b.rc with op := some ⟨tag, base, .patch v.failing⟩ } := by simp [Blocks.setWork, hop]
  have sews (x : Blocks) (hx : b.stopAll = x)
      (hrc : x.rc = { b.rc with op := some ⟨tag, base, .patch v.failing⟩ }) :
      b.stopAll.sewsPatch tag base w := by
    rw [Blocks.sewsPatch, hx, hrc, ← hx]
    exact ⟨⟨_, rfl, like⟩, hrun, hchange, goes⟩
  by_cases hturns : b.sc.turns = true
  · rw [if_pos hturns] at met
    refine ⟨?_, sews _ met rc, by rw [met]; rfl, by rw [met]; rfl⟩
    rw [met]
    exact .of_raiseStop rfl rfl rfl rfl rfl
  · have waits : (b.rc.stop.isSome || b.fc.busy) = true := by
      simp [Option.isSome_iff_ne_none.mpr (hgoes.2.resolve_left hturns)]
    rw [if_neg hturns, if_pos waits] at met
    refine ⟨?_, sews _ met rc, by rw [met]; rfl, by rw [met]; rfl⟩
    rw [met]
    exact .of_same rfl rfl rfl rfl (.refl _)

theorem Blocks.sewsPatch_of_rc {b x : Blocks} (h : b.sewsPatch tag base w) (hrc : x.rc = b.rc)
    (hfc : x.fc = b.fc) (hturns : x.sc.turns = b.sc.turns) : x.sewsPatch tag base w := by
  rw [Blocks.sewsPatch, Blocks.patchGoesOn, hrc, hfc, hturns]
  exact h

/-- A condition of an index taken in a patch run that sews: the store and the ranges stay. -/
theorem Blocks.take_sewsPatch {b : Blocks} (h : b.sewsPatch tag base w) {x : Condition}
    (hx : x.ofIndex) :
    b.Along (b.take x) ∧ (b.take x).sewsPatch tag base w ∧ (b.take x).rt = b.rt
      ∧ (b.take x).ds = b.ds := by
  have written := b.writeEntry_along x
  have sews := Blocks.sewsPatch_of_rc (x := b.writeEntry x) h (by simp) (by simp) (by simp)
  rcases b.take_ofIndex hx with ht | ht | ⟨g, -, ht⟩ | ⟨g, hg, hm, ht⟩
  · rw [ht]
    exact ⟨written, sews, by simp, by simp⟩
  · obtain ⟨along, hsews, hrt, hds⟩ := Blocks.stopAll_sewsPatch sews
    rw [ht]
    exact ⟨written.trans along, hsews, hrt.trans (by simp), hds.trans (by simp)⟩
  · obtain ⟨⟨v, hop, hhead, ha, hb, hslot, hp⟩, hrun, hchange, hgoes⟩ := h
    obtain ⟨hcf, hfl, hsc, hfc, hds, hrt⟩ := b.faulted_noted g x
    have noted := (b.faulted g x).notePatchBreak_patch x tag base v (by rwa [b.faulted_rc])
    rw [b.faulted_rc] at noted
    have sews' : ((b.faulted g x).notePatchBreak x).sewsPatch tag base w := by
      rw [Blocks.sewsPatch, Blocks.patchGoesOn, noted, hfc, hsc]
      exact ⟨⟨_, rfl, hhead, ha, hb, hslot, hp⟩, hrun, hchange, hgoes⟩
    obtain ⟨along, hsews, hrt', hds'⟩ := Blocks.stopAll_sewsPatch sews'
    rw [ht]
    exact ⟨(Blocks.Along.of_same hcf hfl hsc (by rw [noted]) (by rw [hds]; exact .refl _)).trans along,
      hsews, hrt'.trans hrt, hds'.trans hds⟩
  · obtain ⟨-, hrun, -⟩ := h
    simp [Blocks.mayIsolate, hrun] at hm

end Sys2Proof.Machine

end

section
/-!
SUPPORT. The index pulse that ends a cycle: its stages, what each leaves, and the shaft at rest after it
(R47, R52, R57, R59, R60, R61, R143).
-/

namespace Sys2Proof.Machine

open Sys2Proof.Claims

/-! ## The stages of the index that ends a cycle -/

/-- The events of the angle given, and the cycle counted. -/
def Blocks.angled (b : Blocks) (c : Cycle) (ns : Nat) : Blocks :=
  { b.eventsAtIndex c with sc := (b.eventsAtIndex c).sc.countCycle ns }

/-- The bobbins lowered, and the conditions of the empty ones. -/
def Blocks.lowered (b : Blocks) (c : Cycle) : Blocks × List Condition :=
  if c.kind = .stitch then Id8.all.foldl (Blocks.lowerBobbinOf c.index) (b, []) else (b, [])

/-- The windows closed, and the conditions of the judgements. -/
def Blocks.judged (b : Blocks) (plan : PlanMode) (c : Cycle) : Blocks × List Condition :=
  Id8.all.foldl (Blocks.closeWindowOf plan c) (b, [])

/-- The MOVE_LATE of a JUMP whose move is not done. -/
def Blocks.jumpLate (b : Blocks) (c : Cycle) : List Condition :=
  if c.kind = .jump ∧ b.fc.notDone c.index then [b.moveLateOf c.index] else []

/-- The trimmers off, and the record counted sewn. -/
def Blocks.recordSewn (b : Blocks) (plan : PlanMode) (c : Cycle) : Blocks :=
  ({ b with sc.cycle := none
            hu := Eight.tabulate (fun h => { b.hu.get h with trimmer := false }) } :
    Blocks).countSewn plan c

/-- The conditions that are taken last wait, in a run, where the shaft is at rest. -/
def Blocks.lastTaken (b : Blocks) (plan : PlanMode) (deferred : List Condition) : Blocks :=
  if plan = .run ∧ b.sc.state = .stopped then { b with fl.waiting := b.fl.waiting ++ deferred }
  else b.report deferred

/-- The decision on the next cycle, between the conditions taken before it and those after it. -/
def Blocks.decidedOn (b : Blocks) (plan : PlanMode) (c : Cycle) (early late deferred : List Condition) :
    Blocks :=
  (((b.report early).decideNext plan c).report late).lastTaken plan deferred

/-- The blocks once the windows are closed, some conditions of empty bobbins having been taken first. -/
def Blocks.closedAt (b : Blocks) (plan : PlanMode) (c : Cycle) (ns : Nat) (first : List Condition) :
    Blocks × List Condition :=
  (((b.angled c ns).lowered c).1.report first).judged plan c

/-- The conditions of the empty bobbins in a free order, split by their moments. -/
def emptiesSplit (choice : Nat → Nat) (empties : List Condition) : List Condition × List Condition :=
  let split := (shuffle (fun i => choice (192 + i)) empties).zipIdx.partition
    (fun p => firstMoment (choice p.2))
  (split.1.map (·.1), split.2.map (·.1))

/-- The other conditions of the index in a free order. -/
def othersShuffled (choice : Nat → Nat) (l : List Condition) : List Condition :=
  shuffle (fun i => choice (64 + i)) l

/-- Those of them that are taken at a moment. -/
def othersAt (choice : Nat → Nat) (m : Moment) (l : List Condition) : List Condition :=
  ofMoment (fun i => choice (128 + i)) m (othersShuffled choice l)

/-- The index that ends a cycle, as the stages in turn. -/
theorem Blocks.endCycle_eq (choice : Nat → Nat) (ns : Nat) (plan : PlanMode) (c : Cycle)
    (b : Blocks) :
    Blocks.endCycle choice ns plan c b =
      (let split := emptiesSplit choice ((b.angled c ns).lowered c).2
       let x := b.closedAt plan c ns split.1
       let l := split.2 ++ x.2 ++ x.1.jumpLate c
       (x.1.recordSewn plan c).decidedOn plan c (othersAt choice .early l) (othersAt choice .late l)
         (othersAt choice .deferred l)) := by
  unfold Blocks.endCycle Blocks.decidedOn Blocks.lastTaken Blocks.recordSewn Blocks.jumpLate
    Blocks.closedAt Blocks.judged Blocks.lowered Blocks.angled othersAt othersShuffled emptiesSplit
  rfl

/-- The index that ends a cycle, by its stages: each condition is taken at one of four moments. -/
theorem Blocks.endCycle_stages (choice : Nat → Nat) (ns : Nat) (plan : PlanMode) (c : Cycle)
    (b : Blocks) : ∃ first others early late deferred : List Condition,
      (first ++ others).Perm ((b.angled c ns).lowered c).2
      ∧ (early ++ (late ++ deferred)).Perm (others ++ (b.closedAt plan c ns first).2
          ++ (b.closedAt plan c ns first).1.jumpLate c)
      ∧ Blocks.endCycle choice ns plan c b =
          ((b.closedAt plan c ns first).1.recordSewn plan c).decidedOn plan c early late deferred :=
  ⟨_, _, _, _, _, (partition_perm _ _).trans (shuffle_perm _ _),
    (moments_perm _ _).trans (shuffle_perm _ _), Blocks.endCycle_eq ..⟩

/-! ## The equations of the stages -/

theorem Blocks.lowered_eq (b : Blocks) (c : Cycle) : ∃ (ru : Ru) (hu : Eight Head),
    b.lowered c = ({ b with hu := hu, ru := ru },
      if c.kind = .stitch then Id8.all.flatMap (b.emptyBobbin c.index) else [])
    ∧ (∀ g, hu.get g = if c.kind = .stitch then b.loweredHead g else b.hu.get g)
    ∧ ∀ g, (ru.heads.get g).flags
        = (b.ru.heads.get g).flags ||| (if c.kind = .stitch then b.lowBobbin g else 0#4) := by
  unfold Blocks.lowered
  split_ifs with hk
  · obtain ⟨ru, hu, heq, hhu, hflags⟩ := Blocks.lowerBobbinOf_fold c.index Id8.all b [] (by decide)
    have all (g : HeadId) : g ∈ Id8.all := by cases g <;> decide
    exact ⟨ru, hu, heq, fun g => (hhu g).trans (if_pos (all g)),
      fun g => (hflags g).trans (by rw [if_pos (all g)])⟩
  · exact ⟨b.ru, b.hu, rfl, fun _ => rfl, fun _ => by simp⟩

theorem Blocks.judged_eq (b : Blocks) (plan : PlanMode) (c : Cycle) :
    ∃ (ru : Ru) (tm : Eight Monitor),
      b.judged plan c = ({ b with tm := tm, ru := ru }, Id8.all.flatMap (b.judgedFaults c))
      ∧ (∀ g, tm.get g = b.closedMonitor plan c g)
      ∧ ∀ g, (ru.heads.get g).flags = (b.ru.heads.get g).flags ||| b.warnFlag c g := by
  obtain ⟨ru, tm, heq, htm, hflags⟩ :=
    Blocks.closeWindowOf_fold plan c Id8.all b [] (by decide)
  have all (g : HeadId) : g ∈ Id8.all := by cases g <;> decide
  exact ⟨ru, tm, heq, fun g => (htm g).trans (if_pos (all g)),
    fun g => (hflags g).trans (by rw [if_pos (all g)])⟩

/-- The trim point is given at the index where it has not been. -/
theorem Blocks.eventsAtIndex_eq (b : Blocks) (c : Cycle) :
    b.eventsAtIndex c =
      (if c.kind = .trim ∧ c.trimGiven = false then
        Blocks.trimPoint (if c.entryGiven then b else b.giveEntry c) { c with entryGiven := true }
       else if c.entryGiven then b else b.giveEntry c) := by
  unfold Blocks.eventsAtIndex
  simp

theorem Blocks.comeToRest_stop (b : Blocks) (plan : PlanMode) (last i : Nat) :
    (b.comeToRest plan last i).rc.stop =
      some ⟨some last, i, b.sc.state == .stopping, b.points plan i⟩ := rfl

/-- The decision touches RC in its stop alone, and leaves the ranges and the log (R52, R61). -/
theorem Blocks.decideNext_keeps (b : Blocks) (plan : PlanMode) (c : Cycle) :
    let y := b.decideNext plan c
    y.rc = { b.rc with stop := y.rc.stop } ∧ y.rt = b.rt ∧ y.cf = b.cf ∧ y.fl = b.fl ∧ y.tp = b.tp
      ∧ y.sc.cycleCount = b.sc.cycleCount := by
  unfold Blocks.decideNext
  dsimp only
  split
  · exact ⟨rfl, rfl, rfl, rfl, rfl, rfl⟩
  · split <;> exact ⟨rfl, rfl, rfl, rfl, rfl, rfl⟩

/-! ## What every index that ends a cycle leaves -/

/-- What the stages of a cycle's end leave, whatever they take. -/
structure Blocks.Lasts (b b' : Blocks) : Prop where
  cf : b'.cf = b.cf
  tp : b'.tp = b.tp
  runExists : b'.rc.runExists = b.rc.runExists
  load : b'.ds.load = b.ds.load
  sew : b'.ds.sew = b.ds.sew
  cycleCount : b'.sc.cycleCount = b.sc.cycleCount

theorem Blocks.Lasts.refl (b : Blocks) : b.Lasts b := ⟨rfl, rfl, rfl, rfl, rfl, rfl⟩

theorem Blocks.Lasts.trans {b x y : Blocks} (h : b.Lasts x) (k : x.Lasts y) : b.Lasts y :=
  ⟨k.cf.trans h.cf, k.tp.trans h.tp, k.runExists.trans h.runExists, k.load.trans h.load,
    k.sew.trans h.sew, k.cycleCount.trans h.cycleCount⟩

theorem Blocks.report_lasts (b : Blocks) (l : List Condition) : b.Lasts (b.report l) := by
  constructor <;> simp

theorem Blocks.giveEntry_lasts (b : Blocks) (c : Cycle) : b.Lasts (b.giveEntry c) := by
  unfold Blocks.giveEntry Blocks.raiseAll
  dsimp only
  split
  · exact ⟨rfl, rfl, rfl, rfl, rfl, rfl⟩
  · exact Blocks.Lasts.trans (x := (b.needleEntry c).1) ⟨rfl, rfl, rfl, rfl, rfl, rfl⟩
      (Blocks.report_lasts _ _)

theorem Blocks.eventsAtIndex_lasts (b : Blocks) (c : Cycle) : b.Lasts (b.eventsAtIndex c) := by
  have entry : b.Lasts (if c.entryGiven then b else b.giveEntry c) := by
    split
    · exact .refl b
    · exact b.giveEntry_lasts c
  rw [b.eventsAtIndex_eq]
  split
  · exact entry.trans ⟨rfl, rfl, rfl, rfl, rfl, rfl⟩
  · exact entry

theorem Blocks.lowered_lasts (b : Blocks) (c : Cycle) : b.Lasts (b.lowered c).1 := by
  obtain ⟨ru, hu, heq, -⟩ := b.lowered_eq c
  rw [heq]
  exact ⟨rfl, rfl, rfl, rfl, rfl, rfl⟩

theorem Blocks.judged_lasts (b : Blocks) (plan : PlanMode) (c : Cycle) :
    b.Lasts (b.judged plan c).1 := by
  obtain ⟨ru, tm, heq, -⟩ := b.judged_eq plan c
  rw [heq]
  exact ⟨rfl, rfl, rfl, rfl, rfl, rfl⟩

theorem Blocks.decidedOn_lasts (b : Blocks) (plan : PlanMode) (c : Cycle)
    (early late deferred : List Condition) : b.Lasts (b.decidedOn plan c early late deferred) := by
  have decides (x : Blocks) : x.Lasts (x.decideNext plan c) := by
    obtain ⟨hrc, -, hcf, -, htp, hcount⟩ := x.decideNext_keeps plan c
    exact ⟨hcf, htp, by rw [hrc], by simp, by simp, hcount⟩
  have ends (x : Blocks) : x.Lasts (x.lastTaken plan deferred) := by
    unfold Blocks.lastTaken
    split
    · exact ⟨rfl, rfl, rfl, rfl, rfl, rfl⟩
    · exact x.report_lasts _
  exact (((b.report_lasts early).trans (decides _)).trans (Blocks.report_lasts _ late)).trans (ends _)

/-- The record counted sewn moves S in a run alone. -/
theorem Blocks.recordSewn_keeps (b : Blocks) (plan : PlanMode) (c : Cycle) :
    let y := b.recordSewn plan c
    y.cf = b.cf ∧ y.tp = b.tp ∧ y.rc.runExists = b.rc.runExists ∧ y.ds.load = b.ds.load
      ∧ y.sc = { b.sc with cycle := none } ∧ y.fc = b.fc ∧ y.fl = b.fl ∧ y.rt = b.rt
      ∧ y.rc.runState = b.rc.runState ∧ y.rc.stop = b.rc.stop ∧ y.rc.change = b.rc.change := by
  unfold Blocks.recordSewn Blocks.countSewn
  cases plan with
  | run =>
    have rc (x : Blocks) : x.advance.rc = { x.rc with slotInEffect := x.advance.rc.slotInEffect } := by
      unfold Blocks.advance
      split
      · simp [Blocks.readSlot]
      · rfl
    dsimp only
    refine ⟨by simp, by simp, by simp, by simp, by simp, by simp, by simp, by simp, ?_, ?_, ?_⟩ <;>
      rw [rc]
  | patch e =>
    dsimp only
    split
    · simp [Blocks.setWork]
    · simp

theorem Blocks.advance_sews (b : Blocks) (h : b.ds.sew < b.ds.load) :
    ({ b.ds with sew := b.ds.sew + 1 } : Ds).Released b.advance.ds := by
  have moved : b.ds.advance = { b.ds with sew := b.ds.sew + 1 } := if_pos h
  rw [Blocks.advance, if_pos h, Blocks.readSlot_ds, ← moved]
  exact Blocks.releaseTest_released { b with ds := b.ds.advance }

theorem Blocks.releaseTest_ds (b : Blocks) : b.releaseTest.ds =
    (b.ds.release b.cf.settings.retention b.e b.cf.settings.loadMark).1 := by
  unfold Blocks.releaseTest
  dsimp only
  split <;> rfl

theorem Blocks.recordSewn_ds_run (b : Blocks) (c : Cycle) :
    (b.recordSewn .run c).ds = b.advance.ds := by
  unfold Blocks.recordSewn Blocks.countSewn Blocks.advance
  dsimp only
  split
  · rw [Blocks.readSlot_ds, Blocks.readSlot_ds, Blocks.releaseTest_ds, Blocks.releaseTest_ds]
    rfl
  · rfl

end Sys2Proof.Machine

end

section
/-!
SUPPORT. The index that ends a cycle of a run or of a patch run that sews: what its conditions keep, from
stage to stage (R52, R57, R60, R61, R143).
-/

namespace Sys2Proof.Machine

open Sys2Proof.Claims

/-- A condition that the end of a cycle can raise: only that of a STITCH names a head. -/
def Condition.ofEnd (c : Cycle) (x : Condition) : Prop :=
  x.ofIndex ∧ (c.kind = .stitch ∨ x.head = none)

/-- A property that the conditions of the end of a cycle, the decision on the next one and the changes of
the heads, the monitors and the reports keep. -/
structure Blocks.Mode (plan : PlanMode) (c : Cycle) (M : Blocks → Prop) : Prop where
  takes : ∀ {b : Blocks} {x : Condition}, M b → x.ofEnd c → b.Along (b.take x) ∧ M (b.take x)
  decides : ∀ {b : Blocks}, M b → b.sc.turns = true → M (b.decideNext plan c)
  congr : ∀ {b x : Blocks}, M b → x.rc = b.rc → x.fc = b.fc → x.ds = b.ds → x.rt = b.rt →
    x.cf = b.cf → x.sc.turns = b.sc.turns → M x

section

variable {plan : PlanMode} {c : Cycle} {M : Blocks → Prop} {b : Blocks}

theorem Blocks.Mode.takeAll (k : Blocks.Mode plan c M) (l : List Condition) (h : M b)
    (hl : ∀ x ∈ l, x.ofEnd c) : b.Along (b.takeAll l) ∧ M (b.takeAll l) := by
  induction l generalizing b with
  | nil => exact ⟨.refl b, h⟩
  | cons x l ih =>
    obtain ⟨along, kept⟩ := k.takes h (hl x (by simp))
    obtain ⟨along', kept'⟩ := ih kept (fun y hy => hl y (by simp [hy]))
    exact ⟨along.trans along', kept'⟩

theorem Blocks.Mode.report (k : Blocks.Mode plan c M) {l : List Condition} (h : M b)
    (hidle : b.fl.waiting = []) (hl : ∀ x ∈ l, x.ofEnd c) :
    b.Along (b.report l) ∧ M (b.report l) := by
  rw [Blocks.report_idle hidle]
  exact k.takeAll l h hl

/-! ## Up to the closing of the windows -/

theorem Blocks.moveLateOf_ofEnd (b : Blocks) (i : Nat) : (b.moveLateOf i).ofEnd c :=
  ⟨trivial, .inr rfl⟩

theorem Blocks.Mode.giveEntry (k : Blocks.Mode plan c M) (h : M b) (hturns : b.sc.turns = true)
    (hidle : b.fl.waiting = []) : b.Along (b.giveEntry c) ∧ M (b.giveEntry c) := by
  let x : Blocks := { b with sc.cycle := some { c with entryGiven := true } }
  have running : b.sc.state ≠ .stopped := fun hs => by simp [Sc.turns, hs] at hturns
  have along : b.Along x :=
    ⟨rfl, rfl, rfl, fun hs => absurd hs running, id, rfl, rfl, rfl, .refl _⟩
  have kept : M x := k.congr h rfl rfl rfl rfl rfl rfl
  unfold Blocks.giveEntry Blocks.raiseAll Blocks.needleEntry
  dsimp only
  split_ifs with hlate hnone hnone
  · exact nomatch hnone
  · obtain ⟨along', kept'⟩ := k.report (l := [b.moveLateOf c.index]) kept hidle (fun y hy => by
      rw [List.mem_singleton.mp hy]
      exact b.moveLateOf_ofEnd c.index)
    exact ⟨along.trans along', kept'⟩
  · exact ⟨along, kept⟩
  · exact absurd rfl hnone

theorem Blocks.Mode.eventsAtIndex (k : Blocks.Mode plan c M) (h : M b) (hturns : b.sc.turns = true)
    (hidle : b.fl.waiting = []) : b.Along (b.eventsAtIndex c) ∧ M (b.eventsAtIndex c) := by
  have entry : b.Along (if c.entryGiven then b else b.giveEntry c)
      ∧ M (if c.entryGiven then b else b.giveEntry c) := by
    split
    · exact ⟨.refl b, h⟩
    · exact k.giveEntry h hturns hidle
  rw [b.eventsAtIndex_eq]
  generalize (if c.entryGiven then b else b.giveEntry c) = x at entry ⊢
  obtain ⟨along, kept⟩ := entry
  split
  · have running : x.sc.state ≠ .stopped := fun hs => by
      rw [← along.turns] at hturns
      simp [Sc.turns, hs] at hturns
    exact ⟨along.trans ⟨rfl, rfl, rfl, fun hs => absurd hs running, id, rfl, rfl, rfl, .refl _⟩,
      k.congr kept rfl rfl rfl rfl rfl rfl⟩
  · exact ⟨along, kept⟩

/-- From `b` to the blocks once the windows are closed: the cycle has been counted. -/
structure Blocks.Counted (b x : Blocks) : Prop where
  cf : x.cf = b.cf
  waiting : x.fl.waiting = b.fl.waiting
  slowing : b.sc.state = .stopping → x.sc.state = .stopping
  turns : x.sc.turns = b.sc.turns
  previous : x.sc.previous = b.sc.demanded
  ds : b.ds.Released x.ds

theorem Blocks.Counted.along {x y : Blocks} (h : b.Counted x) (k : x.Along y) : b.Counted y :=
  ⟨k.cf.trans h.cf, k.waiting.trans h.waiting, fun hs => k.slowing (h.slowing hs),
    k.turns.trans h.turns, k.previous.trans h.previous, h.ds.trans k.ds⟩

theorem Blocks.Mode.closedAt (k : Blocks.Mode plan c M) (ns : Nat) {first : List Condition} (h : M b)
    (hturns : b.sc.turns = true) (hidle : b.fl.waiting = []) (hfirst : ∀ x ∈ first, x.ofEnd c) :
    b.Counted (b.closedAt plan c ns first).1 ∧ M (b.closedAt plan c ns first).1 := by
  obtain ⟨events, kept⟩ := k.eventsAtIndex h hturns hidle
  have counted : b.Counted (b.angled c ns) :=
    ⟨events.cf, events.waiting, events.slowing, events.turns, events.demanded, events.ds⟩
  have mode : M (b.angled c ns) := k.congr kept rfl rfl rfl rfl rfl rfl
  obtain ⟨ru, hu, hlowered, -⟩ := (b.angled c ns).lowered_eq c
  have lowers : b.Counted ((b.angled c ns).lowered c).1 ∧ M ((b.angled c ns).lowered c).1 := by
    rw [hlowered]
    exact ⟨counted.along (.of_same rfl rfl rfl rfl (.refl _)), k.congr mode rfl rfl rfl rfl rfl rfl⟩
  obtain ⟨reports, mode'⟩ := k.report lowers.2 (lowers.1.waiting.trans hidle) hfirst
  obtain ⟨ru', tm, hjudged, -⟩ :=
    Blocks.judged_eq (((b.angled c ns).lowered c).1.report first) plan c
  rw [Blocks.closedAt, hjudged]
  exact ⟨(lowers.1.along reports).along (.of_same rfl rfl rfl rfl (.refl _)),
    k.congr mode' rfl rfl rfl rfl rfl rfl⟩

/-! ## From the decision on -/

theorem Blocks.lastTaken_rest (k : Blocks.Mode plan c M) {l : List Condition} (h : M b)
    (hidle : b.fl.waiting = []) (hl : ∀ x ∈ l, x.ofEnd c) :
    M (b.lastTaken plan l) ∧ (b.sc.state = .stopped →
      (b.lastTaken plan l).sc = b.sc ∧ (b.lastTaken plan l).rc.stop = b.rc.stop) := by
  unfold Blocks.lastTaken
  split
  · exact ⟨k.congr h rfl rfl rfl rfl rfl rfl, fun _ => ⟨rfl, rfl⟩⟩
  · obtain ⟨along, kept⟩ := k.report h hidle hl
    exact ⟨kept, fun hs => ⟨along.atRest hs, along.stop⟩⟩

/-- The decision and what is taken around it; where the shaft is slow enough in STOPPING it comes to
rest, and the stop stands (R57, R61). -/
theorem Blocks.Mode.decidedOn (k : Blocks.Mode plan c M) {early late deferred : List Condition}
    (h : M b) (hturns : b.sc.turns = true) (hidle : b.fl.waiting = [])
    (hl : ∀ x ∈ early ++ (late ++ deferred), x.ofEnd c) :
    let x := b.report early
    let z := b.decidedOn plan c early late deferred
    let j := x.cycleIndex plan (c.index + 1)
    b.Along x ∧ M x ∧ M z
      ∧ (b.sc.state = .stopping → b.sc.previous ≤ 200 → z.sc = x.sc.rest
        ∧ z.rc.stop = some ⟨some c.index, j, true, x.points plan j⟩) := by
  intro x z j
  obtain ⟨along, kept⟩ := k.report h hidle (l := early) (fun y hy => hl y (by simp [hy]))
  have decided := k.decides kept (along.turns.trans hturns)
  obtain ⟨-, -, -, hfl, -⟩ := Blocks.decideNext_keeps x plan c
  have still : (x.decideNext plan c).fl.waiting = [] := by
    rw [hfl, along.waiting, hidle]
  obtain ⟨along', kept'⟩ := k.report decided still (l := late) (fun y hy => hl y (by simp [hy]))
  obtain ⟨kept'', rests⟩ := Blocks.lastTaken_rest k kept' (along'.waiting.trans still)
    (l := deferred) (fun y hy => hl y (by simp [hy]))
  refine ⟨along, kept, kept'', fun hstopping hslow => ?_⟩
  have slow : x.sc.state = .stopping ∧ x.sc.previous ≤ 200 :=
    ⟨along.slowing hstopping, by rw [along.previous]; exact hslow⟩
  have atRest := x.decideNext_rests plan c (.inl slow)
  have stopped : (x.decideNext plan c).sc.state = .stopped := by rw [atRest]; rfl
  obtain ⟨hsc, hstop⟩ := rests (by rw [along'.atRest stopped, stopped])
  refine ⟨hsc.trans ((along'.atRest stopped).trans (by rw [atRest]; rfl)),
    hstop.trans (along'.stop.trans ?_)⟩
  rw [atRest, Blocks.comeToRest_stop, slow.1]
  rfl

/-! ## The conditions of an index name heads in a STITCH alone -/

theorem Blocks.emptyBobbin_ofIndex (b : Blocks) (i : Nat) (g : HeadId) :
    ∀ x ∈ b.emptyBobbin i g, x.ofIndex := by
  intro x hx
  unfold Blocks.emptyBobbin at hx
  split at hx
  · rw [List.mem_singleton.mp hx]
    trivial
  · exact nomatch hx

theorem Blocks.judgedFaults_ofIndex (b : Blocks) (c : Cycle) (g : HeadId) :
    ∀ x ∈ b.judgedFaults c g, x.ofIndex := by
  intro x hx
  unfold Blocks.judgedFaults at hx
  split at hx
  · exact nomatch hx
  · rcases List.mem_append.mp hx with hx | hx
    · split at hx
      · rw [List.mem_singleton.mp hx]
        trivial
      · exact nomatch hx
    · split at hx
      · rw [List.mem_singleton.mp hx]
        trivial
      · exact nomatch hx

/-- Only a STITCH is judged (R122). -/
theorem Blocks.judgedFaults_still (b : Blocks) {c : Cycle} (hk : c.kind ≠ .stitch) (g : HeadId) :
    b.judgedFaults c g = [] := by
  rw [Blocks.judgedFaults, Blocks.verdictOf, if_neg (fun h => hk h.1)]

theorem Blocks.lowered_ofEnd (b : Blocks) (c : Cycle) : ∀ x ∈ (b.lowered c).2, x.ofEnd c := by
  obtain ⟨ru, hu, heq, -⟩ := b.lowered_eq c
  rw [heq]
  intro x hx
  dsimp only at hx
  split at hx
  · next hk =>
    obtain ⟨g, -, hg⟩ := List.mem_flatMap.mp hx
    exact ⟨b.emptyBobbin_ofIndex c.index g x hg, .inl hk⟩
  · exact nomatch hx

theorem Blocks.judged_ofEnd (b : Blocks) (plan : PlanMode) (c : Cycle) :
    ∀ x ∈ (b.judged plan c).2, x.ofEnd c := by
  obtain ⟨ru, tm, heq, -⟩ := b.judged_eq plan c
  rw [heq]
  intro x hx
  obtain ⟨g, -, hg⟩ := List.mem_flatMap.mp hx
  refine ⟨b.judgedFaults_ofIndex c g x hg, .inl ?_⟩
  by_contra hk
  rw [b.judgedFaults_still hk g] at hg
  exact nomatch hg

theorem Blocks.jumpLate_ofEnd (b : Blocks) (c : Cycle) : ∀ x ∈ b.jumpLate c, x.ofEnd c := by
  intro x hx
  unfold Blocks.jumpLate at hx
  split at hx
  · rw [List.mem_singleton.mp hx]
    exact b.moveLateOf_ofEnd c.index
  · exact nomatch hx

/-- The index that ends a cycle, in a mode that its conditions keep: the record is counted sewn between
two runs of it. -/
theorem Blocks.Mode.endCycle {M' : Blocks → Prop} (k : Blocks.Mode plan c M)
    (k' : Blocks.Mode plan c M') (choice : Nat → Nat) (ns : Nat) (h : M b)
    (hturns : b.sc.turns = true) (hidle : b.fl.waiting = [])
    (hsewn : ∀ x : Blocks, b.Counted x → M x → M' (x.recordSewn plan c)) :
    ∃ x y : Blocks, b.Counted x ∧ M x ∧ (x.recordSewn plan c).Along y ∧ M' y
      ∧ M' (Blocks.endCycle choice ns plan c b)
      ∧ (b.sc.state = .stopping → b.sc.demanded ≤ 200 →
        (Blocks.endCycle choice ns plan c b).sc = y.sc.rest
        ∧ (Blocks.endCycle choice ns plan c b).rc.stop = some ⟨some c.index,
            y.cycleIndex plan (c.index + 1), true, y.points plan (y.cycleIndex plan (c.index + 1))⟩) := by
  obtain ⟨first, others, early, late, deferred, hfirst, hrest, heq⟩ :=
    b.endCycle_stages choice ns plan c
  have ofFirst (x : Condition) (hx : x ∈ first ++ others) : x.ofEnd c :=
    Blocks.lowered_ofEnd _ c x (hfirst.mem_iff.mp hx)
  have ofRest (x : Condition) (hx : x ∈ early ++ (late ++ deferred)) : x.ofEnd c := by
    rcases List.mem_append.mp (hrest.mem_iff.mp hx) with hx | hx
    · rcases List.mem_append.mp hx with hx | hx
      · exact ofFirst x (List.mem_append_right _ hx)
      · exact Blocks.judged_ofEnd _ plan c x hx
    · exact Blocks.jumpLate_ofEnd _ c x hx
  obtain ⟨counted, kept⟩ := k.closedAt ns h hturns hidle
    (fun x hx => ofFirst x (List.mem_append_left _ hx))
  rw [heq]
  generalize (b.closedAt plan c ns first).1 = x at counted kept
  have sewn := hsewn x counted kept
  obtain ⟨-, -, -, -, hsc, -, hfl, -⟩ := x.recordSewn_keeps plan c
  obtain ⟨along, kept', ended, rests⟩ := k'.decidedOn sewn
    (by rw [hsc]; exact counted.turns.trans hturns) (by rw [hfl, counted.waiting, hidle]) ofRest
  refine ⟨x, _, counted, kept, along, kept', ended, fun hstopping hslow => rests ?_ ?_⟩
  · rw [hsc]
    exact counted.slowing hstopping
  · rw [hsc]
    exact counted.previous.trans_le hslow

end

/-! ## The modes of a run and of a patch run -/

variable {c : Cycle}

theorem Blocks.decideNext_sewsRun {b : Blocks} (h : b.sewsRun) (plan : PlanMode) :
    (b.decideNext plan c).sewsRun := by
  obtain ⟨hrc, -⟩ := b.decideNext_keeps plan c
  rw [Blocks.sewsRun, Blocks.patchWork, runIsOf, hrc]
  exact h

theorem Blocks.mode_run (plan : PlanMode) (c : Cycle) : Blocks.Mode plan c Blocks.sewsRun where
  takes h hx := by
    obtain ⟨along, sews, -⟩ := Blocks.take_sewsRun h hx.1
    exact ⟨along, sews⟩
  decides h _ := Blocks.decideNext_sewsRun h plan
  congr h hrc _ _ _ _ _ := Blocks.sewsRun_of_rc h hrc

/-- A run that sews, no head of which can be isolated at this cycle end: its ranges stay. -/
def Blocks.sewsStill (c : Cycle) (rt : Eight (List Range)) (b : Blocks) : Prop :=
  b.sewsRun ∧ b.rt = rt ∧ (c.kind ≠ .stitch ∨ b.cf.settings.policy = .stopAll)

theorem Blocks.mode_still (plan : PlanMode) (c : Cycle) (rt : Eight (List Range)) :
    Blocks.Mode plan c (Blocks.sewsStill c rt) where
  takes := fun {b x} ⟨h, hrt, hstill⟩ hx => by
    obtain ⟨along, sews, still⟩ := Blocks.take_sewsRun h hx.1
    refine ⟨along, sews, (still ?_).trans hrt, hstill.imp_right fun hp => by rw [along.cf]; exact hp⟩
    exact hstill.symm.imp_right fun hk => hx.2.resolve_left hk
  decides := fun {b} ⟨h, hrt, hstill⟩ _ => by
    obtain ⟨-, rt', hcf, -⟩ := b.decideNext_keeps plan c
    exact ⟨Blocks.decideNext_sewsRun h plan, rt'.trans hrt, by rw [hcf]; exact hstill⟩
  congr := fun ⟨h, hrt, hstill⟩ hrc _ _ hrt' hcf _ =>
    ⟨Blocks.sewsRun_of_rc h hrc, hrt'.trans hrt, by rw [hcf]; exact hstill⟩

/-- A patch run that sews, with its store and its ranges. -/
def Blocks.sewsPatchOf (tag : Byte) (base : BaseState) (w : PatchWork) (ds : Ds)
    (rt : Eight (List Range)) (b : Blocks) : Prop :=
  b.sewsPatch tag base w ∧ b.ds = ds ∧ b.rt = rt

theorem Blocks.mode_patch (plan : PlanMode) (c : Cycle) (tag : Byte) (base : BaseState) (w : PatchWork)
    (ds : Ds) (rt : Eight (List Range)) :
    Blocks.Mode plan c (Blocks.sewsPatchOf tag base w ds rt) where
  takes := fun ⟨h, hds, hrt⟩ hx => by
    obtain ⟨along, sews, hrt', hds'⟩ := Blocks.take_sewsPatch h hx.1
    exact ⟨along, sews, hds'.trans hds, hrt'.trans hrt⟩
  decides := fun {b} ⟨⟨hop, hrun, hchange, hgoes⟩, hds, hrt⟩ hturns => by
    obtain ⟨hrc, hrt', -⟩ := b.decideNext_keeps plan c
    obtain ⟨-, -, -, -, goes, -⟩ := b.decideNext_spec plan c hturns hgoes.1
    refine ⟨?_, (b.decideNext_ds plan c).trans hds, hrt'.trans hrt⟩
    rw [Blocks.sewsPatch, hrc]
    exact ⟨hop, hrun, hchange, goes⟩
  congr := fun ⟨h, hds, hrt⟩ hrc hfc hds' hrt' _ hturns =>
    ⟨Blocks.sewsPatch_of_rc h hrc hfc hturns, hds'.trans hds, hrt'.trans hrt⟩

/-- A record of a run counted sewn leaves a run that sews. -/
theorem Blocks.recordSewn_sewsRun {b : Blocks} (h : b.sewsRun) : (b.recordSewn .run c).sewsRun := by
  obtain ⟨-, -, -, -, -, -, -, -, hstate, -⟩ := b.recordSewn_keeps .run c
  refine ⟨by rw [runIsOf, hstate]; exact h.1, ?_⟩
  have op : (b.recordSewn .run c).rc.op = b.rc.op := by
    unfold Blocks.recordSewn Blocks.countSewn Blocks.advance
    dsimp only
    split
    · simp [Blocks.readSlot]
    · rfl
  rw [Blocks.patchWork, op]
  exact h.2

/-- A record of a patch run counted sewn moves its place past the MARKs that follow (R143). -/
theorem Blocks.recordSewn_sewsPatch {b : Blocks} {tag : Byte} {base : BaseState} {w : PatchWork}
    (h : b.sewsPatch tag base w) {e : Nat} :
    (b.recordSewn (.patch e) c).sewsPatch tag base { w with p := b.pastMarks e (c.index + 1) }
      ∧ (b.recordSewn (.patch e) c).ds = b.ds ∧ (b.recordSewn (.patch e) c).rt = b.rt := by
  obtain ⟨⟨v, hop, hhead, ha, hb, hslot, -⟩, hrun, hchange, hgoes⟩ := h
  have work : b.patchWork = some v := by rw [Blocks.patchWork, hop]
  let x : Blocks := { b with
    sc.cycle := none, hu := Eight.tabulate (fun h => { b.hu.get h with trimmer := false }) }
  have sewn : b.recordSewn (.patch e) c =
      x.setWork (.patch { v with p := b.pastMarks e (c.index + 1) }) := by
    unfold Blocks.recordSewn Blocks.countSewn
    rw [show x.patchWork = some v from work]
    rfl
  have rc : (b.recordSewn (.patch e) c).rc =
      { b.rc with op := some ⟨tag, base, .patch { v with p := b.pastMarks e (c.index + 1) }⟩ } := by
    rw [sewn]
    simp [Blocks.setWork, x, hop]
  refine ⟨?_, by rw [sewn]; rfl, by rw [sewn]; rfl⟩
  rw [Blocks.sewsPatch, Blocks.patchGoesOn, rc, show (b.recordSewn (.patch e) c).fc = b.fc by
    rw [sewn]; rfl, show (b.recordSewn (.patch e) c).sc.turns = b.sc.turns by rw [sewn]; rfl]
  exact ⟨⟨_, rfl, hhead, ha, hb, hslot, rfl⟩, hrun, hchange, hgoes⟩

end Sys2Proof.Machine

end

section
/-!
SUPPORT. The index pulse by the shaft state: the counts of a cycle, the shaft at rest in a run and in a
patch run, and the MOVE_LATE of a JUMP (R35, R47, R48, R52, R57, R61, R143).
-/

namespace Sys2Proof.Machine

open Sys2Proof.Claims

/-! ## The second stage of HOME leaves the shaft and the log -/

@[simp] theorem Blocks.modHome_sc (b : Blocks) (f : HomeWork → HomeWork) :
    (b.modHome f).sc = b.sc := by
  unfold Blocks.modHome; split <;> simp

@[simp] theorem Blocks.modHome_fl (b : Blocks) (f : HomeWork → HomeWork) :
    (b.modHome f).fl = b.fl := by
  unfold Blocks.modHome; split <;> simp

@[simp] theorem Blocks.beginAxisHoming_sc (b : Blocks) (ax : Axis) :
    (b.beginAxisHoming ax).sc = b.sc := by
  unfold Blocks.beginAxisHoming; dsimp only; repeat' split
  all_goals simp

@[simp] theorem Blocks.beginAxisHoming_fl (b : Blocks) (ax : Axis) :
    (b.beginAxisHoming ax).fl = b.fl := by
  unfold Blocks.beginAxisHoming; dsimp only; repeat' split
  all_goals simp

@[simp] theorem Blocks.homeSecond_sc (b : Blocks) : b.homeSecond.sc = b.sc := by
  simp [Blocks.homeSecond]

@[simp] theorem Blocks.homeSecond_fl (b : Blocks) : b.homeSecond.fl = b.fl := by
  simp [Blocks.homeSecond]

/-! ## The index pulse by the shaft state -/

variable {b : Blocks} {c : Cycle} {plan : PlanMode}

/-- The blocks as an index that ends a cycle finds them: the angle 0, and a draw made for its order. -/
def Blocks.indexed (b : Blocks) : Blocks := { b with sc.angle := some 0, draws := b.draws + 1 }

theorem Blocks.indexPulse_ends (ns : Nat) (hstate : b.sc.state ∈ [.turning, .stopping])
    (hplan : b.sc.plan = some plan) (hc : b.sc.cycle = some c) :
    b.indexPulse ns = Blocks.endCycle (Config.freeOrder b.draws) ns plan c b.indexed := by
  have ends : (match b.sc.plan, b.sc.cycle with
      | some plan, some c => Blocks.endCycle (Config.freeOrder b.draws) ns plan c b.indexed
      | _, _ => { b with sc.angle := some 0 })
      = Blocks.endCycle (Config.freeOrder b.draws) ns plan c b.indexed := by rw [hplan, hc]
  obtain hs | hs : b.sc.state = .turning ∨ b.sc.state = .stopping := by simpa using hstate
  all_goals
    rw [← ends, Blocks.indexPulse, hs]
    rfl

/-! ## The counts of every cycle's end -/

/-- The index that ends a cycle counts it, and in a run passes its record (R52). -/
theorem Blocks.endCycle_counts (choice : Nat → Nat) (ns : Nat) (plan : PlanMode) (c : Cycle)
    (b : Blocks) :
    let t := Blocks.endCycle choice ns plan c b
    t.cf = b.cf ∧ t.tp = b.tp ∧ t.rc.runExists = b.rc.runExists ∧ t.ds.load = b.ds.load
      ∧ t.sc.cycleCount = b.sc.cycleCount + 1
      ∧ (plan = .run → b.ds.sew < b.ds.load → t.ds.sew = b.ds.sew + 1) := by
  intro t
  obtain ⟨first, others, early, late, deferred, -, -, heq⟩ := b.endCycle_stages choice ns plan c
  have events := b.eventsAtIndex_lasts c
  have upTo : (b.angled c ns).Lasts (b.closedAt plan c ns first).1 :=
    (((b.angled c ns).lowered_lasts c).trans (Blocks.report_lasts _ first)).trans
      (Blocks.judged_lasts _ plan c)
  have after := Blocks.decidedOn_lasts ((b.closedAt plan c ns first).1.recordSewn plan c) plan c early
    late deferred
  rw [← heq] at after
  generalize (b.closedAt plan c ns first).1 = x at upTo after
  obtain ⟨hcf, htp, hrun, hload, hsc, -⟩ := x.recordSewn_keeps plan c
  have load : x.ds.load = b.ds.load := upTo.load.trans events.load
  have sew : x.ds.sew = b.ds.sew := upTo.sew.trans events.sew
  refine ⟨after.cf.trans (hcf.trans (upTo.cf.trans events.cf)),
    after.tp.trans (htp.trans (upTo.tp.trans events.tp)),
    after.runExists.trans (hrun.trans (upTo.runExists.trans events.runExists)),
    after.load.trans (hload.trans load), ?_, fun hplan hroom => ?_⟩
  · rw [after.cycleCount, hsc]
    exact upTo.cycleCount.trans (congrArg (· + 1) events.cycleCount)
  · subst hplan
    rw [after.sew, x.recordSewn_ds_run, (x.advance_sews (by rwa [sew, load])).sew, sew]

/-! ## The shaft at rest -/

/-- Only the cycle count is left of a shaft brought to rest (R57). -/
theorem Sc.rest_eq (s s' : Sc) : s.rest = { shaftAtRest s' with cycleCount := s.cycleCount } := rfl

/-- What a run's store still holds ahead of S when the next cycle is decided (R22, R23). -/
theorem Blocks.recordSewn_ahead {x y : Blocks} (h : b.ds.Released x.ds)
    (k : (x.recordSewn .run c).ds.Released y.ds) (htail : b.ds.tail ≤ b.ds.sew)
    (hroom : b.ds.sew < b.ds.load) :
    y.ds.load = b.ds.load ∧ y.ds.channel = b.ds.channel
      ∧ ∀ kind, y.ds.hasKind (b.ds.sew + 1) kind = b.ds.hasKind (b.ds.sew + 1) kind := by
  rw [x.recordSewn_ds_run] at k
  have room : x.ds.sew < x.ds.load := by rwa [h.sew, h.load]
  have sews := (x.advance_sews room).trans k
  have tail : x.ds.tail ≤ x.ds.sew + 1 := (h.tail htail).trans (Nat.le_succ _)
  refine ⟨sews.load.trans h.load, sews.channel.trans h.channel, fun kind => ?_⟩
  rw [← h.hasKind htail (Nat.le_succ _) kind, ← h.sew]
  exact sews.hasKind tail le_rfl kind

/-- A shaft that steps down comes to rest at the index that ends a cycle of a run, with the stop points
that stand there (R57, R61). -/
theorem Blocks.endCycle_run_rests (choice : Nat → Nat) (ns : Nat) (h : b.sewsRun)
    (hidle : b.fl.waiting = []) (hstopping : b.sc.state = .stopping) (hslow : b.sc.demanded ≤ 200) :
    let t := Blocks.endCycle choice ns .run c b
    ∃ y : Blocks, t.sc = y.sc.rest ∧ y.cf = b.cf
      ∧ t.rc.stop = some ⟨some c.index, c.index + 1, true, y.points .run (c.index + 1)⟩
      ∧ (b.ds.tail ≤ b.ds.sew → b.ds.sew < b.ds.load →
        y.ds.load = b.ds.load ∧ y.ds.channel = b.ds.channel
          ∧ ∀ kind, y.ds.hasKind (b.ds.sew + 1) kind = b.ds.hasKind (b.ds.sew + 1) kind)
      ∧ (c.kind ≠ .stitch ∨ b.cf.settings.policy = .stopAll → y.rt = b.rt) := by
  intro t
  have turns : b.sc.turns = true := by rw [Sc.turns_iff, hstopping]; simp
  have cf {x y : Blocks} (counted : b.Counted x) (along : (x.recordSewn .run c).Along y) :
      y.cf = b.cf :=
    along.cf.trans ((x.recordSewn_keeps .run c).1.trans counted.cf)
  by_cases hstill : c.kind ≠ .stitch ∨ b.cf.settings.policy = .stopAll
  · have mode := Blocks.mode_still .run c b.rt
    obtain ⟨x, y, counted, -, along, ⟨-, hrt, -⟩, -, rests⟩ := mode.endCycle mode choice ns
      ⟨h, rfl, hstill⟩ turns hidle (fun x _ ⟨sews, hrt, still⟩ => by
        obtain ⟨hcf, -, -, -, -, -, -, hrt', -⟩ := x.recordSewn_keeps .run c
        exact ⟨Blocks.recordSewn_sewsRun sews, hrt'.trans hrt, by rw [hcf]; exact still⟩)
    obtain ⟨hsc, hstop⟩ := rests hstopping hslow
    exact ⟨y, hsc, cf counted along, hstop, Blocks.recordSewn_ahead counted.ds along.ds, fun _ => hrt⟩
  · have mode := Blocks.mode_run .run c
    obtain ⟨x, y, counted, -, along, -, -, rests⟩ := mode.endCycle mode choice ns h turns hidle
      (fun x _ sews => Blocks.recordSewn_sewsRun sews)
    obtain ⟨hsc, hstop⟩ := rests hstopping hslow
    exact ⟨y, hsc, cf counted along, hstop, Blocks.recordSewn_ahead counted.ds along.ds,
      fun hs => absurd hs hstill⟩

/-- The end of a cycle of a patch run moves p past the MARKs and leaves the store and the ranges; a shaft
that steps down comes to rest with the stop points that stand at p (R61, R143). -/
theorem Blocks.endCycle_patch (choice : Nat → Nat) (ns : Nat) {tag : Byte} {base : BaseState}
    {w : PatchWork} (h : b.sewsPatch tag base w) (hturns : b.sc.turns = true)
    (hidle : b.fl.waiting = []) :
    let t := Blocks.endCycle choice ns (.patch w.b) c b
    let p := b.pastMarks w.b (c.index + 1)
    t.sewsPatch tag base { w with p := p } ∧ t.ds = b.ds ∧ t.rt = b.rt
      ∧ (b.sc.state = .stopping → b.sc.demanded ≤ 200 → ∃ y : Blocks, t.sc = y.sc.rest
        ∧ t.rc.stop = some ⟨some c.index, p, true, b.points (.patch w.b) p⟩) := by
  intro t p
  have past {x : Blocks} (hx : x.ds = b.ds) : x.pastMarks w.b (c.index + 1) = p := by
    rw [Blocks.pastMarks, hx]
    rfl
  obtain ⟨x, y, -, -, -, ⟨-, hds, -⟩, ⟨sews, hds', hrt'⟩, rests⟩ :=
    (Blocks.mode_patch (.patch w.b) c tag base w b.ds b.rt).endCycle
      (Blocks.mode_patch (.patch w.b) c tag base { w with p := p } b.ds b.rt) choice ns ⟨h, rfl, rfl⟩
      hturns hidle (fun x _ ⟨sews, hds, hrt⟩ => by
        obtain ⟨sews', hds', hrt'⟩ := Blocks.recordSewn_sewsPatch (c := c) sews (e := w.b)
        rw [past hds] at sews'
        exact ⟨sews', hds'.trans hds, hrt'.trans hrt⟩)
  refine ⟨sews, hds', hrt', fun hstopping hslow => ?_⟩
  obtain ⟨hsc, hstop⟩ := rests hstopping hslow
  have index : y.cycleIndex (.patch w.b) (c.index + 1) = p := past hds
  have points : y.points (.patch w.b) p = b.points (.patch w.b) p := by
    simp only [Blocks.points, hds]
  rw [index, points] at hstop
  exact ⟨y, hsc, hstop⟩

/-! ## The end of a JUMP or a TRIM -/

theorem Blocks.eventsAtIndex_quiet (b : Blocks) (hk : c.kind ≠ .stitch) :
    let y := b.eventsAtIndex c
    y.fl = b.fl ∧ y.rc = b.rc ∧ y.fc = b.fc ∧ y.ds = b.ds := by
  rw [b.eventsAtIndex_eq, Blocks.giveEntry_plain (.inl hk)]
  split_ifs <;> exact ⟨rfl, rfl, rfl, rfl⟩

/-- Up to the closing of its windows, the end of a JUMP or a TRIM raises nothing (R35, R114, R122). -/
theorem Blocks.closedAt_quiet (b : Blocks) (plan : PlanMode) (ns : Nat) (hk : c.kind ≠ .stitch)
    (hidle : b.fl.waiting = []) :
    ((b.angled c ns).lowered c).2 = []
      ∧ (b.closedAt plan c ns []).2 = []
      ∧ (b.closedAt plan c ns []).1.fl = b.fl ∧ (b.closedAt plan c ns []).1.rc = b.rc
      ∧ (b.closedAt plan c ns []).1.fc = b.fc ∧ (b.closedAt plan c ns []).1.ds = b.ds
      ∧ (b.closedAt plan c ns []).1.sc.cycleCount = b.sc.cycleCount + 1 := by
  obtain ⟨hfl, hrc, hfc, hds⟩ := b.eventsAtIndex_quiet hk
  have lowered : (b.angled c ns).lowered c = (b.angled c ns, []) := if_neg hk
  have nothing : (b.angled c ns).report [] = b.angled c ns :=
    Blocks.report_nothing (show (b.eventsAtIndex c).fl.waiting = [] by rw [hfl, hidle])
  obtain ⟨ru, tm, hjudged, -⟩ := (b.angled c ns).judged_eq plan c
  have closed : b.closedAt plan c ns [] = ({ b.angled c ns with tm := tm, ru := ru }, []) := by
    have none : Id8.all.flatMap ((b.angled c ns).judgedFaults c) = [] := by
      rw [List.flatMap_eq_nil_iff]
      exact fun g _ => Blocks.judgedFaults_still _ hk g
    rw [Blocks.closedAt, lowered, nothing, hjudged, none]
  rw [closed, lowered]
  exact ⟨rfl, rfl, hfl, hrc, hfc, hds, congrArg (· + 1) (b.eventsAtIndex_lasts c).cycleCount⟩

theorem Blocks.lastTaken_nothing (hidle : b.fl.waiting = []) : b.lastTaken plan [] = b := by
  unfold Blocks.lastTaken
  split
  · rw [List.append_nil]
  · exact Blocks.report_nothing hidle

/-- The end of a JUMP or a TRIM: the conditions that stand, at most the MOVE_LATE of the jump's move, are
taken from the record counted sewn on (R35, R52). -/
theorem Blocks.endCycle_quiet (choice : Nat → Nat) (ns : Nat) (plan : PlanMode)
    (hk : c.kind ≠ .stitch) (hidle : b.fl.waiting = []) :
    ∃ (x : Blocks) (early late deferred : List Condition),
      x.fl = b.fl ∧ x.rc = b.rc ∧ x.fc = b.fc ∧ x.ds = b.ds
      ∧ x.sc.cycleCount = b.sc.cycleCount + 1
      ∧ (early ++ (late ++ deferred)).Perm (x.jumpLate c)
      ∧ Blocks.endCycle choice ns plan c b =
          (x.recordSewn plan c).decidedOn plan c early late deferred := by
  obtain ⟨first, others, early, late, deferred, hfirst, hrest, heq⟩ :=
    b.endCycle_stages choice ns plan c
  obtain ⟨hlowered, hjudged, hfl, hrc, hfc, hds, hcount⟩ := b.closedAt_quiet plan ns hk hidle
  rw [hlowered, List.perm_nil, List.append_eq_nil_iff] at hfirst
  obtain ⟨rfl, rfl⟩ := hfirst
  rw [hjudged] at hrest
  exact ⟨_, early, late, deferred, hfl, hrc, hfc, hds, hcount, hrest, heq⟩

/-- A JUMP whose move is done, and a TRIM, raise nothing (R35). -/
theorem Blocks.endCycle_raises_nothing (choice : Nat → Nat) (ns : Nat) (plan : PlanMode)
    (hk : c.kind ≠ .stitch) (hdone : c.kind = .jump → b.fc.notDone c.index = false)
    (hidle : b.fl.waiting = []) : (Blocks.endCycle choice ns plan c b).fl = b.fl := by
  obtain ⟨x, early, late, deferred, hfl, -, hfc, -, -, hperm, heq⟩ :=
    Blocks.endCycle_quiet (c := c) choice ns plan hk hidle
  have none : x.jumpLate c = [] := if_neg fun ⟨hj, hlate⟩ => by
    rw [hfc, hdone hj] at hlate
    exact nomatch hlate
  rw [none, List.perm_nil, List.append_eq_nil_iff, List.append_eq_nil_iff] at hperm
  obtain ⟨rfl, rfl, rfl⟩ := hperm
  obtain ⟨-, -, -, -, -, -, hsewn, -⟩ := x.recordSewn_keeps plan c
  obtain ⟨-, -, -, decided, -⟩ := (x.recordSewn plan c).decideNext_keeps plan c
  have idle : (x.recordSewn plan c).fl.waiting = [] := by rw [hsewn, hfl, hidle]
  have idle' : ((x.recordSewn plan c).decideNext plan c).fl.waiting = [] := by rw [decided, idle]
  rw [heq, Blocks.decidedOn, Blocks.report_nothing idle, Blocks.report_nothing idle',
    Blocks.lastTaken_nothing idle', decided, hsewn, hfl]

/-! ## The MOVE_LATE of a JUMP -/

theorem AxisRec.depart_coordinate (r : AxisRec) (t : Int) (h : r.state = .ready) :
    (r.depart t).coordinate = r.coordinate := by
  unfold AxisRec.depart
  split
  · rfl
  · simp [AxisRec.coordinate, h]

/-- A cycle move begun leaves the coordinates that stand (R34, R156). -/
theorem Fc.beginWaiting_coordinate (l : List CycleMove) (f : Fc) :
    (Fc.beginWaiting l f).x.coordinate = f.x.coordinate
      ∧ (Fc.beginWaiting l f).y.coordinate = f.y.coordinate := by
  induction l generalizing f with
  | nil => exact ⟨rfl, rfl⟩
  | cons m ms ih =>
    unfold Fc.beginWaiting
    split_ifs with h
    · obtain ⟨hx, hy⟩ : f.x.state = .ready ∧ f.y.state = .ready := by
        rw [Bool.and_eq_true] at h
        simpa [Fc.ready] using h.1
      obtain ⟨ihx, ihy⟩ := ih (f.depart (.cycle m.index) m.target)
      exact ⟨ihx.trans (AxisRec.depart_coordinate _ _ hx),
        ihy.trans (AxisRec.depart_coordinate _ _ hy)⟩
    · exact ⟨rfl, rfl⟩

theorem Blocks.decideNext_coordinate (b : Blocks) (plan : PlanMode) (c : Cycle) :
    (b.decideNext plan c).fc.x.coordinate = b.fc.x.coordinate
      ∧ (b.decideNext plan c).fc.y.coordinate = b.fc.y.coordinate := by
  have starts (i : Nat) (r : StoredRecord) (v : Nat) :
      (b.cycleStart plan i r v).fc.x.coordinate = b.fc.x.coordinate
        ∧ (b.cycleStart plan i r v).fc.y.coordinate = b.fc.y.coordinate := by
    unfold Blocks.cycleStart
    dsimp only
    split
    · exact Fc.beginWaiting_coordinate _ _
    · exact ⟨rfl, rfl⟩
  unfold Blocks.decideNext
  dsimp only
  split
  · exact ⟨rfl, rfl⟩
  · split
    · exact starts _ _ _
    · exact ⟨rfl, rfl⟩

/-- The MOVE_LATE of a record, as it is raised at `b` outside a patch run (R35). -/
def Blocks.lateOf (b : Blocks) (i : Nat) : Condition :=
  .moveLate b.rc.slotInEffect i (axisAt b.fc.x) (axisAt b.fc.y)

/-- The entry of that MOVE_LATE, the cycle having been counted (R156). -/
def Blocks.lateEntry (b : Blocks) (i : Nat) : Entry :=
  { entryOf b .moveLate .stopAll none (some i) with cycleCount := b.sc.cycleCount + 1 }

/-- What the index leaves as the MOVE_LATE of a JUMP found it: the log, the run, and the coordinates. -/
structure Blocks.AsRaised (b z : Blocks) : Prop where
  sews : z.sewsRun
  fl : z.fl = b.fl
  runState : z.rc.runState = b.rc.runState
  cycleCount : z.sc.cycleCount = b.sc.cycleCount + 1
  channel : z.ds.channel = b.ds.channel
  coordinates : z.fc.x.coordinate = b.fc.x.coordinate ∧ z.fc.y.coordinate = b.fc.y.coordinate

/-- The MOVE_LATE of a JUMP taken: its entry written, and a STOP_ALL (R35, R151). -/
theorem Blocks.AsRaised.take {z : Blocks} (h : b.AsRaised z) (i : Nat) :
    (z.take (b.lateOf i)).fl = b.fl.write (b.lateEntry i)
      ∧ (z.take (b.lateOf i)).rc.causes.fault = true := by
  have entry : z.entry (b.lateOf i) = b.lateEntry i := by
    obtain ⟨hx, hy⟩ := Condition.coordinate_now b.rc.slotInEffect i b.fc.x.coordinate b.fc.y.coordinate
    obtain ⟨zx, zy⟩ := h.coordinates
    unfold Blocks.entry Blocks.lateEntry entryOf
    rw [h.fl, h.runState, h.cycleCount, h.channel, zx, zy]
    exact congrArg₂ (fun x y => (⟨_, _, _, _, _, _, _, _, _, _, _, x, y⟩ : Entry)) hx hy
  have written : (z.writeEntry (b.lateOf i)).sewsRun := Blocks.sewsRun_of_rc h.sews (by simp)
  obtain ⟨-, -, -, hfault⟩ := Blocks.stopAll_sewsRun written
  rw [z.take_stopAll_headless _ rfl (by simp [Blocks.lateOf, Condition.kind]) rfl,
    Blocks.stopAll_fl, Blocks.writeEntry_fl, entry, h.fl]
  exact ⟨rfl, hfault⟩

theorem Blocks.AsRaised.decides {z : Blocks} (h : b.AsRaised z) (plan : PlanMode) (c : Cycle) :
    b.AsRaised (z.decideNext plan c) := by
  obtain ⟨hrc, -, -, hfl, -, hcount⟩ := z.decideNext_keeps plan c
  obtain ⟨hx, hy⟩ := z.decideNext_coordinate plan c
  exact ⟨Blocks.decideNext_sewsRun h.sews plan, hfl.trans h.fl, by rw [hrc, h.runState],
    hcount.trans h.cycleCount, by rw [Blocks.decideNext_ds, h.channel],
    hx.trans h.coordinates.1, hy.trans h.coordinates.2⟩

/-- The MOVE_LATE of a JUMP of a run is taken at this index, or waits with the shaft at rest (R35; log
4). -/
theorem Blocks.endCycle_jumpLate (choice : Nat → Nat) (ns : Nat) (h : b.sewsRun)
    (hk : c.kind = .jump) (hlate : b.fc.notDone c.index = true) (hidle : b.fl.waiting = []) :
    let t := Blocks.endCycle choice ns .run c b
    (t.fl = b.fl.write (b.lateEntry c.index) ∧ t.rc.causes.fault = true)
      ∨ (t.sc.state = .stopped ∧ t.fl = { b.fl with waiting := [b.lateOf c.index] }) := by
  intro t
  obtain ⟨x, early, late, deferred, hfl, hrc, hfc, hds, hcount, hperm, heq⟩ :=
    Blocks.endCycle_quiet (c := c) choice ns .run (by rw [hk]; nofun) hidle
  have raised : x.jumpLate c = [b.lateOf c.index] := by
    have slot : x.sewSlot = b.rc.slotInEffect := by
      obtain ⟨-, work⟩ := Blocks.sewsRun_of_rc h hrc
      rw [Blocks.sewSlot, work, hrc]
    rw [Blocks.jumpLate, if_pos ⟨hk, by rw [hfc]; exact hlate⟩, Blocks.moveLateOf, slot, hfc]
    rfl
  obtain ⟨-, -, -, -, hsc, hfc', hfl', -, hstate, -⟩ := x.recordSewn_keeps .run c
  have found : b.AsRaised (x.recordSewn .run c) := by
    refine ⟨Blocks.recordSewn_sewsRun (Blocks.sewsRun_of_rc h hrc), hfl'.trans hfl,
      by rw [hstate, hrc], by rw [hsc]; exact hcount, ?_, by rw [hfc', hfc]; exact ⟨rfl, rfl⟩⟩
    rw [x.recordSewn_ds_run, Blocks.advance_channel, hds]
  rw [raised] at hperm
  rw [show t = _ from heq]
  generalize x.recordSewn .run c = y at found
  have decided := found.decides .run c
  have idle {z : Blocks} (hz : b.AsRaised z) : z.fl.waiting = [] := by rw [hz.fl, hidle]
  have moment : (early = [b.lateOf c.index] ∧ late = [] ∧ deferred = [])
      ∨ (early = [] ∧ late = [b.lateOf c.index] ∧ deferred = [])
      ∨ (early = [] ∧ late = [] ∧ deferred = [b.lateOf c.index]) := by
    rcases List.append_eq_singleton_iff.mp (List.perm_singleton.mp hperm) with ⟨he, hr⟩ | ⟨he, hr⟩
    · rcases List.append_eq_singleton_iff.mp hr with ⟨hl, hd⟩ | ⟨hl, hd⟩
      · exact .inr (.inr ⟨he, hl, hd⟩)
      · exact .inr (.inl ⟨he, hl, hd⟩)
    · obtain ⟨hl, hd⟩ := List.append_eq_nil_iff.mp hr
      exact .inl ⟨he, hl, hd⟩
  rcases moment with ⟨rfl, rfl, rfl⟩ | ⟨rfl, rfl, rfl⟩ | ⟨rfl, rfl, rfl⟩
  · obtain ⟨hwritten, hfault⟩ := found.take c.index
    obtain ⟨hrc', -, -, hfl'', -⟩ := (y.take (b.lateOf c.index)).decideNext_keeps .run c
    have idle' : ((y.take (b.lateOf c.index)).decideNext .run c).fl.waiting = [] := by
      rw [hfl'', Blocks.take_waiting, idle found]
    left
    rw [Blocks.decidedOn, Blocks.report_one (idle found), Blocks.report_nothing idle',
      Blocks.lastTaken_nothing idle', hfl'', hrc']
    exact ⟨hwritten, hfault⟩
  · have idle' : ((y.decideNext .run c).take (b.lateOf c.index)).fl.waiting = [] := by
      rw [Blocks.take_waiting, idle decided]
    left
    rw [Blocks.decidedOn, Blocks.report_nothing (idle found), Blocks.report_one (idle decided),
      Blocks.lastTaken_nothing idle']
    exact decided.take c.index
  · rw [Blocks.decidedOn, Blocks.report_nothing (idle found), Blocks.report_nothing (idle decided)]
    unfold Blocks.lastTaken
    split
    · next hstopped =>
      right
      rw [idle decided, decided.fl]
      exact ⟨hstopped.2, rfl⟩
    · left
      rw [Blocks.report_one (idle decided)]
      exact decided.take c.index

end Sys2Proof.Machine

namespace Sys2Proof.Proofs

open Sys2Proof.Machine Sys2Proof.Claims

/-- Settles O52: the index pulse in each shaft state, and what the end of a cycle counts, hands on and
raises. -/
theorem theIndexEndsACycle : Obligations.TheIndexEndsACycle := by
  unfold Obligations.TheIndexEndsACycle
  intro d s
  refine ⟨fun hoff => ?_, fun hstopped => ?_, fun hfinding => ?_, ?_⟩
  · exact next_blocks (show s.blk.indexPulse d = s.blk by rw [Blocks.indexPulse, hoff])
  · exact next_blocks (show s.blk.indexPulse d = { s.blk with sc.angle := some 0 } by
      rw [Blocks.indexPulse, hstopped])
  · have found : s.blk.indexPulse d = ({ s.blk with sc := s.blk.sc.rest } : Blocks).homeSecond := by
      rw [Blocks.indexPulse, hfinding]
    exact ⟨_, next_blocks found, Blocks.homeSecond_sc _, Blocks.homeSecond_ds _,
      Blocks.homeSecond_fl _⟩
  intro plan c hstate hplan hc n rests rest late
  have ended := s.blk.indexPulse_ends d hstate hplan hc
  have turns : s.blk.indexed.sc.turns = true := (Sc.turns_iff _).mpr hstate
  obtain ⟨hcf, htp, hexists, hload, hcount, hsew⟩ :=
    s.blk.indexed.endCycle_counts (Config.freeOrder s.blk.draws) d plan c
  have atRest {t y : Blocks} (hsc : t.sc = y.sc.rest)
      (ht : t.sc.cycleCount = s.blk.sc.cycleCount + 1) : t.sc = rest := by
    have count : y.sc.cycleCount = s.blk.sc.cycleCount + 1 := by rw [← ht, hsc]; rfl
    rw [hsc, y.sc.rest_eq s.blk.sc, count]
  refine ⟨_, next_blocks ended, rfl, rfl, hcount, hload, hcf, htp, hexists, hsew, ?_, ?_, ?_, ?_⟩
  · intro hrun hrests hmode hwork
    subst hrun
    obtain ⟨hstopping, hslow, hidle⟩ := hrests
    obtain ⟨y, hsc, hycf, hstop, hahead, hrt⟩ := Blocks.endCycle_run_rests (b := s.blk.indexed) (c := c)
      (Config.freeOrder s.blk.draws) d ⟨hmode, hwork⟩ hidle hstopping hslow
    refine ⟨atRest hsc hcount, _, hstop, fun hi htail hroom => ?_⟩
    obtain ⟨hload', hchannel, hkinds⟩ := hahead htail hroom
    have next : n = s.blk.ds.sew + 1 := congrArg (· + 1) hi
    have kinds (k : RecordKind) : y.ds.hasKind n k = s.blk.ds.hasKind n k := by
      rw [next]
      exact hkinds k
    refine ⟨kinds _, kinds _, kinds _, ?_, rfl, fun hstill => ?_⟩
    · show (n == y.ds.load && !(y.ds.channel == .finished)) = _
      rw [hload', hchannel, Bool.decide_and, beq_eq_decide, beq_eq_decide, ← decide_not]
      rfl
    · show (y.pinStop == some n) = _
      rw [Blocks.pinStop, Blocks.e, hrt hstill, hycf, beq_eq_decide]
      rfl
  · intro tag base w hpatch hop hrun hidle htravel hchange
    subst hpatch
    have sews : s.blk.indexed.sewsPatch tag base w :=
      ⟨⟨w, hop, rfl, rfl, rfl, rfl, rfl⟩, hrun, hchange, htravel, .inl turns⟩
    obtain ⟨⟨⟨w', hop', hhead, ha, hb, hslot, hp⟩, -⟩, hds, hrt, hrests⟩ :=
      Blocks.endCycle_patch (b := s.blk.indexed) (c := c) (Config.freeOrder s.blk.draws) d sews turns
        hidle
    refine ⟨hds, hrt, w', hop', hhead, ha, hb, hslot, hp, fun ⟨hstopping, hslow, _⟩ => ?_⟩
    obtain ⟨y, hsc, hstop⟩ := hrests hstopping hslow
    rw [hp]
    exact ⟨atRest hsc hcount, hstop⟩
  · intro hrun hk hlate hidle hmode hwork
    subst hrun
    have raised := Blocks.endCycle_jumpLate (b := s.blk.indexed) (Config.freeOrder s.blk.draws) d
      ⟨hmode, hwork⟩ hk hlate hidle
    dsimp only at raised ⊢
    exact raised
  · intro hk hdone hidle
    exact Blocks.endCycle_raises_nothing (b := s.blk.indexed) (Config.freeOrder s.blk.draws) d plan hk
      hdone hidle

end Sys2Proof.Proofs
end

section
/-!
SUPPORT. The feed pulses, the judgement of a closed window, and what the end of a cycle makes of one
head's window and of its bobbin (R114, R119, R121 to R127).
-/

namespace Sys2Proof.Machine

open Sys2Proof.Claims

variable {b : Blocks} {h : HeadId}

/-! ## Feed pulses -/

theorem Eight.update_same {α : Type} (e : Eight α) (i : Id8) (f : α → α) (h : f (e.get i) = e.get i) :
    e.update i f = e := by
  rw [Eight.update_eq_set, h, Eight.set_get]

/-- A pulse in an open window is counted (R121). -/
theorem Blocks.feedPulse_counts {w : Window} (hconf : h.num ≤ b.cf.config.headCount)
    (hon : (b.hu.get h).state ≠ .off) (hw : (b.tm.get h).window = some w) :
    b.feedPulse h = withMonitor b h
      { b.tm.get h with window := some { w with pulses := min 65535 (w.pulses + 1) } } := by
  unfold Blocks.feedPulse
  rw [if_pos (by simp [Blocks.configured, hconf, hon]), Blocks.modMonitor, Eight.update_eq_set, hw]
  rfl

/-- A pulse with no open window, of a head that is OFF or of one not configured, is not counted. -/
theorem Blocks.feedPulse_lost (hlost : (b.tm.get h).window = none ∨ (b.hu.get h).state = .off
    ∨ b.cf.config.headCount < h.num) : b.feedPulse h = b := by
  unfold Blocks.feedPulse
  split
  · next hcounts =>
    obtain ⟨hconf, hon⟩ : h.num ≤ b.cf.config.headCount ∧ (b.hu.get h).state ≠ .off := by
      simpa [Blocks.configured] using hcounts
    have hnone := (hlost.resolve_right fun ho => ho.elim hon fun hn => absurd hconf (Nat.not_le.mpr hn))
    rw [Blocks.modMonitor, Eight.update_same]
    rw [hnone, Option.map_none, ← hnone]
  · rfl

/-! ## The judgement of a window -/

variable (m : Monitor) (x : Settings) (index : Nat) (w : Window)

/-- Below the floor the window is low (R123). -/
theorem Monitor.judge_low (hlow : w.pulses < x.breakFloor) :
    let start := if m.low = 0 then some index else m.breakStart
    let soft := min 65535 (m.soft + 1)
    let warn := decide (x.warnThreshold ≤ soft) && !m.warnLatch
    m.judge x index w =
      { monitor := { m with
          low := m.low + 1, high := 0, breakStart := start, soft := soft
          warnLatch := m.warnLatch || warn }
        warn := warn
        threadBreak := if x.breakCount ≤ m.low + 1 then some (start.getD index) else none
        loose := false } := by
  simp [Monitor.judge, hlow]

/-- Above the ceiling of its class the window is high (R123). -/
theorem Monitor.judge_high (hfloor : x.breakFloor ≤ w.pulses) (hhigh : ceiling x w.cls < w.pulses) :
    let soft := min 65535 (m.soft + 1)
    let warn := decide (x.warnThreshold ≤ soft) && !m.warnLatch
    m.judge x index w =
      { monitor := { m with
          low := 0, high := m.high + 1, breakStart := none, soft := soft
          warnLatch := m.warnLatch || warn }
        warn := warn, threadBreak := none, loose := decide (x.looseCount ≤ m.high + 1) } := by
  simp [Monitor.judge, Nat.not_lt.mpr hfloor, hhigh]

/-- Otherwise both counts are 0 (R123). -/
theorem Monitor.judge_plain (hfloor : x.breakFloor ≤ w.pulses) (hhigh : w.pulses ≤ ceiling x w.cls) :
    m.judge x index w =
      ⟨{ m with low := 0, high := 0, breakStart := none }, false, none, false⟩ := by
  simp [Monitor.judge, Nat.not_lt.mpr hfloor, Nat.not_lt.mpr hhigh]

/-! ## The window of one head at the end of a cycle -/

theorem Monitor.shut_eq (plan : PlanMode) (u : Head) : m.shut plan u = windowClosed plan u m := by
  unfold Monitor.shut windowClosed
  simp only [Bool.and_eq_true, beq_iff_eq, bne_iff_ne]
  rfl

variable {plan : PlanMode} {c : Cycle} {cs : List Condition}

theorem Blocks.closeWindowOf_out (hout : (b.hu.get h).takesPart = false) :
    Blocks.closeWindowOf plan c (b, cs) h = (b, cs) := by
  unfold Blocks.closeWindowOf
  dsimp only
  rw [hout]
  rfl

/-- The settle of a head advances by a STITCH (R119). -/
theorem Blocks.closeWindowOf_settles (hpart : (b.hu.get h).takesPart = true) (hk : c.kind = .stitch)
    (hsettles : (b.tm.get h).state = .settling) :
    Blocks.closeWindowOf plan c (b, cs) h =
      (withMonitor b h (windowClosed plan (b.hu.get h) (b.tm.get h).advanceSettle), cs) := by
  rw [← Monitor.shut_eq]
  unfold Blocks.closeWindowOf
  dsimp only
  rw [if_pos hpart, if_pos ⟨hk, hsettles⟩]
  rfl

/-- A window that is not judged closes (R116, R122). -/
theorem Blocks.closeWindowOf_shuts (hpart : (b.hu.get h).takesPart = true)
    (hno : c.kind ≠ .stitch ∨ (b.tm.get h).state = .off
      ∨ ((b.tm.get h).state = .armed ∧ (b.hu.get h).faultFlag = true)) :
    Blocks.closeWindowOf plan c (b, cs) h =
      (withMonitor b h (windowClosed plan (b.hu.get h) (b.tm.get h)), cs) := by
  have settles : ¬ (c.kind = .stitch ∧ (b.tm.get h).state = .settling) := by
    rintro ⟨hk, hs⟩
    rcases hno with hno | hno | ⟨hno, -⟩
    · exact hno hk
    all_goals exact nomatch hno.symm.trans hs
  have judges : ¬ (c.kind = .stitch ∧ (b.tm.get h).state = .armed ∧ (b.hu.get h).faultFlag = false) := by
    rintro ⟨hk, ha, hf⟩
    rcases hno with hno | hno | ⟨-, hno⟩
    · exact hno hk
    · exact nomatch hno.symm.trans ha
    · exact nomatch hno.symm.trans hf
  rw [← Monitor.shut_eq]
  unfold Blocks.closeWindowOf
  dsimp only
  rw [if_pos hpart, if_neg settles, if_neg judges]
  rfl

/-- The window of an ARMED head without its flag is judged (R122 to R127). -/
theorem Blocks.closeWindowOf_judges (hpart : (b.hu.get h).takesPart = true) (hk : c.kind = .stitch)
    (harmed : (b.tm.get h).state = .armed) (hflag : (b.hu.get h).faultFlag = false)
    (hw : (b.tm.get h).window = some w) :
    let v := (b.tm.get h).judge b.cf.settings c.index w
    let judged := withMonitor b h (windowClosed plan (b.hu.get h) v.monitor)
    Blocks.closeWindowOf plan c (b, cs) h =
      (if v.warn then judged.headEvent h .tensionWarn else judged,
        cs ++ (match v.threadBreak with
            | some a => [.threadBreak h (b.hu.get h).selector.needle b.sewSlot c.index a]
            | none => [])
          ++ (if v.loose then
              [.tensionLoose h (b.hu.get h).selector.needle b.sewSlot c.index] else [])) := by
  intro v judged
  have settles : ¬ (c.kind = .stitch ∧ (b.tm.get h).state = .settling) := fun ⟨_, hs⟩ =>
    nomatch hs.symm.trans harmed
  have shut : judged = { b with tm := b.tm.set h (v.monitor.shut plan (b.hu.get h)) } := by
    rw [Monitor.shut_eq]
    rfl
  rw [shut]
  unfold Blocks.closeWindowOf
  dsimp only
  rw [if_pos hpart, if_neg settles, if_pos ⟨hk, harmed, hflag⟩, hw]
  rfl

/-! ## The bobbin of one head at the end of a cycle -/

theorem Blocks.lowerBobbinOf_out (hout : (b.hu.get h).takesPart = false) :
    Blocks.lowerBobbinOf index (b, cs) h = (b, cs) := by
  unfold Blocks.lowerBobbinOf
  dsimp only
  rw [hout]
  rfl

theorem Head.lowerBobbin_still (u : Head) (mark : Nat) (hno : u.bobbin = none ∨ u.bobbin = some 0) :
    u.lowerBobbin mark = (u, false, false) := by
  unfold Head.lowerBobbin
  rcases hno with hno | hno <;> rw [hno]

theorem Head.lowerBobbin_lowers (u : Head) (mark n : Nat) (hn : u.bobbin = some (n + 1)) :
    let low := decide (n ≤ mark) && !u.lowLatch
    u.lowerBobbin mark = ({ u with bobbin := some n, lowLatch := u.lowLatch || low }, low, n == 0) := by
  unfold Head.lowerBobbin
  rw [hn]

/-- A bobbin count of a head that takes part (R114). -/
theorem Blocks.lowerBobbinOf_part (hpart : (b.hu.get h).takesPart = true) :
    let r := (b.hu.get h).lowerBobbin b.cf.settings.bobbinLow
    let x : Blocks := { b with hu := b.hu.set h r.1 }
    Blocks.lowerBobbinOf index (b, cs) h =
      (if r.2.1 then x.headEvent h .bobbinLow else x,
        if r.2.2 then cs ++ [.bobbinEmpty h (b.hu.get h).selector.needle b.sewSlot index] else cs) := by
  intro r x
  unfold Blocks.lowerBobbinOf
  dsimp only
  rw [if_pos hpart]

end Sys2Proof.Machine

namespace Sys2Proof.Proofs

open Sys2Proof.Machine Sys2Proof.Claims

/-- A feed pulse, for O54. -/
theorem feedPulses (h : HeadId) (s : State) :
    (∀ w, h.num ≤ s.blk.cf.config.headCount → (s.blk.hu.get h).state ≠ .off →
      (s.blk.tm.get h).window = some w →
      exec (.threadFeedPulse h) s = .next (withBlocks s (withMonitor s.blk h
        { s.blk.tm.get h with window := some { w with pulses := min 65535 (w.pulses + 1) } })))
    ∧ ((s.blk.tm.get h).window = none ∨ (s.blk.hu.get h).state = .off
        ∨ s.blk.cf.config.headCount < h.num → exec (.threadFeedPulse h) s = .next s) :=
  ⟨fun _ hconf hon hw => next_blocks (Blocks.feedPulse_counts hconf hon hw),
    fun hlost => next_blocks (Blocks.feedPulse_lost hlost)⟩

/-- The judgement of a window, for O54. -/
theorem windowsJudged (m : Monitor) (x : Settings) (index : Nat) (w : Window) :
    let v := m.judge x index w
    let top := match w.cls with
      | .short => x.looseShort
      | .medium => x.looseMedium
      | .long => x.looseLong
    (w.pulses < x.breakFloor →
      v.monitor.low = m.low + 1 ∧ v.monitor.high = 0 ∧ v.monitor.soft = min 65535 (m.soft + 1)
        ∧ v.loose = false ∧ (v.threadBreak ≠ none ↔ x.breakCount ≤ m.low + 1)
        ∧ v.warn = (decide (x.warnThreshold ≤ min 65535 (m.soft + 1)) && !m.warnLatch)
        ∧ v.monitor.warnLatch = (m.warnLatch || v.warn)
        ∧ (m.low = 0 → v.monitor.breakStart = some index)
        ∧ (m.low ≠ 0 → v.monitor.breakStart = m.breakStart)
        ∧ (∀ a, v.threadBreak = some a → m.low = 0 → a = index)
        ∧ (∀ a, v.threadBreak = some a → m.low ≠ 0 → m.breakStart ≠ none → m.breakStart = some a))
    ∧ (x.breakFloor ≤ w.pulses → w.pulses ≤ top →
      v.monitor = { m with low := 0, high := 0, breakStart := none }
        ∧ v.loose = false ∧ v.warn = false ∧ v.threadBreak = none)
    ∧ (x.breakFloor ≤ w.pulses → top < w.pulses →
      v.monitor.low = 0 ∧ v.monitor.high = m.high + 1 ∧ v.monitor.breakStart = none
        ∧ v.monitor.soft = min 65535 (m.soft + 1) ∧ v.threadBreak = none
        ∧ v.warn = (decide (x.warnThreshold ≤ min 65535 (m.soft + 1)) && !m.warnLatch)
        ∧ v.monitor.warnLatch = (m.warnLatch || v.warn)
        ∧ (v.loose = true ↔ x.looseCount ≤ m.high + 1)) := by
  intro v top
  have ceil : top = ceiling x w.cls := by
    show (match w.cls with
      | .short => x.looseShort | .medium => x.looseMedium | .long => x.looseLong) = _
    cases w.cls <;> rfl
  refine ⟨fun hlow => ?_, fun hfloor hhigh => ?_, fun hfloor hhigh => ?_⟩
  · rw [show v = _ from m.judge_low x index w hlow]
    refine ⟨rfl, rfl, rfl, rfl, by simp, rfl, rfl, fun h0 => if_pos h0, fun h0 => if_neg h0,
      fun a ha h0 => ?_, fun a ha h0 hstart => ?_⟩
    · dsimp only at ha
      rw [if_pos h0] at ha
      simpa using ((Option.ite_none_right_eq_some.mp ha).2).symm
    · obtain ⟨a', hstart'⟩ := Option.ne_none_iff_exists'.mp hstart
      dsimp only at ha
      rw [if_neg h0, hstart'] at ha
      rw [hstart', ← (Option.ite_none_right_eq_some.mp ha).2]
      rfl
  · rw [ceil] at hhigh
    rw [show v = _ from m.judge_plain x index w hfloor hhigh]
    exact ⟨rfl, rfl, rfl, rfl⟩
  · rw [ceil] at hhigh
    rw [show v = _ from m.judge_high x index w hfloor hhigh]
    exact ⟨rfl, rfl, rfl, rfl, rfl, rfl, rfl, decide_eq_true_iff⟩

/-- The window of one head at the end of a cycle, for O54. -/
theorem windowsClosed (plan : PlanMode) (c : Cycle) (b : Blocks) (cs : List Condition) (h : HeadId) :
    let u := b.hu.get h
    let m := b.tm.get h
    let r := Blocks.closeWindowOf plan c (b, cs) h
    (u.takesPart = false → r = (b, cs))
    ∧ (u.takesPart = true →
      (c.kind = .stitch → m.state = .settling →
        r = (withMonitor b h (windowClosed plan u { m with
          k := m.k + 1, state := if m.bigK ≤ m.k + 1 then .armed else .settling }), cs))
      ∧ (c.kind ≠ .stitch ∨ m.state = .off ∨ (m.state = .armed ∧ u.faultFlag = true) →
        r = (withMonitor b h (windowClosed plan u m), cs))
      ∧ (∀ w, c.kind = .stitch → m.state = .armed → u.faultFlag = false → m.window = some w →
        let v := m.judge b.cf.settings c.index w
        r.1.tm = b.tm.set h (windowClosed plan u v.monitor) ∧ r.1.hu = b.hu
        ∧ (v.warn = false → r.1.ru = b.ru)
        ∧ (v.warn = true →
          (r.1.ru.heads.get h).flags = (b.ru.heads.get h).flags ||| 0b0100#4)
        ∧ r.2 = cs
            ++ (match v.threadBreak with
                | some a => [.threadBreak h u.selector.needle b.sewSlot c.index a]
                | none => [])
            ++ (if v.loose then [.tensionLoose h u.selector.needle b.sewSlot c.index] else []))) := by
  intro u m r
  refine ⟨Blocks.closeWindowOf_out, fun hpart => ⟨Blocks.closeWindowOf_settles hpart,
    Blocks.closeWindowOf_shuts hpart, fun w hk harmed hflag hw => ?_⟩⟩
  intro v
  have judged : r = _ := Blocks.closeWindowOf_judges w hpart hk harmed hflag hw
  rw [judged]
  refine ⟨?_, ?_, fun hno => ?_, fun hwarn => ?_, rfl⟩
  · dsimp only
    split <;> rfl
  · dsimp only
    split <;> rfl
  · dsimp only
    rw [if_neg (by rw [show (Monitor.judge _ _ _ _).warn = false from hno]; nofun)]
    rfl
  · dsimp only
    rw [if_pos hwarn, Blocks.headEvent, Ru.headEvent_flags, if_pos rfl]
    rfl

/-- The bobbin of one head at the end of a STITCH, for O54. -/
theorem bobbinsLowered (index : Nat) (b : Blocks) (cs : List Condition) (h : HeadId) :
    let u := b.hu.get h
    let r := Blocks.lowerBobbinOf index (b, cs) h
    (u.takesPart = false → r = (b, cs))
    ∧ (u.takesPart = true →
      (u.bobbin = none ∨ u.bobbin = some 0 → r.1.hu = b.hu.set h u ∧ r.1.ru = b.ru ∧ r.2 = cs)
      ∧ (∀ n, u.bobbin = some (n + 1) →
        let low := decide (n ≤ b.cf.settings.bobbinLow) && !u.lowLatch
        r.1.hu = b.hu.set h { u with bobbin := some n, lowLatch := u.lowLatch || low }
        ∧ (low = false → r.1.ru = b.ru)
        ∧ (low = true →
          (r.1.ru.heads.get h).flags = (b.ru.heads.get h).flags ||| 0b1000#4)
        ∧ r.2 = (if n = 0 then
            cs ++ [.bobbinEmpty h u.selector.needle b.sewSlot index] else cs))) := by
  intro u r
  refine ⟨Blocks.lowerBobbinOf_out index, fun hpart => ⟨fun hno => ?_, fun n hn => ?_⟩⟩
  · have part : r = _ := Blocks.lowerBobbinOf_part index hpart
    rw [part, u.lowerBobbin_still _ hno]
    exact ⟨rfl, rfl, rfl⟩
  · intro low
    have part : r = _ := Blocks.lowerBobbinOf_part index hpart
    rw [part, u.lowerBobbin_lowers _ n hn]
    dsimp only
    refine ⟨?_, fun hno => ?_, fun hlow => ?_, ?_⟩
    · split <;> rfl
    · rw [if_neg (by rw [show (_ && _) = false from hno]; nofun)]
    · rw [if_pos hlow, Blocks.headEvent, Ru.headEvent_flags, if_pos rfl]
      rfl
    · simp only [beq_iff_eq]
      rfl

end Sys2Proof.Proofs
end

section
/-!
SUPPORT. The conditions of an index by their keys, and the end of a cycle up to the judgement of its
windows, in any run state (R114, R119, R122, R126, R150, R156; log 4).
-/

namespace Sys2Proof.Machine

open Sys2Proof.Claims

/-! ## Conditions taken, by their keys -/

/-- The heads that a list of conditions names. -/
def names (cs : List Condition) (g : HeadId) : Prop := ∃ x ∈ cs, x.head = some g

/-- The entry of a condition of an index names what the condition names (R156). -/
theorem entryKey_entry (b : Blocks) {x : Condition} (hx : x.ofIndex) (hopen : b.ds.channel ≠ .closed) :
    entryKey (b.entry x) = conditionKey x := by
  unfold entryKey conditionKey Blocks.entry
  rw [if_neg hopen]
  cases x with
  | threadBreak | tensionLoose | bobbinEmpty | moveLate => rfl
  | _ => exact hx.elim

theorem Blocks.takeAll_log (cs : List Condition) (hcs : ∀ x ∈ cs, x.ofIndex) (b : Blocks)
    (hgoes : b.patchGoesOn) (hopen : b.ds.channel ≠ .closed) :
    ∃ l : List Entry, (b.takeAll cs).fl = l.foldl Fl.write b.fl
      ∧ l.map entryKey = cs.map conditionKey := by
  induction cs generalizing b with
  | nil => exact ⟨[], rfl, rfl⟩
  | cons x cs ih =>
    have hx := hcs x (by simp)
    have takes := b.take_takes (fun _ => True) x (fun _ _ => trivial) hgoes hx
    obtain ⟨l, hl, hkeys⟩ := ih (fun y hy => hcs y (by simp [hy])) (b.take x) (takes.patch hgoes)
      (by rw [takes.channel]; exact hopen)
    refine ⟨b.entry x :: l, ?_, ?_⟩
    · rw [Blocks.takeAll_cons, hl, b.take_fl x]
      rfl
    · rw [List.map_cons, List.map_cons, entryKey_entry b hx hopen, hkeys]

/-- A list of conditions of an index taken: what it leaves, and what it writes. -/
structure Blocks.Taken (cs : List Condition) (b b' : Blocks) : Prop where
  takes : Blocks.Takes (names cs) b b'
  log : ∃ l : List Entry, b'.fl = l.foldl Fl.write b.fl ∧ l.map entryKey = cs.map conditionKey

theorem Blocks.report_taken {b : Blocks} {cs : List Condition} (hcs : ∀ x ∈ cs, x.ofIndex)
    (hgoes : b.patchGoesOn) (hopen : b.ds.channel ≠ .closed) (hidle : b.fl.waiting = []) :
    b.Taken cs (b.report cs) := by
  rw [Blocks.report_idle hidle]
  obtain ⟨takes, -⟩ := Blocks.takeAll_takes (names cs) cs b hgoes hcs (fun x hx _ hg => ⟨x, hx, hg⟩)
  exact ⟨takes, b.takeAll_log cs hcs hgoes hopen⟩

theorem Blocks.Takes.turns {named : HeadId → Prop} {b b' : Blocks} (h : Blocks.Takes named b b') :
    b'.sc.turns = b.sc.turns := by
  unfold Sc.turns
  rcases h.shaft with hs | ⟨hs, hs'⟩
  · rw [hs]
  · rw [hs, hs']
    rfl

/-- BOBBIN_EMPTY leaves the flag of its head set (R135, R151, R155). -/
theorem Blocks.take_bobbinEmpty (b : Blocks) (g : HeadId) (n s : Option Nat) (i : Nat)
    (hgoes : b.patchGoesOn) :
    ((b.take (.bobbinEmpty g n s i)).hu.get g).faultFlag = true := by
  have action : b.action (.bobbinEmpty g n s i) = .stopAll
      ∨ b.action (.bobbinEmpty g n s i) = .isolate := by
    unfold Blocks.action Blocks.policyAction
    dsimp only
    split_ifs
    · exact .inr rfl
    · exact .inl rfl
  cases hf : (b.hu.get g).faultFlag with
  | true => rw [b.take_flagged _ g action rfl hf, Blocks.writeEntry_hu, hf]
  | false =>
    rcases action with hs | hi
    · rw [b.take_stopAll _ g hs (by simp [Condition.kind]) rfl hf]
      have flagged : ((b.faulted g (.bobbinEmpty g n s i)).hu.get g).faultFlag = true := by
        rw [b.faulted_hu, Eight.get_set_same]
      have goes : (b.faulted g (.bobbinEmpty g n s i)).patchGoesOn := by
        rw [Blocks.patchGoesOn, b.faulted_fc, b.faulted_sc, b.faulted_rc]
        exact hgoes
      have noted : (b.faulted g (.bobbinEmpty g n s i)).notePatchBreak (.bobbinEmpty g n s i) =
          b.faulted g (.bobbinEmpty g n s i) := by
        unfold Blocks.notePatchBreak
        split
        · next hc => exact nomatch hc
        · rfl
      obtain ⟨-, -, -, -, kept⟩ := ((b.faulted g (.bobbinEmpty g n s i)).stopAll_takes
        (fun _ => True) goes).heads g
      rw [show ((((b.writeEntry _).modHead g _).headEvent g .faulted).notePatchBreak _) = _ from noted]
      exact kept flagged
    · rw [b.take_isolate _ g hi rfl hf]
      obtain ⟨hhu, -⟩ := (b.writeEntry (.bobbinEmpty g n s i)).isolate_head g (.bobbinEmpty g n s i)
      rw [hhu, Eight.get_set_same]

theorem Blocks.takeAll_bobbinEmpty {cs : List Condition} (hcs : ∀ x ∈ cs, x.ofIndex) {g : HeadId}
    {n s : Option Nat} {i : Nat} (hmem : .bobbinEmpty g n s i ∈ cs) (b : Blocks)
    (hgoes : b.patchGoesOn) : ((b.takeAll cs).hu.get g).faultFlag = true := by
  induction cs generalizing b with
  | nil => exact nomatch hmem
  | cons x cs ih =>
    have hcs' : ∀ y ∈ cs, y.ofIndex := fun y hy => hcs y (by simp [hy])
    have goes := (b.take_takes (fun _ => True) x (fun _ _ => trivial) hgoes (hcs x (by simp))).patch
      hgoes
    rw [Blocks.takeAll_cons]
    rcases List.mem_cons.mp hmem with rfl | hmem
    · obtain ⟨takes, -⟩ := Blocks.takeAll_takes (fun _ => True) cs _ goes hcs'
        (fun _ _ _ _ => trivial)
      obtain ⟨-, -, -, -, kept⟩ := takes.heads g
      exact kept (b.take_bobbinEmpty g n s i hgoes)
    · exact ih hcs' hmem _ goes

/-! ## What the stages before the judgement keep of the heads -/

/-- What the stages up to the judgement of the windows keep, where they name heads of `named`. -/
structure Blocks.Near (named : HeadId → Prop) (b y : Blocks) : Prop where
  cf : y.cf = b.cf
  channel : y.ds.channel = b.ds.channel
  slot : y.sewSlot = b.sewSlot
  turns : y.sc.turns = b.sc.turns
  goes : b.patchGoesOn → y.patchGoesOn
  waiting : y.fl.waiting = b.fl.waiting
  heads : ∀ g, (y.hu.get g).takesPart = (b.hu.get g).takesPart
    ∧ (y.hu.get g).selector = (b.hu.get g).selector
  others : ∀ g, ¬ named g → (y.hu.get g).state = (b.hu.get g).state
    ∧ (y.hu.get g).faultFlag = (b.hu.get g).faultFlag

theorem Blocks.Takes.near {named : HeadId → Prop} {b y : Blocks} (h : Blocks.Takes named b y) :
    b.Near named y where
  cf := h.cf
  channel := h.channel
  slot := h.slot
  turns := h.turns
  goes := h.patch
  waiting := h.waiting
  heads := fun g => by
    obtain ⟨hpart, hsel, -⟩ := h.heads g
    exact ⟨hpart, hsel⟩
  others := fun g hg => (h.others g hg).2

theorem Blocks.Near.trans {named named' : HeadId → Prop} {b x y : Blocks} (h : b.Near named x)
    (k : x.Near named' y) (hsub : ∀ g, named g → named' g) : b.Near named' y where
  cf := k.cf.trans h.cf
  channel := k.channel.trans h.channel
  slot := k.slot.trans h.slot
  turns := k.turns.trans h.turns
  goes := k.goes ∘ h.goes
  waiting := k.waiting.trans h.waiting
  heads := fun g => ⟨(k.heads g).1.trans (h.heads g).1, (k.heads g).2.trans (h.heads g).2⟩
  others := fun g hg =>
    ⟨(k.others g hg).1.trans (h.others g (mt (hsub g) hg)).1,
      (k.others g hg).2.trans (h.others g (mt (hsub g) hg)).2⟩

/-- No head. -/
def nobody : HeadId → Prop := fun _ => False

/-! ## The events of the angle -/

variable {b : Blocks} {c : Cycle}

/-- The MOVE_LATE of a STITCH whose needle entry is given at the index (R35; log 34). -/
def Blocks.entryLate (b : Blocks) (c : Cycle) : List Condition :=
  if c.entryGiven = false ∧ c.kind = .stitch ∧ b.fc.notDone c.index = true then
    [b.moveLateOf c.index]
  else []

/-- What the events of the angle, given at the index, leave of the blocks. -/
structure Blocks.Opened (b y : Blocks) (c : Cycle) : Prop where
  near : b.Near nobody y
  bobbins : ∀ g, (y.hu.get g).bobbin = (b.hu.get g).bobbin
    ∧ (y.hu.get g).lowLatch = (b.hu.get g).lowLatch
  log : ∃ l : List Entry, y.fl = l.foldl Fl.write b.fl
    ∧ l.map entryKey = (b.entryLate c).map conditionKey

theorem Blocks.giveEntry_opened (hgiven : c.entryGiven = false) (hgoes : b.patchGoesOn)
    (hopen : b.ds.channel ≠ .closed) (hidle : b.fl.waiting = []) :
    b.Opened (b.giveEntry c) c ∧ ∀ g, (b.giveEntry c).tm.get g = b.tm.get g := by
  let x : Blocks := { b with sc.cycle := some { c with entryGiven := true } }
  have near : b.Near nobody x :=
    ⟨rfl, rfl, rfl, rfl, id, rfl, fun _ => ⟨rfl, rfl⟩, fun _ _ => ⟨rfl, rfl⟩⟩
  by_cases hlate : c.kind = .stitch ∧ b.fc.notDone c.index = true
  · have late : b.entryLate c = [b.moveLateOf c.index] := if_pos ⟨hgiven, hlate⟩
    have given : b.giveEntry c = x.report (b.entryLate c) := by
      unfold Blocks.giveEntry Blocks.needleEntry
      dsimp only
      rw [if_pos hlate, late]
      rfl
    have ofIndex : ∀ y ∈ b.entryLate c, y.ofIndex := by
      rw [late]
      rintro y (_ | ⟨_, hy⟩)
      · trivial
      · exact nomatch hy
    have noone (g : HeadId) : ¬ names (b.entryLate c) g := by
      rw [late]
      rintro ⟨y, _ | ⟨_, hy⟩, hg⟩
      · exact nomatch hg
      · exact nomatch hy
    obtain ⟨takes, log⟩ := Blocks.report_taken (b := x) ofIndex hgoes hopen hidle
    rw [given]
    refine ⟨⟨?_, fun g => ?_, log⟩, fun g => (takes.others g (noone g)).1⟩
    · have reported := takes.near
      exact { near.trans reported (fun _ hf => hf.elim) with
        others := fun g _ => reported.others g (noone g) }
    · obtain ⟨-, -, hbobbin, hlatch, -⟩ := takes.heads g
      exact ⟨hbobbin, hlatch⟩
  · have plain : b.giveEntry c = x := Blocks.giveEntry_plain (by
      rw [← Bool.not_eq_true]
      exact not_and_or.mp hlate)
    have none : b.entryLate c = [] := if_neg fun h => hlate h.2
    rw [plain]
    exact ⟨⟨near, fun _ => ⟨rfl, rfl⟩, [], rfl, by rw [none]; rfl⟩, fun _ => rfl⟩

/-- The monitor of a head once the events of the angle are given (R112). -/
def Blocks.owedMonitor (b : Blocks) (c : Cycle) (g : HeadId) : Monitor :=
  if (c.kind = .trim ∧ c.trimGiven = false) ∧ (b.hu.get g).takesPart = true then
    { b.tm.get g with owed := true }
  else b.tm.get g

/-- The events of the angle given and the cycle counted (R35, R51, R52, R112). -/
theorem Blocks.angled_opened (ns : Nat) (hgoes : b.patchGoesOn) (hopen : b.ds.channel ≠ .closed)
    (hidle : b.fl.waiting = []) :
    b.Opened (b.angled c ns) c ∧ ∀ g, (b.angled c ns).tm.get g = b.owedMonitor c g := by
  have entry : b.Opened (if c.entryGiven then b else b.giveEntry c) c
      ∧ ∀ g, (if c.entryGiven then b else b.giveEntry c).tm.get g = b.tm.get g := by
    cases hgiven : c.entryGiven with
    | true =>
      have none : b.entryLate c = [] := if_neg fun h => absurd h.1 (by rw [hgiven]; nofun)
      exact ⟨⟨(Blocks.Takes.refl nobody b).near, fun _ => ⟨rfl, rfl⟩, [], rfl, by rw [none]; rfl⟩,
        fun _ => rfl⟩
    | false => exact Blocks.giveEntry_opened hgiven hgoes hopen hidle
  have counted (y : Blocks) (h : b.Opened y c) :
      b.Opened { y with sc := y.sc.countCycle ns } c :=
    ⟨{ h.near with }, h.bobbins, h.log⟩
  unfold Blocks.angled
  rw [b.eventsAtIndex_eq]
  generalize (if c.entryGiven then b else b.giveEntry c) = x at entry ⊢
  obtain ⟨opened, htm⟩ := entry
  split_ifs with htrim
  · have heads (g : HeadId) : (x.trimPoint { c with entryGiven := true }).hu.get g =
        if (x.hu.get g).takesPart then { x.hu.get g with trimmer := true } else x.hu.get g :=
      Eight.get_tabulate _ g
    have fires (g : HeadId) : { x.hu.get g with trimmer := true } =
        { (x.trimPoint { c with entryGiven := true }).hu.get g with trimmer := true } := by
      rw [heads]
      split <;> rfl
    have keeps {α : Type} (f : Head → α) (hf : ∀ u : Head, f { u with trimmer := true } = f u)
        (g : HeadId) : f ((x.trimPoint { c with entryGiven := true }).hu.get g) = f (x.hu.get g) := by
      rw [← hf, ← fires, hf]
    have near : x.Near nobody (x.trimPoint { c with entryGiven := true }) :=
      ⟨rfl, rfl, rfl, rfl, id, rfl,
        fun g => ⟨keeps Head.takesPart (fun _ => rfl) g, keeps Head.selector (fun _ => rfl) g⟩,
        fun g _ => ⟨keeps Head.state (fun _ => rfl) g, keeps Head.faultFlag (fun _ => rfl) g⟩⟩
    refine ⟨counted _ ⟨opened.near.trans near (fun _ => id), fun g => ?_, opened.log⟩, fun g => ?_⟩
    · exact ⟨(keeps Head.bobbin (fun _ => rfl) g).trans (opened.bobbins g).1,
        (keeps Head.lowLatch (fun _ => rfl) g).trans (opened.bobbins g).2⟩
    · refine (Eight.get_tabulate _ g).trans ?_
      unfold Blocks.owedMonitor
      rw [(opened.near.heads g).1, htm g]
      simp only [htrim, true_and, and_self]
  · refine ⟨counted _ opened, fun g => (htm g).trans ?_⟩
    rw [Blocks.owedMonitor, if_neg fun h => htrim h.1]

/-! ## The bobbins -/

theorem Blocks.loweredHead_keeps (b : Blocks) (g : HeadId) :
    (b.loweredHead g).takesPart = (b.hu.get g).takesPart
      ∧ (b.loweredHead g).selector = (b.hu.get g).selector
      ∧ (b.loweredHead g).state = (b.hu.get g).state
      ∧ (b.loweredHead g).faultFlag = (b.hu.get g).faultFlag := by
  unfold Blocks.loweredHead Head.lowerBobbin
  split
  · split <;> exact ⟨rfl, rfl, rfl, rfl⟩
  · exact ⟨rfl, rfl, rfl, rfl⟩

theorem Blocks.lowered_near (b : Blocks) (c : Cycle) : b.Near nobody (b.lowered c).1 := by
  obtain ⟨ru, hu, heq, hhu, -⟩ := b.lowered_eq c
  have heads (g : HeadId) : (hu.get g).takesPart = (b.hu.get g).takesPart
      ∧ (hu.get g).selector = (b.hu.get g).selector ∧ (hu.get g).state = (b.hu.get g).state
      ∧ (hu.get g).faultFlag = (b.hu.get g).faultFlag := by
    rw [hhu]
    split
    · exact b.loweredHead_keeps g
    · exact ⟨rfl, rfl, rfl, rfl⟩
  rw [heq]
  exact ⟨rfl, rfl, rfl, rfl, id, rfl, fun g => ⟨(heads g).1, (heads g).2.1⟩,
    fun g _ => (heads g).2.2⟩

/-- A BOBBIN_EMPTY is of the head that lowered its bobbin to 0 (R114). -/
theorem Blocks.emptyBobbin_names (b : Blocks) (i : Nat) {g g' : HeadId} {x : Condition}
    (hx : x ∈ b.emptyBobbin i g') (hg : x.head = some g) :
    g' = g ∧ ∃ n s, x = .bobbinEmpty g n s i := by
  unfold Blocks.emptyBobbin at hx
  split at hx
  · rw [List.mem_singleton.mp hx] at hg ⊢
    cases hg
    exact ⟨rfl, _, _, rfl⟩
  · exact nomatch hx

/-- The BOBBIN_EMPTY of a head, by its key (R114, R156). -/
theorem emptyAtEnd_eq {y : Blocks} (h : b.Opened y c) (g : HeadId) :
    (if c.kind = .stitch then y.emptyBobbin c.index g else []).map conditionKey = emptyAtEnd b c g := by
  unfold Blocks.emptyBobbin emptyAtEnd
  rw [(h.near.heads g).1, (h.near.heads g).2, h.near.slot]
  have empty : ((y.hu.get g).lowerBobbin y.cf.settings.bobbinLow).2.2 = true ↔
      (b.hu.get g).bobbin = some 1 := by
    rw [← (h.bobbins g).1]
    unfold Head.lowerBobbin
    split
    · next hn => simp [hn]
    · next hn =>
      simp only [Bool.false_eq_true, false_iff]
      intro h1
      exact hn 0 h1
  by_cases hk : c.kind = .stitch
  · simp only [hk, if_true, true_and, empty]
    split_ifs <;> rfl
  · simp only [hk, if_false, false_and, List.map_nil]

end Sys2Proof.Machine

end

section
/-!
SUPPORT. The judgement of the windows at the end of a cycle, the decision after it, and all conditions of
the index by their keys, in any run state (R52, R114, R118, R119, R122; log 4).
-/

namespace Sys2Proof.Machine

open Sys2Proof.Claims

variable {b y : Blocks} {c : Cycle} {plan : PlanMode} {first : List Condition}

/-! ## The judgement after the first conditions -/

/-- The blocks as the end of a cycle judges them: `first` holds the conditions of the empty bobbins that
have been taken. -/
structure Blocks.Met (b y : Blocks) (c : Cycle) (first : List Condition) : Prop where
  near : b.Near (names first) y
  tm : ∀ g, ¬ names first g → y.tm.get g = b.owedMonitor c g
  flagged : ∀ g, names first g → (y.hu.get g).faultFlag = true
  empty : ∀ g, names first g → emptyAtEnd b c g ≠ []

theorem Blocks.owedMonitor_stitch (b : Blocks) (hk : c.kind = .stitch) (g : HeadId) :
    b.owedMonitor c g = b.tm.get g :=
  if_neg fun ⟨⟨ht, _⟩, _⟩ => nomatch hk.symm.trans ht

/-- A head is judged as it stood at the index, but for one met by its BOBBIN_EMPTY before (log 4). -/
theorem Blocks.Met.verdict (h : b.Met y c first) (g : HeadId) :
    y.verdictOf c g = judgedAtEnd b c g ∨ (y.verdictOf c g = none ∧ emptyAtEnd b c g ≠ []) := by
  by_cases hnamed : names first g
  · refine .inr ⟨if_neg ?_, h.empty g hnamed⟩
    rintro ⟨-, -, -, hf⟩
    exact nomatch (h.flagged g hnamed).symm.trans hf
  · left
    unfold Blocks.verdictOf judgedAtEnd
    by_cases hk : c.kind = .stitch
    · rw [(h.near.heads g).1, (h.near.others g hnamed).2, h.near.cf, h.tm g hnamed,
        b.owedMonitor_stitch hk]
    · rw [if_neg fun hj => hk hj.1, if_neg fun hj => hk hj.1]

theorem Blocks.Met.faults (h : b.Met y c first) (g : HeadId) :
    (y.judgedFaults c g).map conditionKey = judgedKeys b c g (y.verdictOf c g) := by
  unfold Blocks.judgedFaults judgedKeys
  rw [(h.near.heads g).2, h.near.slot]
  cases y.verdictOf c g with
  | none => rfl
  | some v =>
    obtain ⟨monitor, warn, threadBreak, loose⟩ := v
    cases threadBreak <;> cases loose <;> rfl

theorem windowClosed_congr {u u' : Head} (h : u.state = u'.state) (plan : PlanMode) (m : Monitor) :
    windowClosed plan u m = windowClosed plan u' m := by
  unfold windowClosed
  rw [h]

/-- The monitor that the judgement leaves (R112, R116, R119, R122). -/
theorem Blocks.Met.closed (h : b.Met y c first) (plan : PlanMode) {g : HeadId}
    (hempty : emptyAtEnd b c g = []) :
    y.closedMonitor plan c g = monitorEnded b plan c g (y.verdictOf c g) := by
  have noone : ¬ names first g := fun hn => h.empty g hn hempty
  unfold Blocks.closedMonitor monitorEnded
  rw [(h.near.heads g).1, h.tm g noone]
  cases hpart : (b.hu.get g).takesPart with
  | false =>
    simp only [Bool.false_eq_true, if_false, if_true]
    exact if_neg fun h => absurd h.2 (by rw [hpart]; nofun)
  | true =>
    simp only [if_true, Bool.true_eq_false, if_false]
    rw [Monitor.shut_eq, windowClosed_congr (h.near.others g noone).1]
    cases y.verdictOf c g with
    | some v => rfl
    | none =>
      by_cases hk : c.kind = .stitch
      · rw [b.owedMonitor_stitch hk]
        simp only [hk, true_and, reduceCtorEq, false_and, if_false]
        rfl
      · simp only [hk, false_and, if_false, Blocks.owedMonitor, hpart, and_true]

/-- The conditions of a judgement are of its head (R124, R125). -/
theorem Blocks.judgedFaults_names (y : Blocks) (c : Cycle) {g g' : HeadId} {x : Condition}
    (hx : x ∈ y.judgedFaults c g') (hg : x.head = some g) : g' = g := by
  unfold Blocks.judgedFaults at hx
  split at hx
  · exact nomatch hx
  · rcases List.mem_append.mp hx with hx | hx
    all_goals
      split at hx
      · rw [List.mem_singleton.mp hx] at hg
        exact Option.some.inj hg
      · exact nomatch hx

/-! ## The record counted sewn, the decision and the conditions around it -/

theorem Blocks.Takes.mono {named named' : HeadId → Prop} {x : Blocks} (h : Blocks.Takes named b x)
    (hsub : ∀ g, named g → named' g) : Blocks.Takes named' b x :=
  { h with others := fun g hg => h.others g (mt (hsub g) hg) }

/-- The record counted sewn leaves the heads but for their trimmers, the monitors and the log (R52). -/
theorem Blocks.recordSewn_heads (b : Blocks) (plan : PlanMode) (c : Cycle) :
    let z := b.recordSewn plan c
    (∀ g, z.hu.get g = { b.hu.get g with trimmer := false }) ∧ z.tm = b.tm
      ∧ z.ru.heads = b.ru.heads ∧ z.cf = b.cf ∧ z.fl = b.fl ∧ z.ds.channel = b.ds.channel
      ∧ z.sc.turns = b.sc.turns ∧ (b.patchGoesOn → z.patchGoesOn) := by
  intro z
  obtain ⟨hhu, htm, hsc, hfc, hcf, hfl, hheads, hstop, hchannel⟩ := Blocks.countSewn_spec
    ({ b with sc.cycle := none
              hu := Eight.tabulate (fun h => { b.hu.get h with trimmer := false }) } : Blocks) plan c
  refine ⟨fun g => ?_, htm, hheads, hcf, hfl, hchannel, ?_, fun hgoes => ?_⟩
  · rw [show z.hu = _ from hhu]
    exact Eight.get_tabulate _ g
  · rw [show z.sc = _ from hsc]
    rfl
  · rw [Blocks.patchGoesOn, show z.fc = b.fc from hfc, show z.sc = _ from hsc,
      show z.rc.stop = b.rc.stop from hstop]
    exact hgoes

/-- The conditions taken last, and those that wait, by their keys (log 4). -/
theorem Blocks.lastTaken_taken (plan : PlanMode) {deferred : List Condition}
    (hcs : ∀ x ∈ deferred, x.ofIndex) (hgoes : b.patchGoesOn) (hopen : b.ds.channel ≠ .closed)
    (hidle : b.fl.waiting = []) :
    let t := b.lastTaken plan deferred
    Blocks.Takes (names deferred) b { t with fl.waiting := [] }
      ∧ ∃ l : List Entry, { t.fl with waiting := [] } = l.foldl Fl.write b.fl
        ∧ l.map entryKey ++ t.fl.waiting.map conditionKey = deferred.map conditionKey := by
  unfold Blocks.lastTaken
  dsimp only
  split
  · rw [hidle, Fl.waiting_idle hidle]
    exact ⟨.refl _ b, [], rfl, rfl⟩
  · obtain ⟨takes, l, hl, hkeys⟩ := Blocks.report_taken hcs hgoes hopen hidle
    have idle : (b.report deferred).fl.waiting = [] := takes.waiting.trans hidle
    rw [idle, Fl.waiting_idle idle]
    exact ⟨takes, l, hl, by rw [List.map_nil, List.append_nil, hkeys]⟩

/-- What the decision and the conditions around it leave, and what these write (R52, R118, R150). -/
theorem Blocks.decidedOn_spec (b : Blocks) (plan : PlanMode) (c : Cycle)
    {early late deferred : List Condition}
    (hcs : ∀ x ∈ early ++ (late ++ deferred), x.ofIndex) (hgoes : b.patchGoesOn)
    (hturns : b.sc.turns = true) (hopen : b.ds.channel ≠ .closed) (hidle : b.fl.waiting = []) :
    let t := b.decidedOn plan c early late deferred
    (∃ l : List Entry, { t.fl with waiting := [] } = l.foldl Fl.write b.fl
      ∧ l.map entryKey ++ t.fl.waiting.map conditionKey
        = (early ++ (late ++ deferred)).map conditionKey)
    ∧ (∀ g, (t.hu.get g).bobbin = (b.hu.get g).bobbin
      ∧ (t.hu.get g).lowLatch = (b.hu.get g).lowLatch)
    ∧ (∀ g m, (b.ru.heads.get g).flags &&& m = m → (t.ru.heads.get g).flags &&& m = m)
    ∧ ∀ g, ¬ names (early ++ (late ++ deferred)) g →
      (t.sc.state = .stopped → t.tm.get g = b.tm.get g)
      ∧ (t.sc.state ≠ .stopped → ∃ window : Option Window,
        t.tm.get g = monitorStarted (b.tm.get g) b.cf.settings.settleCode (t.hu.get g).takesPart window
        ∧ (∀ x, window = some x → x.pulses = 0)
        ∧ (window ≠ none ↔ t.sc.cycle.map (·.kind) = some .stitch)) := by
  intro t
  obtain ⟨takes, l, hl, hkeys⟩ := Blocks.report_taken (cs := early) (fun x hx => hcs x (by simp [hx]))
    hgoes hopen hidle
  have hturns' := takes.turns.trans hturns
  obtain ⟨hcf, hds, hfl, hru, hgoes', hbobbins, hsc⟩ :=
    (b.report early).decideNext_spec plan c hturns' (takes.patch hgoes).1
  have htd : t = ((b.report early).decideNext plan c |>.report late).lastTaken plan deferred := rfl
  generalize (b.report early).decideNext plan c = z at hcf hds hfl hru hgoes' hbobbins hsc htd
  have hopen' : z.ds.channel ≠ .closed := by rw [hds, takes.channel]; exact hopen
  have hidle' : z.fl.waiting = [] := by rw [hfl, takes.waiting, hidle]
  obtain ⟨takes', l', hl', hkeys'⟩ := Blocks.report_taken (cs := late)
    (fun x hx => hcs x (by simp [hx])) hgoes' hopen' hidle'
  obtain ⟨takes'', l'', hl'', hkeys''⟩ := Blocks.lastTaken_taken plan (deferred := deferred)
    (fun x hx => hcs x (by simp [hx])) (takes'.patch hgoes') (by rw [takes'.channel]; exact hopen')
    (takes'.waiting.trans hidle')
  rw [← htd] at takes'' hl'' hkeys''
  have after : Blocks.Takes (names (late ++ deferred)) z { t with fl.waiting := [] } :=
    (takes'.mono fun g ⟨x, hx, hg⟩ => ⟨x, by simp [hx], hg⟩).trans
      (takes''.mono fun g ⟨x, hx, hg⟩ => ⟨x, by simp [hx], hg⟩)
  refine ⟨⟨l ++ (l' ++ l''), ?_, ?_⟩, fun g => ?_, fun g m hm => ?_, fun g hnamed => ?_⟩
  · rw [hl'', hl', hfl, hl, List.foldl_append, List.foldl_append]
  · rw [List.map_append, List.map_append, List.append_assoc, List.append_assoc, hkeys'', hkeys', hkeys,
      List.map_append, List.map_append]
  · obtain ⟨-, -, hb, hlow, -⟩ := takes.heads g
    obtain ⟨-, -, hb'', hlow'', -⟩ := after.heads g
    exact ⟨hb''.trans ((hbobbins g).1.trans hb), hlow''.trans ((hbobbins g).2.trans hlow)⟩
  · exact after.flags g m (by rw [hru]; exact takes.flags g m hm)
  · obtain ⟨htm, -⟩ := takes.others g fun ⟨x, hx, hg⟩ => hnamed ⟨x, by simp [hx], hg⟩
    obtain ⟨htm'', -⟩ := after.others g fun ⟨x, hx, hg⟩ =>
      hnamed ⟨x, List.mem_append_right _ hx, hg⟩
    have part : (t.hu.get g).takesPart = (z.hu.get g).takesPart := (after.heads g).1
    have turning : t.sc.turns = z.sc.turns := after.turns
    have cycle : t.sc.cycle = z.sc.cycle := after.cycle
    rcases hsc with ⟨hstopped, hmonitors⟩ | ⟨hturning, r, hkind, hmonitors⟩
    · have stopped : t.sc.state = .stopped := by
        rcases after.shaft with hs | ⟨hs, -⟩
        · exact hs.trans hstopped
        · exact nomatch hs.symm.trans hstopped
      exact ⟨fun _ => htm''.trans (by rw [hmonitors, htm]), fun hno => absurd stopped hno⟩
    · refine ⟨fun hs => ?_, fun _ =>
        ⟨if r.kind = .stitch then some ⟨0, classOf r.dx r.dy⟩ else none, ?_, fun x hx => ?_, ?_⟩⟩
      · rw [← turning] at hturning
        simp [Sc.turns, hs] at hturning
      · exact htm''.trans ((hmonitors g).trans
          (by rw [part, htm, takes.cf, Monitor.atStart_eq]))
      · obtain ⟨-, hx⟩ := Option.ite_none_right_eq_some.mp hx
        cases hx
        rfl
      · rw [cycle, hkind]
        split_ifs with hk <;> simp [hk]

/-! ## The whole end of a cycle -/

theorem covers_self (x m : BitVec 4) : (x ||| m) &&& m = m := by
  revert x m
  decide

/-- The MOVE_LATE of a cycle's end, by its key: at the entry of a STITCH, or of a JUMP (R35). -/
theorem lateAtEnd_eq (hfc : c.kind = .jump → y.fc = b.fc) (hslot : y.sewSlot = b.sewSlot) :
    (b.entryLate c ++ y.jumpLate c).map conditionKey = lateAtEnd b c := by
  unfold Blocks.entryLate Blocks.jumpLate lateAtEnd Blocks.moveLateOf
  rw [hslot]
  cases hk : c.kind with
  | jump =>
    rw [hfc hk]
    simp only [reduceCtorEq, false_and, and_false, if_false, true_and, false_or, List.nil_append]
    split_ifs <;> rfl
  | stitch =>
    simp only [reduceCtorEq, true_and, false_and, or_false, if_false, List.append_nil]
    split_ifs <;> rfl
  | _ => simp

/-- The blocks as the end of a cycle judges them, and the log, the bobbins and the flags by then. -/
theorem Blocks.met_of_opened {y1 : Blocks} (ru : Ru) (hu : Eight Head)
    (hnear : y1.Near nobody { y1 with hu := hu, ru := ru }) (opened : b.Opened y1 c)
    (htm : ∀ g, y1.tm.get g = b.owedMonitor c g) (hgoes : b.patchGoesOn)
    (hopen : b.ds.channel ≠ .closed) (hidle : b.fl.waiting = [])
    (hfirst : ∀ x ∈ first, c.kind = .stitch ∧ ∃ g, x ∈ y1.emptyBobbin c.index g) :
    let y2 : Blocks := { y1 with hu := hu, ru := ru }
    b.Met (y2.report first) c first ∧ y2.Taken first (y2.report first) := by
  intro y2
  have ofIndex : ∀ x ∈ first, x.ofIndex := fun x hx => by
    obtain ⟨-, g, hg⟩ := hfirst x hx
    exact y1.emptyBobbin_ofIndex c.index g x hg
  have near : b.Near nobody y2 := opened.near.trans hnear fun _ => id
  have idle : y2.fl.waiting = [] := near.waiting.trans hidle
  have taken := Blocks.report_taken ofIndex (near.goes hgoes) (by rw [near.channel]; exact hopen) idle
  have named (g : HeadId) (hg : names first g) :
      c.kind = .stitch ∧ y1.emptyBobbin c.index g ≠ [] ∧ ∃ n s, .bobbinEmpty g n s c.index ∈ first := by
    obtain ⟨x, hx, hhead⟩ := hg
    obtain ⟨hk, g', hg'⟩ := hfirst x hx
    obtain ⟨rfl, n, s, rfl⟩ := y1.emptyBobbin_names c.index hg' hhead
    exact ⟨hk, List.ne_nil_of_mem hg', n, s, hx⟩
  refine ⟨⟨near.trans taken.takes.near fun _ hf => hf.elim, fun g hg => ?_, fun g hg => ?_,
    fun g hg hnone => ?_⟩, taken⟩
  · exact (taken.takes.others g hg).1.trans (htm g)
  · obtain ⟨-, -, n, s, hmem⟩ := named g hg
    rw [Blocks.report_idle idle]
    exact Blocks.takeAll_bobbinEmpty ofIndex hmem y2 (near.goes hgoes)
  · obtain ⟨hk, hne, -⟩ := named g hg
    rw [← emptyAtEnd_eq opened g, if_pos hk, List.map_eq_nil_iff] at hnone
    exact hne hnone

/-- The bobbin of a head that a STITCH lowers (R114). -/
theorem Blocks.loweredHead_counts {y1 : Blocks} (opened : b.Opened y1 c) {g : HeadId} {n : Nat}
    (hpart : (b.hu.get g).takesPart = true) (hn : (b.hu.get g).bobbin = some (n + 1)) :
    let low := decide (n ≤ b.cf.settings.bobbinLow)
    (y1.loweredHead g).bobbin = some n
      ∧ (y1.loweredHead g).lowLatch = ((b.hu.get g).lowLatch || low)
      ∧ (low = true → (b.hu.get g).lowLatch = false → y1.lowBobbin g = 0b1000#4) := by
  intro low
  obtain ⟨hbobbin, hlatch⟩ := opened.bobbins g
  have part : (y1.hu.get g).takesPart = true := (opened.near.heads g).1.trans hpart
  have lowers := (y1.hu.get g).lowerBobbin_lowers y1.cf.settings.bobbinLow n (hbobbin.trans hn)
  rw [hlatch, opened.near.cf] at lowers
  unfold Blocks.loweredHead Blocks.lowBobbin
  rw [if_pos part, opened.near.cf, lowers]
  refine ⟨rfl, ?_, fun hl hf => ?_⟩
  · cases (b.hu.get g).lowLatch <;> simp [low]
  · exact if_pos ⟨part, by rw [hf, show decide (n ≤ b.cf.settings.bobbinLow) = true from hl]; rfl⟩

/-- A bobbin that no STITCH lowers stays (R114). -/
theorem Blocks.loweredHead_still {y1 : Blocks} (opened : b.Opened y1 c) {g : HeadId}
    (hno : (b.hu.get g).takesPart = false ∨ (b.hu.get g).bobbin = none
      ∨ (b.hu.get g).bobbin = some 0) :
    (y1.loweredHead g).bobbin = (b.hu.get g).bobbin
      ∧ (y1.loweredHead g).lowLatch = (b.hu.get g).lowLatch := by
  obtain ⟨hbobbin, hlatch⟩ := opened.bobbins g
  unfold Blocks.loweredHead
  split
  · next hpart =>
    rw [(opened.near.heads g).1] at hpart
    have none := hno.resolve_left fun hf => nomatch hpart.symm.trans hf
    rw [(y1.hu.get g).lowerBobbin_still _ (by rw [hbobbin]; exact none)]
    exact ⟨hbobbin, hlatch⟩
  · exact ⟨hbobbin, hlatch⟩

end Sys2Proof.Machine

end

section
/-!
SUPPORT. The end of a cycle put together: every condition of the index written once or waiting, and what
each head and its monitor come to (R52, R114, R119, R122; log 4).
-/

namespace Sys2Proof.Machine

open Sys2Proof.Claims

variable {b y1 y3 t : Blocks} {c : Cycle} {plan : PlanMode}
  {first others early late deferred : List Condition}

/-- The BOBBIN_EMPTYs of the heads once the events of the angle are given (R114). -/
def Blocks.empties (y1 : Blocks) (c : Cycle) : List Condition :=
  if c.kind = .stitch then Id8.all.flatMap (y1.emptyBobbin c.index) else []

theorem Blocks.mem_empties {x : Condition} (h : x ∈ y1.empties c) :
    c.kind = .stitch ∧ ∃ g, x ∈ y1.emptyBobbin c.index g := by
  unfold Blocks.empties at h
  split at h
  · next hk =>
    obtain ⟨g, -, hg⟩ := List.mem_flatMap.mp h
    exact ⟨hk, g, hg⟩
  · exact nomatch h

theorem Blocks.empties_keys (opened : b.Opened y1 c) :
    (y1.empties c).map conditionKey = Id8.all.flatMap (emptyAtEnd b c) := by
  have each : Id8.all.flatMap (emptyAtEnd b c) = Id8.all.flatMap fun g =>
      (if c.kind = .stitch then y1.emptyBobbin c.index g else []).map conditionKey :=
    List.flatMap_congr fun g _ => (emptyAtEnd_eq opened g).symm
  rw [each, Blocks.empties]
  split
  · rw [List.map_flatMap]
  · rfl

theorem perm_regroup {α : Type} (a b c d e : List α) :
    (a ++ (b ++ (c ++ d ++ e))).Perm (a ++ e ++ (b ++ c ++ d)) := by
  rw [← Multiset.coe_eq_coe]
  simp only [← Multiset.coe_add]
  abel

/-- The conditions of the index, by their keys, whatever the moments at which they are taken. -/
theorem conditionKeys_perm (opened : b.Opened y1 c) (met : b.Met y3 c first)
    (hfc : c.kind = .jump → y3.fc = b.fc) (hfirst : (first ++ others).Perm (y1.empties c))
    (hrest : (early ++ (late ++ deferred)).Perm
      (others ++ Id8.all.flatMap (y3.judgedFaults c) ++ y3.jumpLate c)) :
    ((b.entryLate c).map conditionKey ++ (first.map conditionKey
        ++ (early ++ (late ++ deferred)).map conditionKey)).Perm
      (lateAtEnd b c ++ Id8.all.flatMap (fun g =>
        emptyAtEnd b c g ++ judgedKeys b c g (y3.verdictOf c g))) := by
  have judged : (Id8.all.flatMap (y3.judgedFaults c)).map conditionKey =
      Id8.all.flatMap fun g => judgedKeys b c g (y3.verdictOf c g) := by
    rw [List.map_flatMap]
    exact List.flatMap_congr fun g _ => met.faults g
  have rest : ((early ++ (late ++ deferred)).map conditionKey).Perm (others.map conditionKey
      ++ Id8.all.flatMap (fun g => judgedKeys b c g (y3.verdictOf c g))
      ++ (y3.jumpLate c).map conditionKey) := by
    rw [← judged, ← List.map_append, ← List.map_append]
    exact hrest.map conditionKey
  have empties := hfirst.map conditionKey
  rw [List.map_append, Blocks.empties_keys opened] at empties
  have late := lateAtEnd_eq hfc met.near.slot
  rw [List.map_append] at late
  refine ((rest.append_left _).append_left _).trans ((perm_regroup _ _ _ _ _).trans ?_)
  rw [late]
  exact ((empties.append_right _).trans (List.flatMap_append_perm _ _ _)).append_left _

/-- A head that neither lowers its bobbin to 0 nor is judged faulty is named by no condition taken around
the decision. -/
theorem not_named (opened : b.Opened y1 c) (met : b.Met y3 c first)
    (hfirst : (first ++ others).Perm (y1.empties c))
    (hrest : (early ++ (late ++ deferred)).Perm
      (others ++ Id8.all.flatMap (y3.judgedFaults c) ++ y3.jumpLate c)) {g : HeadId}
    (hempty : emptyAtEnd b c g = []) (hjudged : judgedKeys b c g (y3.verdictOf c g) = []) :
    ¬ names (early ++ (late ++ deferred)) g := by
  rintro ⟨x, hx, hg⟩
  rcases List.mem_append.mp (hrest.mem_iff.mp hx) with hx | hx
  · rcases List.mem_append.mp hx with hx | hx
    · obtain ⟨hk, g', hg'⟩ :=
        Blocks.mem_empties (hfirst.mem_iff.mp (List.mem_append_right first hx))
      obtain ⟨rfl, -⟩ := y1.emptyBobbin_names c.index hg' hg
      rw [← emptyAtEnd_eq opened, if_pos hk, List.map_eq_nil_iff] at hempty
      exact absurd hg' (by rw [hempty]; nofun)
    · obtain ⟨g', -, hg'⟩ := List.mem_flatMap.mp hx
      obtain rfl := y3.judgedFaults_names c hg' hg
      rw [← met.faults, List.map_eq_nil_iff] at hjudged
      exact absurd hg' (by rw [hjudged]; nofun)
  · unfold Blocks.jumpLate at hx
    split at hx
    · rw [List.mem_singleton.mp hx] at hg
      exact nomatch hg
    · exact nomatch hx

/-- What the end of a cycle makes of the bobbin of a head: `hu` and `ru` hold the heads and their flags
once the bobbins are lowered (R114). -/
theorem bobbinEnds {hu : Eight Head} {ru : Ru} (opened : b.Opened y1 c)
    (hhu : ∀ g, hu.get g = if c.kind = .stitch then y1.loweredHead g else y1.hu.get g)
    (hflags : ∀ g, (ru.heads.get g).flags
      = (y1.ru.heads.get g).flags ||| (if c.kind = .stitch then y1.lowBobbin g else 0#4))
    (hbobbins : ∀ g, (t.hu.get g).bobbin = (hu.get g).bobbin
      ∧ (t.hu.get g).lowLatch = (hu.get g).lowLatch)
    (hcovers : ∀ g m, (ru.heads.get g).flags &&& m = m → (t.ru.heads.get g).flags &&& m = m)
    (g : HeadId) :
    (c.kind = .stitch → (b.hu.get g).takesPart = true → ∀ n, (b.hu.get g).bobbin = some (n + 1) →
      let low := decide (n ≤ b.cf.settings.bobbinLow)
      (t.hu.get g).bobbin = some n ∧ (t.hu.get g).lowLatch = ((b.hu.get g).lowLatch || low)
      ∧ (low = true → (b.hu.get g).lowLatch = false →
          (t.ru.heads.get g).flags &&& 0b1000#4 = 0b1000#4))
    ∧ (c.kind ≠ .stitch ∨ (b.hu.get g).takesPart = false ∨ (b.hu.get g).bobbin = none
        ∨ (b.hu.get g).bobbin = some 0 →
      (t.hu.get g).bobbin = (b.hu.get g).bobbin ∧ (t.hu.get g).lowLatch = (b.hu.get g).lowLatch) := by
  rw [(hbobbins g).1, (hbobbins g).2, hhu g]
  refine ⟨fun hk hpart n hn => ?_, fun hno => ?_⟩
  · obtain ⟨hbobbin, hlatch, hlow⟩ := Blocks.loweredHead_counts opened hpart hn
    rw [if_pos hk]
    refine ⟨hbobbin, hlatch, fun hl hf => hcovers g _ ?_⟩
    rw [hflags g, if_pos hk, hlow hl hf]
    exact covers_self _ _
  · split
    · next hk => exact Blocks.loweredHead_still opened (hno.resolve_left (not_not_intro hk))
    · exact opened.bobbins g

/-- Up to the record counted sewn, a JUMP's index leaves the frame. -/
theorem Blocks.report_fc_jump (ns : Nat) {ru : Ru} {hu : Eight Head} (hk : c.kind = .jump)
    (hfirst : ∀ x ∈ first, c.kind = .stitch ∧ ∃ g, x ∈ (b.angled c ns).emptyBobbin c.index g)
    (hidle : ({ b.angled c ns with hu := hu, ru := ru } : Blocks).fl.waiting = []) :
    (({ b.angled c ns with hu := hu, ru := ru } : Blocks).report first).fc = b.fc := by
  have still : c.kind ≠ .stitch := by rw [hk]; nofun
  have none : first = [] := List.eq_nil_iff_forall_not_mem.mpr fun x hx => still (hfirst x hx).1
  obtain ⟨-, -, hfc, -⟩ := b.eventsAtIndex_quiet still
  rw [none, Blocks.report_nothing hidle]
  exact hfc

/-- The end of a cycle, whatever the order in which FL takes its conditions (R52, R114, R119, R122; log
4). -/
theorem Blocks.endCycle_cycleEnds (choice : Nat → Nat) (ns : Nat) (plan : PlanMode) (c : Cycle)
    (b : Blocks) (hgoes : b.patchGoesOn) (hturns : b.sc.turns = true)
    (hopen : b.ds.channel ≠ .closed) (hidle : b.fl.waiting = []) :
    cycleEnds b (Blocks.endCycle choice ns plan c b) plan c := by
  obtain ⟨first, others, early, late, deferred, hfirst, hrest, heq⟩ :=
    b.endCycle_stages choice ns plan c
  obtain ⟨opened, htm1⟩ := b.angled_opened (c := c) ns hgoes hopen hidle
  obtain ⟨ru2, hu2, heq2, hhu2, hflags2⟩ := (b.angled c ns).lowered_eq c
  have hnear := (b.angled c ns).lowered_near c
  rw [heq2] at hnear hfirst
  replace hfirst : (first ++ others).Perm ((b.angled c ns).empties c) := hfirst
  have ofFirst (x : Condition) (hx : x ∈ first) := Blocks.mem_empties
    (hfirst.mem_iff.mp (List.mem_append_left others hx))
  obtain ⟨met, taken⟩ := Blocks.met_of_opened ru2 hu2 hnear opened htm1 hgoes hopen hidle ofFirst
  have hfc (hk : c.kind = .jump) := Blocks.report_fc_jump ns (ru := ru2) (hu := hu2) hk ofFirst
    (hnear.waiting.trans (opened.near.waiting.trans hidle))
  rw [Blocks.closedAt, heq2] at hrest heq
  generalize ({ b.angled c ns with hu := hu2, ru := ru2 } : Blocks).report first = y3
    at met taken hfc hrest heq
  obtain ⟨ru4, tm4, heq4, htm4, hflags4⟩ := y3.judged_eq plan c
  rw [heq4] at hrest heq
  replace hrest : (early ++ (late ++ deferred)).Perm
      (others ++ Id8.all.flatMap (y3.judgedFaults c) ++ y3.jumpLate c) := hrest
  obtain ⟨hhu5, htm5, hheads5, hcf5, hfl5, hchannel5, hturns5, hgoes5⟩ :=
    Blocks.recordSewn_heads { y3 with tm := tm4, ru := ru4 } plan c
  generalize Blocks.recordSewn { y3 with tm := tm4, ru := ru4 } plan c = y5
    at heq hhu5 htm5 hheads5 hcf5 hfl5 hchannel5 hturns5 hgoes5
  have ofIndex (x : Condition) (hx : x ∈ early ++ (late ++ deferred)) : x.ofIndex := by
    rcases List.mem_append.mp (hrest.mem_iff.mp hx) with hx | hx
    · rcases List.mem_append.mp hx with hx | hx
      · obtain ⟨-, g, hg⟩ := Blocks.mem_empties (hfirst.mem_iff.mp (List.mem_append_right first hx))
        exact Blocks.emptyBobbin_ofIndex _ _ g x hg
      · obtain ⟨g, -, hg⟩ := List.mem_flatMap.mp hx
        exact y3.judgedFaults_ofIndex c g x hg
    · exact (y3.jumpLate_ofEnd c x hx).1
  obtain ⟨⟨l2, hl2, hkeys2⟩, hbobbins, hcovers, hmonitors⟩ := y5.decidedOn_spec plan c ofIndex
    (hgoes5 (met.near.goes hgoes)) (hturns5.trans (met.near.turns.trans hturns))
    (by rw [hchannel5]; exact fun h => hopen (met.near.channel.symm.trans h))
    (by rw [hfl5]; exact met.near.waiting.trans hidle)
  rw [heq]
  generalize y5.decidedOn plan c early late deferred = t at hl2 hkeys2 hbobbins hcovers hmonitors
  obtain ⟨l0, hl0, hkeys0⟩ := opened.log
  obtain ⟨l1, hl1, hkeys1⟩ := taken.log
  refine ⟨l0 ++ (l1 ++ l2), y3.verdictOf c, ?_, ?_, fun g => ?_⟩
  · rw [hl2, hfl5, List.foldl_append, List.foldl_append, ← hl0]
    exact congrArg (List.foldl Fl.write · l2) hl1
  · rw [List.map_append, List.map_append, List.append_assoc, List.append_assoc, hkeys2, hkeys1, hkeys0]
    exact conditionKeys_perm opened met hfc hfirst hrest
  have covers4 (m : BitVec 4) (h : (ru4.heads.get g).flags &&& m = m) :
      (t.ru.heads.get g).flags &&& m = m :=
    hcovers g m (by rw [hheads5]; exact h)
  obtain ⟨lowers, stays⟩ := bobbinEnds (t := t) opened hhu2 hflags2
    (fun g => by
      obtain ⟨-, -, hbobbin, hlatch, -⟩ := taken.takes.heads g
      rw [(hbobbins g).1, (hbobbins g).2, hhu5 g]
      exact ⟨hbobbin, hlatch⟩)
    (fun g m h => hcovers g m (by
      rw [hheads5, hflags4]
      exact covers_or _ _ _ (taken.takes.flags g m h))) g
  refine ⟨met.verdict g, lowers, stays, fun x hx hwarn => covers4 _ ?_, fun hempty hjudged => ?_⟩
  · have warns : y3.warnFlag c g = 0b0100#4 := if_pos (by rw [hx]; exact hwarn)
    rw [hflags4, warns]
    exact covers_self _ _
  · have named := not_named opened met hfirst hrest hempty hjudged
    have closed : y5.tm.get g = monitorEnded b plan c g (y3.verdictOf c g) := by
      rw [htm5]
      exact (htm4 g).trans (met.closed plan hempty)
    have monitors := hmonitors g named
    rw [closed, hcf5, show y3.cf = b.cf from met.near.cf] at monitors
    exact monitors

end Sys2Proof.Machine

namespace Sys2Proof.Proofs

open Sys2Proof.Machine Sys2Proof.Claims

/-- Settles O54: a feed pulse, the judgement of a window, one head at the end of a cycle, and the index
pulse that ends a cycle. -/
theorem feedPulsesAreCountedAndJudged : Obligations.FeedPulsesAreCountedAndJudged := by
  unfold Obligations.FeedPulsesAreCountedAndJudged
  refine ⟨feedPulses, windowsJudged, windowsClosed, bobbinsLowered, ?_⟩
  intro d s plan c hstate hplan hc hidle hopen htravel
  have turns : s.blk.indexed.sc.turns = true := (Sc.turns_iff _).mpr hstate
  have ends := Blocks.endCycle_cycleEnds (Config.freeOrder s.blk.draws) d plan c s.blk.indexed
    ⟨htravel, .inl turns⟩ turns hopen hidle
  exact ⟨_, next_blocks (s.blk.indexPulse_ends d hstate hplan hc), ends⟩

end Sys2Proof.Proofs
end

section
/-!
SUPPORT. The stages RC follows within one step, counted (R71, R72), and the end of a colour change: of a
run (R108), and of a patch run (R142, R143, R144, R146).
-/

namespace Sys2Proof.Machine

open Sys2Proof.Claims

variable {b : Blocks}

/-! ## Stages one after another -/

/-- From a stage the work of RC comes to its end in a number of stages. -/
inductive Blocks.Leads : Nat → Phase → Blocks → Blocks → Prop
  | last {p : Phase} {b r : Blocks} : b.phase p = (r, none) → Leads 1 p b r
  | next {n : Nat} {p q : Phase} {b b' r : Blocks} :
      b.phase p = (b', some q) → Leads n q b' r → Leads (n + 1) p b r

theorem Blocks.Leads.follow {n : Nat} {p : Phase} {b r : Blocks} (h : Leads n p b r) :
    ∀ m, n ≤ m → Blocks.follow m p b = r := by
  induction h with
  | @last p b r hend =>
    intro m hm
    obtain ⟨k, rfl⟩ := Nat.exists_eq_add_of_le' hm
    rw [Blocks.follow_end k p b (by rw [hend]), hend]
  | @next n p q b b' r hon _ ih =>
    intro m hm
    obtain ⟨k, rfl⟩ := Nat.exists_eq_add_of_le' hm
    rw [← Nat.add_assoc, Blocks.follow_on (k + n) p q b (by rw [hon]), hon]
    exact ih _ (Nat.le_add_left n k)

/-- A step passes through 64 stages at least, if there are so many. -/
theorem Blocks.Leads.go {n : Nat} {p : Phase} {b r : Blocks} (h : Leads n p b r) (hn : n ≤ 64) :
    b.go p = r :=
  h.follow _ (hn.trans (Nat.le_add_left 64 _))

/-! ## An advance of the sew point -/

/-- An advance changes the slot in effect alone of RC (R68). -/
theorem Blocks.advance_rc (b : Blocks) :
    b.advance.rc = { b.rc with slotInEffect := b.advance.rc.slotInEffect } := by
  unfold Blocks.advance
  split_ifs
  · simp [Blocks.readSlot]
  · rfl

/-! ## A run that starts -/

@[simp] theorem Blocks.startRequest_rc (b : Blocks) (plan : PlanMode) (i : Nat) :
    (b.startRequest plan i).1.rc = b.rc := by
  unfold Blocks.startRequest; dsimp only; repeat' split
  all_goals rfl

@[simp] theorem Blocks.startRequest_ru (b : Blocks) (plan : PlanMode) (i : Nat) :
    (b.startRequest plan i).1.ru = b.ru := by
  unfold Blocks.startRequest; dsimp only; repeat' split
  all_goals rfl

/-- What a shaft start that is answered STARTED leaves of RC and of the reports (R72). -/
structure RunStarted (b t : Blocks) : Prop where
  runs : runsOn b t
  rc : t.rc = { b.rc with runState := .running, pauseCause := none, resume := none }
  ru : b.ru.OnlyRaised t.ru

theorem Blocks.startPhase_plainly (hresume : b.rc.resume = none) (h : mayStart b) :
    b.startPhase.2 = none ∧ RunStarted b b.startPhase.1 := by
  obtain ⟨hend, hruns⟩ := Blocks.startPhase_runsOn hresume h
  obtain ⟨hsc, hsel, hax, hbusy, hk⟩ := h
  obtain ⟨r, hr⟩ := b.record_of_planK .run b.ds.sew hk
  have started := b.startRequest_started .run b.ds.sew r
    ⟨hsc, hsel, b.fc.ready_of_axes hax, hbusy⟩ hk hr
  have phase : b.startPhase.1 = (b.startRequest .run b.ds.sew).1.goto .running none := by
    rw [Blocks.startPhase_plain hresume, started]
    rfl
  refine ⟨hend, hruns, ?_, ?_⟩
  · rw [phase, Blocks.goto_rc, Blocks.startRequest_rc, ← hresume]
  · rw [phase]
    simpa using (b.startRequest .run b.ds.sew).1.onlyRaised_goto .running none

/-- A start that may be made is made, after a RUN from IDLE or PAUSED or without one (R72). -/
theorem Blocks.startPhase_started (h : mayStart b) :
    b.startPhase.2 = none ∧ RunStarted b b.startPhase.1 := by
  by_cases hresume : b.rc.resume = none
  · exact Blocks.startPhase_plainly hresume h
  · rw [Blocks.startPhase_resumes hresume]
    obtain ⟨hend, runs, rc, ru⟩ := Blocks.startPhase_plainly (b := { b with
      rc.resume := none
      tm := Eight.tabulate (fun h =>
        if takesIn b .run h then { b.tm.get h with owed := true } else b.tm.get h) }) rfl h
    exact ⟨hend, runs, rc, ru⟩

theorem Blocks.leads_start (h : mayStart b) : Blocks.Leads 1 .start b b.startPhase.1 :=
  .last (Prod.ext rfl (Blocks.startPhase_started h).1)

/-- Where the needles agree, the reconciliation leads to the shaft start (R71). -/
theorem Blocks.leads_reconcile (h : mayStart b)
    (hneedles : ∀ slot, b.rc.slotInEffect = some slot → b.needlesDiffer slot = false) :
    Blocks.Leads 2 .reconcile b b.startPhase.1 := by
  refine .next (b' := b) (q := .start) ?_ (Blocks.leads_start h)
  obtain ⟨-, -, -, -, hk⟩ := h
  show b.reconcilePhase = _
  rw [b.reconcilePhase_other (Blocks.noColor_of_planK hk)]
  cases hslot : b.rc.slotInEffect with
  | none => rfl
  | some slot =>
    dsimp only
    rw [hneedles slot hslot]
    rfl

/-! ## The end of a change of a run -/

theorem Blocks.changeMoving_iff (b : Blocks) (c : Change) :
    b.changeMoving c = true ↔ stillMoving b c := by
  have every : ∀ g : HeadId, g ∈ Id8.all := fun g => by cases g <;> decide
  have moving : ∀ x : Selector, (match x with | .moving _ _ _ => true | _ => false) = true ↔
      ∃ target start left, x = .moving target start left := by
    intro x
    cases x <;> simp
  simp only [Blocks.changeMoving, stillMoving, List.any_eq_true, every, true_and, Bool.and_eq_true]
  refine exists_congr fun g => (and_congr_right fun _ => moving (b.hu.get g).selector).trans ?_
  exact ⟨fun ⟨hm, target, start, left, hs⟩ => ⟨target, start, left, hm, hs⟩,
    fun ⟨target, start, left, hm, hs⟩ => ⟨hm, target, start, left, hs⟩⟩

/-- A change that is over: none is in flight (R108). -/
def Blocks.changeOver (b : Blocks) : Blocks := { b with rc.change := none }

/-- A change of a run whose last selector stands, by how it was stopped and by its kind (R108). -/
theorem Blocks.changeCheckPhase_run {c : Change} (hrun : b.rc.runState = .changing)
    (hc : b.rc.change = some c) (hstill : ¬ stillMoving b c) :
    b.phase .changeCheck =
      if c.stopAll then (b.changeOver.pauseFor .fault, none)
      else if c.paused then (b.changeOver.pauseFor .host, none)
      else match c.kind with
        | .recordDriven _ => ((b.changeOver.oweMoved c).advance.raise .color, some .reconcile)
        | .reconciliation _ => (b.changeOver.oweMoved c, some .start) := by
  show b.changeCheckPhase = _
  unfold Blocks.changeCheckPhase
  rw [hc]
  dsimp only
  rw [if_neg (mt (b.changeMoving_iff c).mp hstill)]
  split
  · next hpatch _ => exact nomatch hrun.symm.trans hpatch
  · rfl

/-- A change of a run has ended at an event (R108). -/
theorem changeEnds_of_check {i : Instr} {s : State} {c : Change}
    (hexec : exec i s = .next (withBlocks s (b.go .changeCheck))) (hrun : b.rc.runState = .changing)
    (hc : b.rc.change = some c) (hstill : ¬ stillMoving b c) : changeEnds i s b c := by
  have check := Blocks.changeCheckPhase_run hrun hc hstill
  have exec_of {n : Nat} {r : Blocks} (h : Blocks.Leads n .changeCheck b r) (hn : n ≤ 64) :
      exec i s = .next (withBlocks s r) := by rw [hexec, h.go hn]
  unfold changeEnds
  intro ended owed passed
  refine ⟨fun hall => ?_, fun hall hpaused => ?_, fun n hall hpaused hkind hmay => ?_,
    fun n hall hpaused hkind hmay hneedles => ?_⟩
  · rw [if_pos hall] at check
    exact exec_of (.last check) (by decide)
  · rw [if_neg (by rw [hall]; nofun), if_pos hpaused] at check
    exact exec_of (.last check) (by decide)
  · rw [if_neg (by rw [hall]; nofun), if_neg (by rw [hpaused]; nofun), hkind] at check
    obtain ⟨-, runs, rc, -⟩ := Blocks.startPhase_started hmay
    exact ⟨_, exec_of (.next check (Blocks.leads_start hmay)) (by decide), runs,
      congrArg Rc.change rc⟩
  · rw [if_neg (by rw [hall]; nofun), if_neg (by rw [hpaused]; nofun), hkind] at check
    obtain ⟨-, runs, rc, ru⟩ := Blocks.startPhase_started hmay
    obtain ⟨-, -, -, -, -, hds⟩ := id runs
    have mask : owed.advance.ru.kindMask = b.ru.kindMask := owed.onlyRaised_advance.kindMask
    refine ⟨_, exec_of (.next check (Blocks.leads_reconcile hmay hneedles)) (by decide), runs, ?_,
      (congrArg Rc.slotInEffect rc).trans rfl, fun hroom => ?_, ?_⟩
    · exact (congrArg Rc.change rc).trans (congrArg Rc.change owed.advance_rc)
    · exact (congrArg Ds.sew hds).trans (owed.advance_sews hroom).sew
    · rw [← mask]
      exact ru.grows _ (owed.advance.ru.raise_pending .color)

/-! ## The end of a change of a patch run -/

variable {tag : Byte} {base : BaseState} {w : PatchWork}

/-- A change of a patch run that was stopped ends the patch (R144, R146). -/
theorem Blocks.changeCheckPhase_patchStopped {c : Change} (hop : b.rc.op = some ⟨tag, base, .patch w⟩)
    (hrun : b.rc.runState = .patch) (hc : b.rc.change = some c) (hstill : ¬ stillMoving b c)
    (hstop : c.stopAll = true ∨ c.paused = true) :
    b.phase .changeCheck = (b.changeOver.patchEnd w (if c.stopAll then .failed else .stopped)
      (if c.stopAll then w.newStart .failed else w.p), none) := by
  have work : b.changeOver.patchWork = some w := Blocks.patchWork_of hop
  show b.changeCheckPhase = _
  unfold Blocks.changeCheckPhase
  rw [hc]
  dsimp only
  rw [if_neg (mt (b.changeMoving_iff c).mp hstill)]
  split
  · next hw =>
    cases work.symm.trans hw
    by_cases hall : c.stopAll = true
    · rw [if_pos hall, if_pos hall, if_pos hall]
      rfl
    · rw [if_neg hall, if_neg hall, if_neg hall, if_pos (hstop.resolve_left hall)]
      rfl
  · next hno => exact absurd work (hno w hrun)

/-- The patch run whose change is done: p past the COLOR of a record-driven one (R142, R143). -/
def PatchWork.changed (w : PatchWork) (c : Change) : PatchWork :=
  match c.kind with
  | .recordDriven n => { w with p := n + 1, slot := some c.slot }
  | .reconciliation _ => w

theorem PatchWork.changed_b (w : PatchWork) (c : Change) : (w.changed c).b = w.b := by
  unfold PatchWork.changed
  split <;> rfl

theorem PatchWork.changed_head (w : PatchWork) (c : Change) : (w.changed c).head = w.head := by
  unfold PatchWork.changed
  split <;> rfl

/-- A patch run with its change done, before its next test (R142, R143). -/
def Blocks.patchChanged (b : Blocks) (w : PatchWork) (c : Change) : Blocks :=
  (b.changeOver.oweMoved c).patchChangeDone w c

theorem Blocks.patchChanged_rc (hop : b.rc.op = some ⟨tag, base, .patch w⟩) (c : Change) :
    (b.patchChanged w c).rc =
      { b.rc with change := none, op := some ⟨tag, base, .patch (w.changed c)⟩ } := by
  unfold Blocks.patchChanged Blocks.patchChangeDone PatchWork.changed
  dsimp only
  cases c.kind with
  | recordDriven n => simp [Blocks.setWork, Blocks.oweMoved, Blocks.changeOver, hop]
  | reconciliation n => simp [Blocks.oweMoved, Blocks.changeOver, hop]

theorem Blocks.patchChanged_keeps (b : Blocks) (w : PatchWork) (c : Change) :
    (b.patchChanged w c).cf = b.cf ∧ (b.patchChanged w c).ds = b.ds ∧ (b.patchChanged w c).fc = b.fc
      ∧ (b.patchChanged w c).sc = b.sc ∧ (b.patchChanged w c).hu = b.hu
      ∧ (b.patchChanged w c).rt = b.rt
      ∧ ((b.patchChanged w c).tm.get (w.changed c).head).owed = true := by
  rw [w.changed_head]
  unfold Blocks.patchChanged Blocks.patchChangeDone
  dsimp only
  split <;> exact ⟨rfl, rfl, rfl, rfl, rfl, rfl, by
    simp [Blocks.setWork, Blocks.modMonitor, Eight.get_update]⟩

/-- A patch run whose change is done is ready for its test (R142). -/
theorem Blocks.patchReady_changed (hc : b.rc.change = none) (ho : (b.tm.get w.head).owed = true) :
    b.patchReady w = b := by
  have monitors : (b.tm.update w.head fun m => { m with owed := m.owed || w.slot.isSome }) = b.tm := by
    refine Eight.ext_get fun g => ?_
    rw [Eight.get_update]
    split_ifs with hg
    · rw [hg, ho, Bool.true_or, ← ho]
    · rfl
  rw [Blocks.patchReady, monitors, hc, ite_self, ← hc]

/-- A change of a patch run has ended at an event (R142, R143, R144, R146). -/
theorem patchChangeEnds_of_check {i : Instr} {s : State} {c : Change}
    (hexec : exec i s = .next (withBlocks s (b.go .changeCheck))) (hrun : b.rc.runState = .patch)
    (hop : b.rc.op = some ⟨tag, base, .patch w⟩) (hc : b.rc.change = some c)
    (hstill : ¬ stillMoving b c) : patchChangeEnds i s b c tag base w := by
  have exec_of {n : Nat} {r : Blocks} (h : Blocks.Leads n .changeCheck b r) (hn : n ≤ 64) :
      exec i s = .next (withBlocks s r) := by rw [hexec, h.go hn]
  unfold patchChangeEnds
  intro start w'
  refine ⟨fun hstop => ?_, fun r hall hpaused hr hmark hcolor hp hsc hsel hax hbusy hk => ?_⟩
  · have check := Blocks.changeCheckPhase_patchStopped hop hrun hc hstill hstop
    rw [w.newStart_failed] at check
    obtain ⟨hrs, hcause, hnoOp, -, hnoChange, hrec, -, -, -, hrt⟩ := Blocks.patchEnd_ended
      (b := b.changeOver) (x := b.changeOver) rfl rfl rfl hop (if c.stopAll then .failed else .stopped)
      start
    exact ⟨_, exec_of (.last check) (by decide), hrs, hcause, hnoOp, hnoChange, hrec, hrt,
      Blocks.patchEnd_fl ..⟩
  · have check := Blocks.changeCheckPhase_done hop hrun hc
      (Bool.eq_false_iff.mpr (mt (b.changeMoving_iff c).mp hstill)) hall hpaused
    have rc := Blocks.patchChanged_rc hop c
    obtain ⟨hcf, hds, hfc, hsc', hhu, hrt, hmonitor⟩ := b.patchChanged_keeps w c
    have window : (b.patchChanged w c).planK (.patch (w.changed c).b) (w.changed c).p ≠ 0 := by
      rw [w.changed_b, Blocks.planK_congr hds hrt hcf]
      exact hk
    obtain ⟨hend, started⟩ := Blocks.patchReady_starts (b := b.patchChanged w c) (v := w.changed c)
      (tag := tag) (base := base) (r := r) (by rw [rc]) (by rw [hds]; exact hr) hmark hcolor hp
      (by rw [hsc']; exact hsc) (by rw [Blocks.selectorMoving, hhu]; exact hsel)
      (by rw [axesReady, hfc]; exact hax) (by rw [hfc]; exact hbusy) window
    rw [Blocks.patchReady_changed (by rw [rc]) hmonitor] at hend started
    obtain ⟨trc, state, plan, cycle, ds, -⟩ := started
    refine ⟨_, exec_of (.next check (.last (Prod.ext rfl hend))) (by decide), ?_, state, ?_, cycle,
      ds.trans hds⟩
    · refine Eq.trans trc ?_
      rw [rc]
      simp only [ite_self]
      rfl
    · rw [← w.changed_b c]
      exact plan

/-! ## A selector of a change at rest -/

/-- A selector has come to rest, and RC looks whether its change has ended (R108). -/
theorem changeCollected_of_check {i : Instr} {s : State}
    (hexec : exec i s = .next (withBlocks s (b.go .changeCheck))) : changeCollected i s b := by
  have stays (h : b.phase .changeCheck = (b, none)) : exec i s = .next (withBlocks s b) := by
    rw [hexec, Blocks.go_one h]
  refine ⟨fun hnone => stays ?_, fun c hc => ⟨fun hmoving => stays ?_, fun hstill hrun => ?_,
    fun tag base w hstill hrun hop => ?_⟩⟩
  · show b.changeCheckPhase = _
    unfold Blocks.changeCheckPhase
    rw [hnone]
  · obtain ⟨g, target, start, left, hmoved, hsel⟩ := hmoving
    exact Blocks.changeCheckPhase_waits hc hmoved hsel
  · exact changeEnds_of_check hexec hrun hc hstill
  · exact patchChangeEnds_of_check hexec hrun hop hc hstill

end Sys2Proof.Machine
end

section
/-!
SUPPORT. The events of the needle selectors: pulses, the index and the timeout (R100, R101, R102), in
HHOME and HOME (R87, R88, R104) and in a colour change (R108, R134, R135, R155).
-/

namespace Sys2Proof.Machine

open Sys2Proof.Claims

variable {b : Blocks} {h : HeadId}

/-! ## Pulses and the index -/

/-- A pulse with needles still to pass comes one nearer (R100). -/
theorem Blocks.selectorPulse_nears {target start left : Nat}
    (hsel : (b.hu.get h).selector = .moving target start left) (hleft : 2 ≤ left) :
    b.selectorPulse h =
      withHead b h { b.hu.get h with selector := .moving target start (left - 1) } := by
  unfold Blocks.selectorPulse
  rw [hsel]
  exact if_neg (by omega)

/-- The last pulse puts the selector at its target (R100). -/
theorem Blocks.selectorPulse_arrives {target start left : Nat}
    (hsel : (b.hu.get h).selector = .moving target start left) (hleft : left ≤ 1) :
    b.selectorPulse h = (selectorAtRest b h (.atNeedle target)).go .changeCheck := by
  unfold Blocks.selectorPulse
  rw [hsel]
  exact if_pos hleft

theorem Blocks.selectorPulse_unawaited
    (hsel : (b.hu.get h).selector.busy = false ∨ (b.hu.get h).selector = .homing) :
    b.selectorPulse h = b := by
  unfold Blocks.selectorPulse
  split
  · next hs => simp [hs, Selector.busy] at hsel
  · rfl

/-- The level of a needle-1 index is noted (R101). -/
def Blocks.indexAt (b : Blocks) (h : HeadId) (a : Bool) : Blocks :=
  { b with pins.selIndex := b.pins.selIndex.set h a }

theorem Blocks.selectorIndex_unawaited {a : Bool}
    (hsel : (b.hu.get h).selector ≠ .homing ∨ a = false) : b.selectorIndex h a = b.indexAt h a := by
  unfold Blocks.selectorIndex
  refine if_neg ?_
  rw [Bool.and_eq_true, beq_iff_eq]
  exact fun ⟨ha, hs⟩ => hsel.elim (· hs) fun hno => nomatch hno.symm.trans ha

theorem Blocks.selectorIndex_homing (hsel : (b.hu.get h).selector = .homing) :
    b.selectorIndex h true = (b.indexAt h true).selectorHomed h := by
  unfold Blocks.selectorIndex
  exact if_pos (by rw [hsel]; rfl)

/-! ## HHOME and HOME -/

variable {tag : Byte} {base : BaseState} {w : HomeWork}

theorem Blocks.selectorHomed_hhome (hop : b.rc.op = some ⟨tag, base, .hhome h⟩) :
    b.selectorHomed h = (selectorAtRest b h (.atNeedle 1)).endOpBase .ok OpFailures.none := by
  unfold Blocks.selectorHomed
  dsimp only [Blocks.modHead_rc]
  rw [hop]
  exact if_pos rfl

theorem Blocks.selectorHomed_home (hop : b.rc.op = some ⟨tag, base, .home w⟩) :
    b.selectorHomed h = ({ selectorAtRest b h (.atNeedle 1) with
      rc.op := some ⟨tag, base, .home { w with await := w.await.set h false }⟩ } :
      Blocks).homeCheck := by
  have home := Blocks.modHome_home (b := selectorAtRest b h (.atNeedle 1)) hop
    (fun w => { w with await := w.await.set h false })
  unfold Blocks.selectorHomed
  dsimp only [Blocks.modHead_rc]
  rw [hop]
  exact congrArg Blocks.homeCheck home

/-- The entry of a selector that fails its homing (R102, R156). -/
def homingEntry (b : Blocks) (h : HeadId) : Entry :=
  { entryOf b .selectorTimeout .failed none (some b.ds.sew) with head := some h, slot := none }

/-- The timeout of a homing selector is written, and counted by the operation that homes (R102, R152). -/
theorem Blocks.report_selectorHoming (hidle : b.fl.waiting = []) (h : HeadId) :
    b.report [.selectorHoming h] =
      (b.writeEntry (.selectorHoming h)).countFailure (.selectorHoming h) := by
  rw [Blocks.report_one hidle, Blocks.take_failed _ _ rfl]

/-- The blocks with a homing selector jammed and its timeout written (R102, R150). -/
def Blocks.homingJammed (b : Blocks) (h : HeadId) : Blocks :=
  (selectorAtRest b h .jammed).writeEntry (.selectorHoming h)

theorem Blocks.homingJammed_keeps (b : Blocks) (h : HeadId) :
    (b.homingJammed h).hu = (selectorAtRest b h .jammed).hu ∧ (b.homingJammed h).rc = b.rc
      ∧ (b.homingJammed h).fc = b.fc ∧ (b.homingJammed h).sc = b.sc
      ∧ (b.homingJammed h).fl = b.fl.write (homingEntry b h) :=
  ⟨Blocks.writeEntry_hu .., Blocks.writeEntry_rc .., Blocks.writeEntry_fc .., Blocks.writeEntry_sc ..,
    Blocks.writeEntry_fl ..⟩

theorem Blocks.selectorExpiry_homing {v : Nat} (htimer : (b.hu.get h).selTimer = some v)
    (hsel : (b.hu.get h).selector = .homing) : b.selectorExpiry h = b.selectorHomingFailed h := by
  unfold Blocks.selectorExpiry
  rw [htimer, hsel]

theorem Blocks.selectorHomingFailed_hhome (hidle : b.fl.waiting = [])
    (hop : b.rc.op = some ⟨tag, base, .hhome h⟩) :
    b.selectorHomingFailed h = (b.homingJammed h).endOpBase .failed
      ⟨false, false, false, (Eight.const false).set h true⟩ := by
  obtain ⟨-, rc, -⟩ := b.homingJammed_keeps h
  have op : (b.homingJammed h).rc.op = some ⟨tag, base, .hhome h⟩ := by rw [rc, hop]
  have counted : (selectorAtRest b h .jammed).report [.selectorHoming h] = b.homingJammed h := by
    rw [Blocks.report_selectorHoming (b := selectorAtRest b h .jammed) hidle]
    show (b.homingJammed h).countFailure _ = _
    unfold Blocks.countFailure
    rw [op]
  unfold Blocks.selectorHomingFailed
  dsimp only
  rw [show b.modHead h _ = selectorAtRest b h .jammed from rfl, counted, op]
  exact if_pos rfl

theorem Blocks.selectorHomingFailed_home (hidle : b.fl.waiting = [])
    (hop : b.rc.op = some ⟨tag, base, .home w⟩) :
    b.selectorHomingFailed h = ({ b.homingJammed h with
      rc.op := some ⟨tag, base,
        .home { w with await := w.await.set h false, failed := w.failed.set h true }⟩ } :
      Blocks).homeCheck := by
  obtain ⟨-, rc, -⟩ := b.homingJammed_keeps h
  have op : (b.homingJammed h).rc.op = some ⟨tag, base, .home w⟩ := by rw [rc, hop]
  have counted : (selectorAtRest b h .jammed).report [.selectorHoming h] = { b.homingJammed h with
      rc.op := some ⟨tag, base,
        .home { w with await := w.await.set h false, failed := w.failed.set h true }⟩ } := by
    rw [Blocks.report_selectorHoming (b := selectorAtRest b h .jammed) hidle]
    show (b.homingJammed h).countFailure _ = _
    unfold Blocks.countFailure
    rw [op]
    simp only [Blocks.setWork, op, Option.map_some]
  unfold Blocks.selectorHomingFailed
  dsimp only
  rw [show b.modHead h _ = selectorAtRest b h .jammed from rfl, counted]

theorem Blocks.selectorExpiry_unawaited
    (h' : (b.hu.get h).selTimer = none ∨ (b.hu.get h).selector.busy = false) :
    b.selectorExpiry h = b := by
  unfold Blocks.selectorExpiry
  split
  · next ht hs => simp [ht, hs, Selector.busy] at h'
  · next ht hs => simp [ht, hs, Selector.busy] at h'
  · rfl

end Sys2Proof.Machine
end

section
/-!
SUPPORT. The timeout of a selector in a colour change: the entry, the answer by R134, and what it leaves
of the part (R102, R108, R134, R135, R144, R155); the events of the needle selectors settled.
-/

namespace Sys2Proof.Machine

open Sys2Proof.Claims

variable {b : Blocks} {h : HeadId}

/-! ## What touches one head alone -/

/-- The shaft, the frame, the sew and load points and every other head are left as they are. -/
structure OnlyHead (h : HeadId) (b t : Blocks) : Prop where
  sc : t.sc = b.sc
  fc : t.fc = b.fc
  sew : t.ds.sew = b.ds.sew
  load : t.ds.load = b.ds.load
  others : ∀ g : HeadId, g ≠ h → t.hu.get g = b.hu.get g ∧ t.rt.get g = b.rt.get g
    ∧ t.tm.get g = b.tm.get g ∧ t.ru.heads.get g = b.ru.heads.get g

theorem OnlyHead.trans {b x t : Blocks} (hx : OnlyHead h b x) (ht : OnlyHead h x t) :
    OnlyHead h b t := by
  refine ⟨ht.sc.trans hx.sc, ht.fc.trans hx.fc, ht.sew.trans hx.sew, ht.load.trans hx.load,
    fun g hg => ?_⟩
  obtain ⟨hu, rt, tm, heads⟩ := hx.others g hg
  obtain ⟨hu', rt', tm', heads'⟩ := ht.others g hg
  exact ⟨hu'.trans hu, rt'.trans rt, tm'.trans tm, heads'.trans heads⟩

theorem selectorAtRest_onlyHead (b : Blocks) (h : HeadId) (x : Selector) :
    OnlyHead h b (selectorAtRest b h x) :=
  ⟨rfl, rfl, rfl, rfl, fun _ hg => ⟨Eight.get_set_other _ _ _ _ hg, rfl, rfl, rfl⟩⟩

theorem Blocks.writeEntry_onlyHead (b : Blocks) {c : Condition} (hc : c.head = some h) :
    OnlyHead h b (b.writeEntry c) := by
  refine ⟨by simp, by simp, by simp, by simp, fun g hg => ⟨by simp, by simp, ?_, ?_⟩⟩
  · unfold Blocks.writeEntry
    rw [hc]
    exact (Eight.get_update ..).trans (if_neg hg)
  · rw [b.writeEntry_heads]

theorem Ru.headEvent_other (r : Ru) (e : HeadEvent) {g : HeadId} (hg : g ≠ h) :
    (r.headEvent h e).heads.get g = r.heads.get g :=
  (Eight.get_update ..).trans (if_neg hg)

theorem Blocks.faulted_onlyHead (b : Blocks) {c : Condition} (hc : c.head = some h) :
    OnlyHead h b (b.faulted h c) := by
  refine (b.writeEntry_onlyHead hc).trans ⟨rfl, rfl, rfl, rfl, fun g hg => ⟨?_, rfl, rfl, ?_⟩⟩
  · exact (Eight.get_update ..).trans (if_neg hg)
  · exact Ru.headEvent_other _ _ hg

theorem Blocks.monitorLeaves_other (b : Blocks) {g : HeadId} (hg : g ≠ h) :
    (b.monitorLeaves h).tm.get g = b.tm.get g := by
  unfold Blocks.monitorLeaves
  split_ifs
  · rfl
  · exact (Eight.get_update ..).trans (if_neg hg)

theorem Blocks.openIsolated_onlyHead (b : Blocks) (h : HeadId) (c : Condition) :
    OnlyHead h b (b.openIsolated h c) := by
  have heads := (b.onlyRaised_setRanges
    (b.rt.update h (openList (b.boundStart (c.start b.ds.sew))))).heads
  refine ⟨by simp [Blocks.openIsolated], by simp [Blocks.openIsolated], by simp [Blocks.openIsolated],
    by simp [Blocks.openIsolated], fun g hg => ⟨?_, ?_, ?_, ?_⟩⟩
  · rw [b.openIsolated_hu, Eight.get_update, if_neg hg]
  · rw [b.openIsolated_rt, Eight.get_update, if_neg hg]
  · rw [Blocks.openIsolated, Blocks.monitorLeaves_other _ hg]
    simp
  · rw [Blocks.openIsolated, Blocks.monitorLeaves_ru, Blocks.headEvent, Ru.headEvent_other _ _ hg,
      Blocks.modHead_ru, heads]

/-! ## STOP_ALL in a change -/

/-- STOP_ALL in a change of a run, or of a patch run that does not travel, touches RC alone (R75, R144). -/
theorem Blocks.stopAll_inChange {c : Change} (hrun : runIsOf b [.changing, .patch])
    (hc : b.rc.change = some c) (htravels : ∀ asked, b.fc.move ≠ some ⟨.patchTravel, asked⟩) :
    b.stopAll = { b with rc := b.stopAll.rc } := by
  obtain hr | hr : b.rc.runState = .changing ∨ b.rc.runState = .patch := by simpa using hrun
  · unfold Blocks.stopAll
    rw [hr]
  · by_cases hop : ∃ tag base w, b.rc.op = some ⟨tag, base, .patch w⟩
    · obtain ⟨tag, base, w, hop⟩ := hop
      rw [b.stopAll_patch tag base w hr hop,
        b.patchInterrupt_changes w c (fun ⟨asked, hm⟩ => htravels asked hm) hc]
      rfl
    · unfold Blocks.stopAll
      rw [hr]
      dsimp only
      split
      · next hw => exact absurd ⟨_, _, _, hw⟩ hop
      · rfl

theorem Blocks.stopAll_patchChange {c : Change} {tag : Byte} {base : BaseState} {w : PatchWork}
    (hrun : b.rc.runState = .patch) (hop : b.rc.op = some ⟨tag, base, .patch w⟩)
    (hc : b.rc.change = some c) (htravels : ∀ asked, b.fc.move ≠ some ⟨.patchTravel, asked⟩) :
    b.stopAll.rc = { b.rc with
      change := some { c with stopAll := true }
      op := some ⟨tag, base, .patch { w with causes := ⟨w.causes.host, true⟩ }⟩ } := by
  rw [b.stopAll_patch tag base w hrun hop,
    b.patchInterrupt_changes w c (fun ⟨asked, hm⟩ => htravels asked hm) hc]
  simp only [Blocks.setWork, hop, Option.map_some]
  rfl

/-! ## The timeout -/

/-- The jam of a selector is nothing the isolation decision looks at (R134). -/
theorem isolates_jammed (b : Blocks) (h g : HeadId) (x : Selector) (c : Condition) :
    isolates (selectorAtRest b h x) g c ↔ isolates b g c := by
  have state (k : HeadId) : ((selectorAtRest b h x).hu.get k).state = (b.hu.get k).state := by
    show ((b.hu.set h _).get k).state = _
    rw [Eight.get_set]
    split_ifs with hk
    · rw [hk]
    · rfl
  have count : (selectorAtRest b h x).countState .isolated = b.countState .isolated := by
    unfold Blocks.countState
    simp only [state]
    rfl
  unfold isolates
  simp only [count, state]
  rfl

/-- The condition a selector of a change raises at its timeout (R102). -/
abbrev changeTimeout (h : HeadId) (target : Nat) (c : Change) : Condition :=
  .selectorChange h target c.slot c.kind

/-- The entry of a timeout in a change (R156). -/
def timeoutEntry (b : Blocks) (h : HeadId) (target : Nat) (c : Change) (act : Action) : Entry :=
  { entryOf b .selectorTimeout act none (some c.kind.index) with
    head := some h, needle := some target, slot := some c.slot }

theorem Blocks.entry_changeTimeout {target : Nat} {c : Change} {act : Action}
    (hact : (selectorAtRest b h .jammed).action (changeTimeout h target c) = act) :
    (selectorAtRest b h .jammed).entry (changeTimeout h target c) =
      timeoutEntry b h target c act := by
  unfold Blocks.entry
  rw [hact]
  rfl

theorem Blocks.selectorExpiry_moving {target start left v : Nat} {c : Change}
    (htimer : (b.hu.get h).selTimer = some v)
    (hsel : (b.hu.get h).selector = .moving target start left) (hc : b.rc.change = some c)
    (hidle : b.fl.waiting = []) :
    b.selectorExpiry h =
      ((selectorAtRest b h .jammed).take (changeTimeout h target c)).go .changeCheck := by
  have expiry : b.selectorExpiry h = b.moveTimedOut h target := by
    unfold Blocks.selectorExpiry
    rw [htimer, hsel]
  rw [expiry]
  unfold Blocks.moveTimedOut
  dsimp only [Blocks.modHead_rc]
  rw [hc]
  exact congrArg (·.go .changeCheck) (Blocks.report_one (b := selectorAtRest b h .jammed) hidle _)

/-- The head of a selector that is jammed, in the heads as they then are. -/
theorem selectorAtRest_head (b : Blocks) (h : HeadId) (x : Selector) :
    (selectorAtRest b h x).hu.get h = { b.hu.get h with selector := x, selTimer := none } :=
  Eight.get_set_same ..

theorem Eight.set_set {α : Type} (e : Eight α) (i : Id8) (a a' : α) :
    (e.set i a).set i a' = e.set i a' := by
  cases i <;> rfl

section Timeout

variable {target : Nat} {c : Change}

theorem Blocks.jammed_flag (b : Blocks) (h : HeadId) :
    ((selectorAtRest b h .jammed).hu.get h).faultFlag = (b.hu.get h).faultFlag := by
  rw [selectorAtRest_head]

/-- A selector of a change raises what R134 decides on. -/
theorem changeTimeout_policyFault (b : Blocks) (h : HeadId) (target : Nat) (c : Change) :
    policyFault (selectorAtRest b h .jammed) h (changeTimeout h target c) := rfl

theorem Blocks.action_isolated (hi : isolates b h (changeTimeout h target c)) :
    (selectorAtRest b h .jammed).action (changeTimeout h target c) = .isolate :=
  policyFault_isolated (changeTimeout_policyFault b h target c) ((isolates_jammed ..).mpr hi)

theorem Blocks.action_stopped (hi : ¬ isolates b h (changeTimeout h target c)) :
    (selectorAtRest b h .jammed).action (changeTimeout h target c) = .stopAll :=
  policyFault_stopped (changeTimeout_policyFault b h target c) (mt (isolates_jammed ..).mp hi)

/-- The head has its fault flag set already: the entry alone (R155). -/
theorem Blocks.take_changeTimeout_flagged (hf : (b.hu.get h).faultFlag = true) :
    (selectorAtRest b h .jammed).take (changeTimeout h target c) =
      (selectorAtRest b h .jammed).writeEntry (changeTimeout h target c) := by
  refine Blocks.take_flagged _ _ h ?_ rfl ((b.jammed_flag h).trans hf)
  by_cases hi : isolates b h (changeTimeout h target c)
  · exact .inr (Blocks.action_isolated hi)
  · exact .inl (Blocks.action_stopped hi)

/-- ISOLATE (R134, R135): a change is in no ENDED run. -/
theorem Blocks.take_changeTimeout_isolated (hf : (b.hu.get h).faultFlag = false)
    (hi : isolates b h (changeTimeout h target c)) (hrun : runIsOf b [.changing, .patch]) :
    (selectorAtRest b h .jammed).take (changeTimeout h target c) =
      ((selectorAtRest b h .jammed).writeEntry (changeTimeout h target c)).openIsolated h
        (changeTimeout h target c) := by
  have open' : b.rc.runState ≠ .ended := fun hend => by simp [runIsOf, hend] at hrun
  rw [Blocks.take_isolate _ _ h (Blocks.action_isolated hi) rfl ((b.jammed_flag h).trans hf),
    Blocks.isolate_eq, if_neg (by rw [Blocks.writeEntry_rc]; exact open')]

/-- STOP_ALL (R134, R151). -/
theorem Blocks.take_changeTimeout_stopped (hf : (b.hu.get h).faultFlag = false)
    (hi : ¬ isolates b h (changeTimeout h target c)) :
    (selectorAtRest b h .jammed).take (changeTimeout h target c) =
      ((selectorAtRest b h .jammed).faulted h (changeTimeout h target c)).stopAll := by
  have unnoted (x : Blocks) : x.notePatchBreak (changeTimeout h target c) = x := by
    unfold Blocks.notePatchBreak
    split
    · next hc => exact nomatch hc
    · rfl
  rw [Blocks.take_stopsAll (changeTimeout_policyFault b h target c) ((b.jammed_flag h).trans hf)
    (mt (isolates_jammed ..).mp hi), unnoted]

/-- A SELECTOR_TIMEOUT of a change touches its head and RC alone. -/
theorem Blocks.take_changeTimeout_onlyHead (hc : b.rc.change = some c)
    (hrun : runIsOf b [.changing, .patch])
    (htravels : ∀ asked, b.fc.move ≠ some ⟨.patchTravel, asked⟩) :
    OnlyHead h b ((selectorAtRest b h .jammed).take (changeTimeout h target c)) := by
  refine (selectorAtRest_onlyHead b h .jammed).trans ?_
  cases hf : (b.hu.get h).faultFlag with
  | true =>
    rw [Blocks.take_changeTimeout_flagged hf]
    exact Blocks.writeEntry_onlyHead _ rfl
  | false =>
    by_cases hi : isolates b h (changeTimeout h target c)
    · rw [Blocks.take_changeTimeout_isolated hf hi hrun]
      exact (Blocks.writeEntry_onlyHead _ rfl).trans (Blocks.openIsolated_onlyHead ..)
    · have stops := Blocks.stopAll_inChange
        (b := (selectorAtRest b h .jammed).faulted h (changeTimeout h target c)) (c := c)
        (by rw [runIsOf, Blocks.faulted_rc]; exact hrun) (by rw [Blocks.faulted_rc]; exact hc)
        (by rw [Blocks.faulted_fc]; exact htravels)
      rw [Blocks.take_changeTimeout_stopped hf hi, stops]
      obtain ⟨hsc, hfc, hsew, hload, others⟩ :=
        (selectorAtRest b h .jammed).faulted_onlyHead (c := changeTimeout h target c) rfl
      exact ⟨hsc, hfc, hsew, hload, others⟩

/-- What ISOLATE leaves of a head whose selector jammed, and of its ranges (R135, R136). -/
theorem Blocks.openIsolated_jammed (x : Condition) :
    let t := ((selectorAtRest b h .jammed).writeEntry x).openIsolated h x
    t.rc = b.rc
      ∧ t.hu = b.hu.set h { b.hu.get h with
          selector := .jammed, selTimer := none, state := .isolated, faultFlag := true }
      ∧ (t.ru.heads.get h).flags = (b.ru.heads.get h).flags ||| 0b0001#4
      ∧ ∃ m, leastStart (b.rt.get h) (rangeStart b x) m
        ∧ t.rt.get h = keptRanges b h (rangeStart b x) ++ [⟨m, none⟩] := by
  have start : rangeStart ((selectorAtRest b h .jammed).writeEntry x) x = rangeStart b x :=
    rangeStart_writeEntry ..
  obtain ⟨m, hm, opened⟩ := openList_eq (rangeStart b x) (b.rt.get h)
  refine ⟨(by simp [Blocks.openIsolated] : _ = (selectorAtRest b h .jammed).rc),
    ?_, ?_, m, hm, ?_⟩
  · rw [Blocks.openIsolated_hu, Blocks.writeEntry_hu, Eight.update_eq_set, selectorAtRest_head]
    exact Eight.set_set ..
  · rw [Blocks.openIsolated_flags, Blocks.writeEntry_heads]
    rfl
  · rw [Blocks.openIsolated_rt, Blocks.writeEntry_rt, start, Eight.get_update, if_pos rfl]
    exact opened

/-- What STOP_ALL leaves of a head whose selector jammed, and of RC (R134, R144). -/
theorem Blocks.faulted_jammed (x : Condition) (hc : b.rc.change = some c)
    (hrun : runIsOf b [.changing, .patch])
    (htravels : ∀ asked, b.fc.move ≠ some ⟨.patchTravel, asked⟩) :
    let t := ((selectorAtRest b h .jammed).faulted h x).stopAll
    t.hu = b.hu.set h { b.hu.get h with selector := .jammed, selTimer := none, faultFlag := true }
      ∧ t.rt = b.rt
      ∧ (t.ru.heads.get h).flags = (b.ru.heads.get h).flags ||| 0b0010#4
      ∧ (b.rc.runState = .changing →
          t.rc = { b.rc with change := some { c with stopAll := true } })
      ∧ (∀ tag base w, b.rc.runState = .patch → b.rc.op = some ⟨tag, base, .patch w⟩ →
          t.rc = { b.rc with
            change := some { c with stopAll := true }
            op := some ⟨tag, base, .patch { w with causes := ⟨w.causes.host, true⟩ }⟩ }) := by
  have rc : ((selectorAtRest b h .jammed).faulted h x).rc = b.rc := Blocks.faulted_rc ..
  have fc : ((selectorAtRest b h .jammed).faulted h x).fc = b.fc := Blocks.faulted_fc ..
  have stops := Blocks.stopAll_inChange (b := (selectorAtRest b h .jammed).faulted h x) (c := c)
    (by rw [runIsOf, rc]; exact hrun) (by rw [rc]; exact hc) (by rw [fc]; exact htravels)
  refine ⟨?_, ?_, ?_, fun hch => ?_, fun tag base w hpatch hop => ?_⟩
  · rw [stops]
    dsimp only
    rw [Blocks.faulted_hu, selectorAtRest_head]
    exact Eight.set_set ..
  · rw [stops]
    exact (selectorAtRest b h .jammed).faulted_rt h x
  · rw [stops]
    exact (selectorAtRest b h .jammed).faulted_flags h x
  · rw [Blocks.stopAll_changing _ c (by rw [rc]; exact hch) (by rw [rc]; exact hc), rc]
  · rw [Blocks.stopAll_patchChange (c := c) (by rw [rc]; exact hpatch) (by rw [rc]; exact hop)
      (by rw [rc]; exact hc) (by rw [fc]; exact htravels), rc]

/-- A SELECTOR_TIMEOUT of a change, taken (R102, R108, R134, R135, R144, R155). -/
theorem timeoutTaken_of_take (hc : b.rc.change = some c) (hrun : runIsOf b [.changing, .patch])
    (htravels : ∀ asked, b.fc.move ≠ some ⟨.patchTravel, asked⟩) :
    timeoutTaken b ((selectorAtRest b h .jammed).take (changeTimeout h target c)) h target c := by
  obtain ⟨hsc, hfc, hsew, hload, others⟩ :=
    Blocks.take_changeTimeout_onlyHead (h := h) (target := target) hc hrun htravels
  have written {act : Action}
      (hact : (selectorAtRest b h .jammed).action (changeTimeout h target c) = act) :
      ((selectorAtRest b h .jammed).take (changeTimeout h target c)).fl =
        b.fl.write (timeoutEntry b h target c act) := by
    rw [Blocks.take_fl, Blocks.entry_changeTimeout hact]
    rfl
  unfold timeoutTaken
  intro cond jam entry flagged
  refine ⟨hsc, hfc, hsew, hload, others, fun hi => written (Blocks.action_isolated hi),
    fun hi => written (Blocks.action_stopped hi), fun hf => ?_, fun hf hi => ?_, fun hf hi => ?_⟩
  · rw [Blocks.take_changeTimeout_flagged hf]
    exact ⟨Blocks.writeEntry_hu .., Blocks.writeEntry_rt .., Blocks.writeEntry_rc ..,
      Blocks.writeEntry_heads ..⟩
  · rw [Blocks.take_changeTimeout_isolated hf hi hrun]
    exact Blocks.openIsolated_jammed cond
  · rw [Blocks.take_changeTimeout_stopped hf hi]
    exact Blocks.faulted_jammed cond hc hrun htravels

end Timeout

end Sys2Proof.Machine
end

section
namespace Sys2Proof.Proofs

open Sys2Proof.Machine Sys2Proof.Claims

/-- The motor of a selector, by where the selector stands (R100, R101). -/
theorem selector_drive (x : Selector) :
    (∀ target start left, x = .moving target start left → x.drive = some (decide (start < target)))
      ∧ (x = .homing → x.drive = some false) ∧ (x.busy = false → x.drive = none) := by
  cases x with
  | moving target start left =>
    refine ⟨fun _ _ _ he => ?_, nofun, nofun⟩
    cases he
    rfl
  | homing => exact ⟨nofun, fun _ => rfl, nofun⟩
  | unknown => exact ⟨nofun, nofun, fun _ => rfl⟩
  | atNeedle n => exact ⟨nofun, nofun, fun _ => rfl⟩
  | jammed => exact ⟨nofun, nofun, fun _ => rfl⟩

/-- The events of a selector touch the blocks alone. -/
theorem selectorEvent_next (h : HeadId) (s : State) :
    ∀ i ∈ [.selectorPulse h, .selectorIndex h true, .selectorIndex h false, .selectorTimeout h],
      ∃ t : State, exec i s = .next t ∧ t.pl = s.pl ∧ t.pending = s.pending := by
  intro i hi
  simp only [List.mem_cons, List.not_mem_nil, or_false] at hi
  obtain rfl | rfl | rfl | rfl := hi
  all_goals exact ⟨_, rfl, rfl, rfl⟩

/-- The index ends HHOME with OK (R87, R104). -/
theorem selectorIndex_endsHhome {h : HeadId} {s : State} {tag : Byte} {base : BaseState}
    (hsel : (s.blk.hu.get h).selector = .homing) (hop : s.blk.rc.op = some ⟨tag, base, .hhome h⟩) :
    ∃ t : State, exec (.selectorIndex h true) s = .next t
      ∧ t.blk.hu = s.blk.hu.set h
          { s.blk.hu.get h with selector := .atNeedle 1, selTimer := none }
      ∧ t.blk.rc.runState = base.target.1 ∧ t.blk.rc.pauseCause = base.target.2
      ∧ t.blk.rc.op = none
      ∧ t.blk.rc.opRecord =
          ⟨some .hhome, tag, some .ok, OpFailures.none, s.blk.rc.opRecord.counter + 1⟩ := by
  have rc := Blocks.endOpBase_rc (selectorAtRest (s.blk.indexAt h true) h (.atNeedle 1))
    ⟨tag, base, .hhome h⟩ hop .ok OpFailures.none
  refine ⟨_, next_blocks ((Blocks.selectorIndex_homing hsel).trans (Blocks.selectorHomed_hhome hop)),
    Blocks.endOpBase_hu .., ?_⟩
  dsimp only
  rw [rc]
  exact ⟨rfl, rfl, rfl, rfl⟩

/-- The index is an outcome HOME collects (R88, R104). -/
theorem selectorIndex_collected {h : HeadId} {s : State} {tag : Byte} {base : BaseState}
    {w : HomeWork} (hsel : (s.blk.hu.get h).selector = .homing)
    (hop : s.blk.rc.op = some ⟨tag, base, .home w⟩) :
    let b := selectorAtRest s.blk h (.atNeedle 1)
    ∃ t : State, exec (.selectorIndex h true) s = .next t ∧ t.blk.hu = b.hu ∧ t.blk.fl = b.fl
      ∧ t.blk.pins = { s.blk.pins with selIndex := s.blk.pins.selIndex.set h true }
      ∧ homeCollected b t.blk tag base { w with await := w.await.set h false } :=
  ⟨_, next_blocks ((Blocks.selectorIndex_homing hsel).trans (Blocks.selectorHomed_home hop)),
    Blocks.homeCheck_hu _, Blocks.homeCheck_fl _, Blocks.homeCheck_pins _,
    Blocks.homeCheck_collected (b := selectorAtRest s.blk h (.atNeedle 1)) rfl rfl rfl⟩

/-- The timeout ends HHOME with FAILED, which names the head (R87, R102). -/
theorem selectorTimeout_endsHhome {h : HeadId} {s : State} {tag : Byte} {base : BaseState} {v : Nat}
    (htimer : (s.blk.hu.get h).selTimer = some v) (hsel : (s.blk.hu.get h).selector = .homing)
    (hop : s.blk.rc.op = some ⟨tag, base, .hhome h⟩) (hidle : s.blk.fl.waiting = []) :
    ∃ t : State, exec (.selectorTimeout h) s = .next t
      ∧ t.blk.hu = s.blk.hu.set h { s.blk.hu.get h with selector := .jammed, selTimer := none }
      ∧ t.blk.rc.runState = base.target.1 ∧ t.blk.rc.op = none
      ∧ t.blk.rc.opRecord = ⟨some .hhome, tag, some .failed,
          ⟨false, false, false, (Eight.const false).set h true⟩, s.blk.rc.opRecord.counter + 1⟩
      ∧ t.blk.fl = s.blk.fl.write
          { entryOf s.blk .selectorTimeout .failed none (some s.blk.ds.sew) with
            head := some h, slot := none } := by
  obtain ⟨hu, rc, -, -, fl⟩ := s.blk.homingJammed_keeps h
  have ended := Blocks.endOpBase_rc (s.blk.homingJammed h) ⟨tag, base, .hhome h⟩ (by rw [rc, hop])
    .failed ⟨false, false, false, (Eight.const false).set h true⟩
  refine ⟨_, next_blocks ((Blocks.selectorExpiry_homing htimer hsel).trans
    (Blocks.selectorHomingFailed_hhome hidle hop)), (Blocks.endOpBase_hu ..).trans hu, ?_, ?_, ?_,
    (Blocks.endOpBase_fl ..).trans fl⟩
  all_goals
    dsimp only
    rw [ended]
  rw [rc]
  rfl

/-- The timeout is an outcome HOME collects, which names the head (R88, R102). -/
theorem selectorTimeout_collected {h : HeadId} {s : State} {tag : Byte} {base : BaseState}
    {w : HomeWork} {v : Nat} (htimer : (s.blk.hu.get h).selTimer = some v)
    (hsel : (s.blk.hu.get h).selector = .homing) (hop : s.blk.rc.op = some ⟨tag, base, .home w⟩)
    (hidle : s.blk.fl.waiting = []) :
    let b := selectorAtRest s.blk h .jammed
    ∃ t : State, exec (.selectorTimeout h) s = .next t ∧ t.blk.hu = b.hu
      ∧ t.blk.fl = s.blk.fl.write
          { entryOf s.blk .selectorTimeout .failed none (some s.blk.ds.sew) with
            head := some h, slot := none }
      ∧ homeCollected b t.blk tag base
          { w with await := w.await.set h false, failed := w.failed.set h true } := by
  obtain ⟨hu, rc, fc, sc, fl⟩ := s.blk.homingJammed_keeps h
  refine ⟨_, next_blocks ((Blocks.selectorExpiry_homing htimer hsel).trans
    (Blocks.selectorHomingFailed_home hidle hop)), (Blocks.homeCheck_hu _).trans hu,
    (Blocks.homeCheck_fl _).trans fl, Blocks.homeCheck_collected ?_ fc sc⟩
  dsimp only
  rw [rc]
  rfl

/-- Settles O57: an event that awaits nothing is an equation of its own; a selector at rest leads to
the check of its change, whose stages are counted, or to the outcomes HHOME and HOME collect. -/
theorem selectorEventsMoveTheSelector : Obligations.SelectorEventsMoveTheSelector := by
  unfold Obligations.SelectorEventsMoveTheSelector
  refine ⟨selector_drive, fun h s => ⟨selectorEvent_next h s, ?nears, ?arrives, ?noPulse, ?noIndex,
    fun _ _ => selectorIndex_endsHhome, fun _ _ _ => selectorIndex_collected, ?noTimeout,
    fun _ _ _ => selectorTimeout_endsHhome, fun _ _ _ _ => selectorTimeout_collected, ?timeout⟩⟩
  case nears =>
    exact fun _ _ _ hsel hleft => next_blocks (Blocks.selectorPulse_nears hsel hleft)
  case arrives =>
    exact fun _ _ _ hsel hleft =>
      changeCollected_of_check (next_blocks (Blocks.selectorPulse_arrives hsel hleft))
  case noPulse => exact fun hsel => next_blocks (Blocks.selectorPulse_unawaited hsel)
  case noIndex => exact fun _ hsel => next_blocks (Blocks.selectorIndex_unawaited hsel)
  case noTimeout => exact fun hno => next_blocks (Blocks.selectorExpiry_unawaited hno)
  case timeout =>
    exact fun _ _ _ _ _ htimer hsel hc hrun hidle htravels =>
      ⟨timeoutTaken_of_take hc hrun htravels,
        changeCollected_of_check (next_blocks (Blocks.selectorExpiry_moving htimer hsel hc hidle))⟩

end Sys2Proof.Proofs
end

section
/-!
SUPPORT. What every stage of RC's work keeps: the thread plan, the run's existence, the cycle count and
the conditions that wait.
-/

namespace Sys2Proof.Machine

open Sys2Proof.Claims

/-- What no stage of RC's work touches, besides the configuration block. -/
structure Blocks.Holds (b t : Blocks) : Prop where
  tp : t.tp = b.tp
  runExists : t.rc.runExists = b.rc.runExists
  cycleCount : t.sc.cycleCount = b.sc.cycleCount
  waiting : t.fl.waiting = b.fl.waiting

theorem Blocks.Holds.refl (b : Blocks) : b.Holds b := ⟨rfl, rfl, rfl, rfl⟩

theorem Blocks.Holds.trans {b x t : Blocks} (hx : b.Holds x) (ht : x.Holds t) : b.Holds t :=
  ⟨ht.tp.trans hx.tp, ht.runExists.trans hx.runExists, ht.cycleCount.trans hx.cycleCount,
    ht.waiting.trans hx.waiting⟩

/-! ## The operations of the stages -/

theorem Blocks.goto_holds (b : Blocks) (rs : RunState) (cause : Option PauseCause) :
    b.Holds (b.goto rs cause) := by
  constructor <;> simp

theorem Blocks.pauseFor_holds (b : Blocks) (cause : PauseCause) : b.Holds (b.pauseFor cause) :=
  Blocks.Holds.trans (x := { b with rc.resume := none }) ⟨rfl, rfl, rfl, rfl⟩ (Blocks.goto_holds ..)

theorem Blocks.advance_holds (b : Blocks) : b.Holds b.advance := by
  constructor <;> simp

theorem Blocks.take_holds (b : Blocks) (c : Condition) : b.Holds (b.take c) := by
  constructor <;> simp

theorem Blocks.patchEnd_holds (b : Blocks) (w : PatchWork) (r : OpResult) (start : Nat) :
    b.Holds (b.patchEnd w r start) := by
  constructor <;> simp

theorem Blocks.endOpBase_holds (b : Blocks) (r : OpResult) (f : OpFailures) :
    b.Holds (b.endOpBase r f) := by
  constructor <;> simp

theorem Blocks.setWork_holds (b : Blocks) (w : Work) : b.Holds (b.setWork w) := ⟨rfl, rfl, rfl, rfl⟩

theorem Blocks.setRanges_holds (b : Blocks) (rt : Eight (List Range)) : b.Holds (b.setRanges rt) := by
  constructor <;> simp

theorem Blocks.passEnd_holds (b : Blocks) : b.Holds b.passEnd := by
  constructor <;> simp [Blocks.passEnd]

theorem Blocks.travel_holds {b t : Blocks} {o : MoveOwner} {rel : Option Pos}
    (h : b.travel o rel = some t) : b.Holds t := by
  unfold Blocks.travel at h
  split at h
  · split_ifs at h
    cases h
    exact ⟨rfl, rfl, rfl, rfl⟩
  · cases h

theorem Blocks.moveSew_holds {b t : Blocks} {forward : Bool} (h : b.moveSew forward = some t) :
    b.Holds t := by
  unfold Blocks.moveSew at h
  split_ifs at h <;> cases h <;> constructor <;> simp

theorem Blocks.startRequest_holds (b : Blocks) (plan : PlanMode) (i : Nat) :
    b.Holds (b.startRequest plan i).1 := by
  unfold Blocks.startRequest; dsimp only; repeat' split
  all_goals exact ⟨rfl, rfl, rfl, rfl⟩

theorem Blocks.noPlanStop_holds (b : Blocks) (slot i : Nat) : b.Holds (b.noPlanStop slot i) := by
  unfold Blocks.noPlanStop
  dsimp only
  split
  · exact (b.take_holds _).trans (Blocks.patchEnd_holds ..)
  · exact (b.take_holds _).trans (Blocks.pauseFor_holds ..)

theorem Blocks.changePhase_holds (b : Blocks) (slot : Nat) (scope : HeadId → Bool)
    (kind : ChangeKind) : b.Holds (b.changePhase slot scope kind).1 := by
  cases he : planEntry b.tp slot with
  | none => rw [b.changePhase_noPlan slot scope kind he]; exact b.noPlanStop_holds ..
  | some e => rw [b.changePhase_begins slot scope kind e he]; exact ⟨rfl, rfl, rfl, rfl⟩

/-! ## The stages -/

theorem Blocks.sequencePhase_holds (b : Blocks) : b.Holds b.sequencePhase.1 := by
  unfold Blocks.sequencePhase
  extract_lets _ start travelling
  have hstart : b.Holds start := by
    unfold start
    split <;> exact ⟨rfl, rfl, rfl, rfl⟩
  have htravelling : b.Holds travelling := hstart.trans (start.goto_holds _ _)
  split
  · exact b.passEnd_holds
  · split
    · exact b.advance_holds
    · split
      · split
        · exact htravelling.trans (Blocks.pauseFor_holds ..)
        · next ht =>
          obtain ⟨tp, exists', count, waiting⟩ := htravelling.trans (Blocks.travel_holds ht)
          split <;> exact ⟨tp, exists', count, waiting⟩
      · exact hstart

theorem Blocks.reconcilePhase_holds (b : Blocks) : b.Holds b.reconcilePhase.1 := by
  have changes (slot : Nat) (scope : HeadId → Bool) (kind : ChangeKind) :
      b.Holds ((b.goto .changing none).changePhase slot scope kind).1 :=
    (b.goto_holds .changing none).trans (Blocks.changePhase_holds ..)
  unfold Blocks.reconcilePhase
  split
  · exact changes ..
  · split
    · split
      · exact changes ..
      · exact .refl b
    · exact .refl b

theorem Blocks.startPhase_holds (b : Blocks) : b.Holds b.startPhase.1 := by
  unfold Blocks.startPhase
  extract_lets owing _ start r
  have hr : b.Holds r.1 := by
    refine Blocks.Holds.trans (x := start) ?_ (start.startRequest_holds ..)
    unfold start
    split <;> exact ⟨rfl, rfl, rfl, rfl⟩
  split
  · exact hr.trans (Blocks.goto_holds ..)
  · exact hr
  · exact hr.trans (Blocks.pauseFor_holds ..)
  · exact hr.trans (Blocks.pauseFor_holds ..)
  · exact hr.trans (Blocks.pauseFor_holds ..)

theorem Blocks.resolvePhase_holds (b : Blocks) (causes : StopCauses) (p : StopPoints) :
    b.Holds (b.resolvePhase causes p).1 := by
  unfold Blocks.resolvePhase
  extract_lets _ plain pinned held
  have hpinned : b.Holds pinned := by
    refine Blocks.Holds.trans (x := plain) ⟨rfl, rfl, rfl, rfl⟩ ?_
    unfold pinned
    split
    · exact plain.take_holds _
    · exact .refl plain
  split_ifs
  · exact hpinned.trans (Blocks.pauseFor_holds ..)
  · exact hpinned.trans (Blocks.pauseFor_holds ..)
  · exact hpinned.trans (Blocks.pauseFor_holds ..)
  · exact (hpinned.trans (Blocks.advance_holds _)).trans (Blocks.pauseFor_holds ..)
  · exact hpinned
  · exact hpinned.trans (Blocks.passEnd_holds _)
  · exact hpinned.trans (Blocks.goto_holds ..)
  · exact hpinned.trans (Blocks.goto_holds ..)
  · exact hpinned.trans (Blocks.pauseFor_holds ..)

theorem Blocks.changeCheckPhase_holds (b : Blocks) : b.Holds b.changeCheckPhase.1 := by
  unfold Blocks.changeCheckPhase
  split
  · exact .refl b
  next c _ =>
  split
  · exact .refl b
  extract_lets _ ended owed
  have hended : b.Holds ended := ⟨rfl, rfl, rfl, rfl⟩
  have howed : b.Holds owed := ⟨rfl, rfl, rfl, rfl⟩
  split
  · split_ifs
    · exact hended.trans (Blocks.patchEnd_holds ..)
    · exact hended.trans (Blocks.patchEnd_holds ..)
    · refine howed.trans ?_
      unfold Blocks.patchChangeDone
      dsimp only
      split <;> exact ⟨rfl, rfl, rfl, rfl⟩
  · split_ifs
    · exact hended.trans (Blocks.pauseFor_holds ..)
    · exact hended.trans (Blocks.pauseFor_holds ..)
    · split
      · exact (howed.trans (Blocks.advance_holds _)).trans ⟨rfl, rfl, rfl, rfl⟩
      · exact howed

theorem Blocks.stepPhase_holds (b : Blocks) : b.Holds b.stepPhase.1 := by
  unfold Blocks.stepPhase
  split
  · split
    · exact b.endOpBase_holds ..
    · split
      · exact b.endOpBase_holds ..
      · split
        · exact b.endOpBase_holds ..
        · next hm =>
          have moved := Blocks.moveSew_holds hm
          split
          · exact moved.trans (Blocks.endOpBase_holds ..)
          · next ht => exact (moved.trans (Blocks.travel_holds ht)).trans (Blocks.setWork_holds ..)
  · exact .refl b

theorem Blocks.patchTestPhase_holds (b : Blocks) : b.Holds b.patchTestPhase.1 := by
  unfold Blocks.patchTestPhase
  split
  · exact .refl b
  extract_lets w here r
  have hhere : b.Holds here := b.setWork_holds _
  split_ifs
  · exact hhere.trans (Blocks.patchEnd_holds ..)
  split
  · exact hhere.trans (Blocks.changePhase_holds ..)
  · have hr : b.Holds r.1 := hhere.trans (here.startRequest_holds ..)
    split
    · exact hr
    · exact hr.trans (Blocks.patchEnd_holds ..)

theorem Blocks.phase_holds (b : Blocks) (p : Phase) : b.Holds (b.phase p).1 := by
  cases p with
  | sequence => exact b.sequencePhase_holds
  | reconcile => exact b.reconcilePhase_holds
  | start => exact b.startPhase_holds
  | resolve causes points => exact b.resolvePhase_holds causes points
  | changeCheck => exact b.changeCheckPhase_holds
  | step => exact b.stepPhase_holds
  | patchTest => exact b.patchTestPhase_holds

theorem Blocks.follow_holds (n : Nat) (p : Phase) (b : Blocks) : b.Holds (Blocks.follow n p b) := by
  induction n generalizing p b with
  | zero => exact .refl b
  | succ n ih =>
    unfold Blocks.follow
    dsimp only
    split
    · exact b.phase_holds p
    · exact (b.phase_holds p).trans (ih _ _)

theorem Blocks.go_holds (b : Blocks) (p : Phase) : b.Holds (b.go p) := Blocks.follow_holds _ p b

end Sys2Proof.Machine
end

section
/-!
SUPPORT. The resolution of a stop of a run (R76, R77, R78, R79, R107): its causes in their order, and the
COLOR whose change commands no selector; the statement settled.
-/

namespace Sys2Proof.Machine

open Sys2Proof.Claims

variable {b t : Blocks}

/-! ## Blocks that stand alike -/

/-- The blocks agree in all that the shaft start and the reconciliation look at (R71, R72). -/
structure Blocks.Alike (b t : Blocks) : Prop where
  cf : t.cf = b.cf
  ds : t.ds = b.ds
  fc : t.fc = b.fc
  sc : t.sc = b.sc
  hu : t.hu = b.hu
  tp : t.tp = b.tp
  rt : t.rt = b.rt
  slot : t.rc.slotInEffect = b.rc.slotInEffect

theorem Blocks.Alike.trans {x : Blocks} (hx : b.Alike x) (ht : x.Alike t) : b.Alike t :=
  ⟨ht.cf.trans hx.cf, ht.ds.trans hx.ds, ht.fc.trans hx.fc, ht.sc.trans hx.sc, ht.hu.trans hx.hu,
    ht.tp.trans hx.tp, ht.rt.trans hx.rt, ht.slot.trans hx.slot⟩

theorem Blocks.goto_alike (b : Blocks) (rs : RunState) (cause : Option PauseCause) :
    b.Alike (b.goto rs cause) := by
  constructor <;> simp [Blocks.goto_rc]

theorem Blocks.Alike.mayStart (h : b.Alike t) (hmay : mayStart b) : mayStart t := by
  obtain ⟨cf, ds, fc, sc, hu, -, rt, -⟩ := h
  unfold Sys2Proof.Claims.mayStart axesReady Blocks.selectorMoving at *
  rwa [sc, hu, fc, Blocks.planK_congr ds rt cf, ds]

theorem Blocks.Alike.needlesDiffer (h : b.Alike t) (slot : Nat) :
    t.needlesDiffer slot = b.needlesDiffer slot := by
  unfold Blocks.needlesDiffer Blocks.configured
  rw [h.cf, h.hu, h.tp]

/-- An advance looks at the store, the ranges and the settings alone (R22, R23). -/
theorem Blocks.Alike.advance (h : b.Alike t) : b.advance.Alike t.advance := by
  obtain ⟨cf, ds, fc, sc, hu, tp, rt, slot⟩ := h
  have store : t.advance.ds = b.advance.ds
      ∧ t.advance.rc.slotInEffect = b.advance.rc.slotInEffect := by
    unfold Blocks.advance
    rw [ds]
    split_ifs
    · simp only [Blocks.readSlot, Blocks.releaseTest_ds, Blocks.e, cf, rt, and_self]
    · exact ⟨ds, slot⟩
  exact ⟨by simpa using cf, store.1, by simpa using fc, by simpa using sc, by simpa using hu,
    by simpa using tp, by simpa using rt, store.2⟩

/-- The run starts from blocks that stand alike: the store is that of the others. -/
theorem Blocks.Alike.runsOn {x : Blocks} (h : b.Alike t) (hruns : runsOn t x) : runsOn b x := by
  unfold Sys2Proof.Claims.runsOn at *
  rwa [h.ds] at hruns

/-! ## The stage -/

/-- The stop is taken up: its causes and its stop are dropped (R76). -/
def Blocks.stopTaken (b : Blocks) : Blocks := { b with rc.causes := ⟨false, false⟩, rc.stop := none }

theorem Blocks.stopTaken_alike (b : Blocks) : b.Alike b.stopTaken :=
  ⟨rfl, rfl, rfl, rfl, rfl, rfl, rfl, rfl⟩

theorem Blocks.pauseFor_eq (b : Blocks) (cause : PauseCause) :
    b.pauseFor cause = inState { b with rc.resume := none } .paused (some cause) := rfl

/-- The resolution where the pin is not reached (R76, R77, R78, R79). -/
theorem Blocks.resolvePhase_unpinned (causes : StopCauses) {p : StopPoints} (hpin : p.pin = false) :
    b.phase (.resolve causes p) =
      if causes.fault then (b.stopTaken.pauseFor .fault, none)
      else if causes.host then (b.stopTaken.pauseFor .host, none)
      else if p.mark then (b.stopTaken.advance.pauseFor .mark, none)
      else if p.color then (b.stopTaken, some .reconcile)
      else if p.endRec then (b.stopTaken.passEnd, none)
      else if p.endOfPending then
        (b.stopTaken.goto .held none,
          if (b.stopTaken.goto .held none).resumeCondition then some .start else none)
      else (b.stopTaken.pauseFor .host, none) := by
  show b.resolvePhase causes p = _
  unfold Blocks.resolvePhase
  rw [hpin]
  rfl

/-- NO_PLAN and PIN_LIMIT hand no outcome back: a STOP_ALL of theirs is the entry alone (R149). -/
theorem Blocks.take_writtenOnly {c : Condition} (hact : b.action c = .stopAll)
    (hkind : c.kind = .noPlan ∨ c.kind = .pinLimit) (hhead : c.head = none) :
    b.take c = b.writeEntry c := by
  simp [Blocks.take, hact, Blocks.alreadyFlagged, hhead, Blocks.handStopAll, hkind]

/-- The pin is reached: PIN_LIMIT is written before the run pauses (R76, R134; log 18). -/
theorem Blocks.resolvePhase_pinned (causes : StopCauses) {p : StopPoints} (hpin : p.pin = true) :
    b.phase (.resolve causes p) =
      ((b.stopTaken.writeEntry .pinLimit).pauseFor (if causes.fault then .fault else .pinLimit),
        none) := by
  have taken : b.stopTaken.take .pinLimit = b.stopTaken.writeEntry .pinLimit :=
    Blocks.take_writtenOnly rfl (.inr rfl) rfl
  show b.resolvePhase causes p = _
  unfold Blocks.resolvePhase
  rw [hpin]
  show (if causes.fault = true then ((b.stopTaken.take .pinLimit).pauseFor .fault, none)
    else ((b.stopTaken.take .pinLimit).pauseFor .pinLimit, none)) = _
  rw [taken]
  split_ifs <;> rfl

/-! ## The event -/

section Event

variable {s : State} {stop : Stop}

theorem stopResolution_unresolved (hstop : s.blk.rc.stop = some stop)
    (h : ¬ runIsOf s.blk [.running, .stopping] ∨ s.blk.fc.busy = true) :
    exec .stopResolution s = .next s := by
  refine next_blocks (b' := s.blk) ?_
  unfold Blocks.resolveStop
  rw [hstop]
  refine if_neg ?_
  rw [Bool.and_eq_true, Bool.not_eq_true']
  rintro ⟨hrun, hbusy⟩
  rcases h with hno | hyes
  · exact hno (by simpa [Blocks.runIn, runIsOf] using hrun)
  · exact nomatch hbusy.symm.trans hyes

/-- A stop that is resolved ends where its stages lead: with no condition waiting none is taken after
them (R76, R155). -/
theorem stopResolution_leads (hstop : s.blk.rc.stop = some stop) (hidle : s.blk.fl.waiting = [])
    (hrun : runIsOf s.blk [.running, .stopping]) (hfree : s.blk.fc.busy = false) {n : Nat}
    {r : Blocks} (h : Blocks.Leads n (.resolve s.blk.rc.causes stop.points) s.blk r) (hn : n ≤ 64) :
    exec .stopResolution s = .next (withBlocks s r) := by
  refine next_blocks (b' := r) ?_
  unfold Blocks.resolveStop
  rw [hstop]
  refine (if_pos ?_).trans ?_
  · simpa [Blocks.runIn, runIsOf, hfree] using hrun
  · rw [Blocks.report_nothing ((s.blk.go_holds _).waiting.trans hidle), h.go hn]

end Event

/-! ## The causes that pause or end the run -/

/-- The pin pauses the run, its entry written (R76, R134). -/
theorem Blocks.pinned_leaves (b : Blocks) (cause : PauseCause) :
    let t := (b.stopTaken.writeEntry .pinLimit).pauseFor cause
    t.rc.runState = .paused ∧ t.rc.pauseCause = some cause
      ∧ t.fl = b.fl.write (entryOf b .pinLimit .stopAll none (some b.ds.sew))
      ∧ t.ds = b.ds ∧ t.sc = b.sc ∧ t.rt = b.rt := by
  refine ⟨Blocks.goto_runState .., Blocks.goto_pauseCause .., ?_, ?_, ?_, ?_⟩
  · rw [Blocks.pauseFor, Blocks.goto_fl]
    exact Blocks.writeEntry_fl b.stopTaken .pinLimit
  · rw [Blocks.pauseFor_ds]
    exact Blocks.writeEntry_ds ..
  · rw [Blocks.pauseFor, Blocks.goto_sc]
    exact Blocks.writeEntry_sc ..
  · rw [Blocks.pauseFor, Blocks.goto_rt]
    exact Blocks.writeEntry_rt ..

/-- The resume condition of a run as it becomes HELD (R73). -/
theorem Blocks.resumeCondition_held (b : Blocks) :
    (b.stopTaken.goto .held none).resumeCondition = true ↔
      b.cf.settings.resumeMark ≤ b.ds.load - b.ds.sew ∨ b.ds.channel = .finished := by
  simp [Blocks.resumeCondition, Ds.pending, Ds.endLoaded, Blocks.stopTaken]

/-- A MARK is passed, and the run pauses (R78). -/
theorem Blocks.marked_leaves (b : Blocks) (h : b.ds.sew < b.ds.load) :
    let t := b.stopTaken.advance.pauseFor .mark
    t.rc.runState = .paused ∧ t.rc.pauseCause = some .mark ∧ t.ds.sew = b.ds.sew + 1
      ∧ t.ds.load = b.ds.load ∧ t.sc = b.sc ∧ t.hu = b.hu := by
  obtain ⟨-, ds, -, sc, hu, -, -, -⟩ := b.stopTaken_alike.advance
  refine ⟨Blocks.goto_runState .., Blocks.goto_pauseCause .., ?_, ?_, ?_, ?_⟩
  · rw [Blocks.pauseFor_ds, ds]
    exact (b.advance_sews h).sew
  · rw [Blocks.pauseFor_ds, ds]
    exact (b.advance_sews h).load
  · rw [Blocks.pauseFor, Blocks.goto_sc]
    exact b.stopTaken.advance_sc
  · rw [Blocks.pauseFor, Blocks.goto_hu]
    exact b.stopTaken.advance_hu

theorem closeList_bounded (e : Nat) (l : List Range) : ∀ x ∈ closeList e l, x.b ≠ none := by
  intro x hx
  obtain ⟨r, -, hr⟩ := List.mem_filterMap.mp hx
  split at hr
  · cases hr
    nofun
  · split_ifs at hr
    cases hr
    nofun

/-- END is passed: every range is closed and no head is left ISOLATED (R79, R137). -/
theorem Blocks.passEnd_leaves (b : Blocks) (h : b.ds.sew < b.ds.load) :
    b.passEnd.rc.runState = .ended ∧ b.passEnd.rc.pauseCause = none
      ∧ b.passEnd.ds.sew = b.ds.sew + 1 ∧ (∀ h : HeadId, ∀ x ∈ b.passEnd.rt.get h, x.b ≠ none)
      ∧ ∀ h : HeadId, (b.passEnd.hu.get h).state ≠ .isolated := by
  refine ⟨Blocks.goto_runState .., Blocks.goto_pauseCause .., ?_, fun g => ?_, fun g => ?_⟩
  · unfold Blocks.passEnd
    dsimp only
    rw [Blocks.goto_ds]
    refine (Blocks.advance_sews _ ?_).sew.trans ?_
    · simpa using h
    · simp
  · have rt : b.passEnd.rt.get g = closeList b.ds.sew (b.rt.get g) := by
      simp [Blocks.passEnd, Blocks.setRanges_rt]
    rw [rt]
    exact closeList_bounded _ _
  · unfold Blocks.passEnd
    dsimp only
    rw [Blocks.goto_hu, Blocks.advance_hu]
    dsimp only
    rw [Eight.get_tabulate]
    split_ifs with hi
    · nofun
    · exact hi

/-! ## The COLOR -/

section Color

variable {r : StoredRecord} {e : PlanEntry}

/-- A COLOR at the sew point with no plan entry (R107, R134). -/
theorem Blocks.leads_noPlan (hr : b.ds.record b.ds.sew = some r) (hk : r.kind = .color)
    (he : planEntry b.tp r.slot = none) :
    Blocks.Leads 1 .reconcile b
      (((b.goto .changing none).writeEntry (.noPlan r.slot b.ds.sew)).pauseFor .noPlan) := by
  have run : (b.goto .changing none).rc.runState = .changing := Blocks.goto_runState ..
  have taken : (b.goto .changing none).take (.noPlan r.slot b.ds.sew) =
      (b.goto .changing none).writeEntry (.noPlan r.slot b.ds.sew) :=
    Blocks.take_writtenOnly (by simp [Blocks.action, run]) (.inl rfl) rfl
  refine .last ?_
  show b.reconcilePhase = _
  rw [b.reconcilePhase_color r hr hk,
    Blocks.changePhase_noPlan _ _ _ _ (by rw [Blocks.goto_tp]; exact he)]
  unfold Blocks.noPlanStop
  dsimp only [ChangeKind.index]
  rw [taken]
  split
  · next hpatch _ =>
    rw [Blocks.writeEntry_rc] at hpatch
    exact nomatch run.symm.trans hpatch
  · rfl

theorem Blocks.noPlan_leaves (b : Blocks) (slot i : Nat) :
    let t := ((b.goto .changing none).writeEntry (.noPlan slot i)).pauseFor .noPlan
    t.rc.runState = .paused ∧ t.rc.pauseCause = some .noPlan ∧ t.ds = b.ds ∧ t.hu = b.hu :=
  ⟨Blocks.goto_runState .., Blocks.goto_pauseCause .., by simp, by simp [Blocks.pauseFor]⟩

/-- The change of a COLOR at the sew point, begun (R107). -/
def Blocks.colorBegun (b : Blocks) (slot : Nat) : Blocks :=
  (b.goto .changing none).changeBegun slot b.sewingScope (.recordDriven b.ds.sew)

theorem Blocks.reconcilePhase_begins (hr : b.ds.record b.ds.sew = some r) (hk : r.kind = .color)
    (he : planEntry b.tp r.slot = some e) :
    b.phase .reconcile = (b.colorBegun r.slot, some .changeCheck) := by
  show b.reconcilePhase = _
  rw [b.reconcilePhase_color r hr hk]
  exact Blocks.changePhase_begins _ _ _ _ e (by rw [Blocks.goto_tp]; exact he)

/-- A COLOR whose change moves a head: the run is CHANGING (R107, R108). -/
theorem Blocks.leads_changes {h : HeadId} {n m : Nat} (hr : b.ds.record b.ds.sew = some r)
    (hk : r.kind = .color) (he : planEntry b.tp r.slot = some e)
    (hconf : h.num ≤ b.cf.config.headCount) (hsews : (b.hu.get h).state = .sewing)
    (hsel : (b.hu.get h).selector = .atNeedle n) (hm : e.needles[h.num - 1]? = some m)
    (hne : n ≠ m) :
    Blocks.Leads 2 .reconcile b (b.colorBegun r.slot)
      ∧ ((b.goto .changing none).movedBy r.slot b.sewingScope).get h = true
      ∧ ((b.colorBegun r.slot).hu.get h).selector = .moving m n (max m n - min m n) := by
  have scope : b.sewingScope h = true := by simp [Blocks.sewingScope, hsews]
  have conf : h.num ≤ (b.goto .changing none).cf.config.headCount := by simpa using hconf
  have stands : ((b.goto .changing none).hu.get h).selector = .atNeedle n := by simpa using hsel
  have needle : planNeedle (b.goto .changing none).tp r.slot h = some m := by
    rw [Blocks.goto_tp]
    exact planNeedle_of_entry he hm
  have begins := b.reconcilePhase_begins hr hk he
  obtain ⟨hmoved, hhead⟩ := (b.goto .changing none).changeBegun_moves (.recordDriven b.ds.sew) conf
    scope stands needle hne
  exact ⟨.next begins (.last (Blocks.changeBegun_checks _ _ conf scope stands needle hne)), hmoved,
    congrArg Head.selector hhead⟩

/-- Every SEWING head stands at its needle of a slot already (R71). -/
def atNeedlesOf (b : Blocks) (e : PlanEntry) : Prop :=
  ∀ h : HeadId, h.num ≤ b.cf.config.headCount → (b.hu.get h).state = .sewing →
    ∃ n, e.needles[h.num - 1]? = some n ∧ (b.hu.get h).selector = .atNeedle n

/-- Then the change moves no head (R107). -/
theorem Blocks.movedBy_none (he : planEntry b.tp r.slot = some e) (hat : atNeedlesOf b e)
    (h : HeadId) : ((b.goto .changing none).movedBy r.slot b.sewingScope).get h = false := by
  unfold Blocks.movedBy
  rw [Eight.get_tabulate, Bool.eq_false_iff]
  simp only [Blocks.configured, Blocks.sewingScope, Blocks.goto_cf, Blocks.goto_hu, Blocks.goto_tp,
    Ne, Bool.and_eq_true, decide_eq_true_eq, beq_iff_eq]
  rintro ⟨⟨hconf, hsews⟩, hmoves⟩
  obtain ⟨n, hn, hsel⟩ := hat h hconf hsews
  simp [planNeedle_of_entry he hn, Head.commanded, hsel] at hmoves

/-- The change of a COLOR at the sew point (R107). -/
def Blocks.colorChange (b : Blocks) (slot : Nat) : Change :=
  ⟨slot, .recordDriven b.ds.sew, (b.goto .changing none).movedBy slot b.sewingScope, false, false⟩

theorem Blocks.colorBegun_change (b : Blocks) (slot : Nat) :
    (b.colorBegun slot).rc.change = some (b.colorChange slot) := rfl

/-- The COLOR passed by a change that moves no head (R107, R108). -/
def Blocks.colorPassed (b : Blocks) (slot : Nat) : Blocks :=
  ((b.colorBegun slot).changeOver.oweMoved (b.colorChange slot)).advance.raise .color

theorem Blocks.colorPassed_alike (he : planEntry b.tp r.slot = some e) (hat : atNeedlesOf b e) :
    b.advance.Alike (b.colorPassed r.slot) := by
  have heads : (b.colorBegun r.slot).hu = b.hu := by
    refine Eight.ext_get fun h => (Eight.get_tabulate _ h).trans ?_
    rw [if_neg (by rw [Blocks.movedBy_none he hat h]; nofun), Blocks.goto_hu]
  have began : (b.goto .changing none).Alike ((b.colorBegun r.slot).changeOver.oweMoved
      (b.colorChange r.slot)) :=
    ⟨rfl, rfl, rfl, rfl, heads.trans (b.goto_hu ..).symm, rfl, rfl, rfl⟩
  obtain ⟨cf, ds, fc, sc, hu, tp, rt, slot⟩ := ((b.goto_alike .changing none).trans began).advance
  exact ⟨cf, ds, fc, sc, hu, tp, rt, slot⟩

/-- Passing the COLOR leaves no change in flight, and raises COLOR (R108). -/
theorem Blocks.colorPassed_leaves (b : Blocks) (slot : Nat) :
    (b.colorPassed slot).rc.change = none
      ∧ (b.colorPassed slot).ru.pend &&& (ReportKind.color.bit &&& ~~~b.ru.kindMask)
        = ReportKind.color.bit &&& ~~~b.ru.kindMask := by
  let owed := (b.colorBegun slot).changeOver.oweMoved (b.colorChange slot)
  have mask : owed.advance.ru.kindMask = b.ru.kindMask :=
    owed.onlyRaised_advance.kindMask.trans (b.onlyRaised_goto .changing none).kindMask
  refine ⟨congrArg Rc.change owed.advance_rc, ?_⟩
  rw [← mask]
  exact owed.advance.ru.raise_pending .color

/-- A COLOR whose change moves no head is passed at once, and the run sews on (R107, R108, R71). -/
theorem Blocks.leads_passes (hr : b.ds.record b.ds.sew = some r) (hk : r.kind = .color)
    (he : planEntry b.tp r.slot = some e) (hat : atNeedlesOf b e) (hmay : mayStart b.advance)
    (hneedles : ∀ slot, b.advance.rc.slotInEffect = some slot →
      b.advance.needlesDiffer slot = false) :
    Blocks.Leads 4 .reconcile b (b.colorPassed r.slot).startPhase.1 := by
  have passed := Blocks.colorPassed_alike he hat
  have still : ¬ stillMoving (b.colorBegun r.slot) (b.colorChange r.slot) := by
    rintro ⟨h, target, start, left, hm, -⟩
    exact nomatch (Blocks.movedBy_none he hat h).symm.trans hm
  have check : (b.colorBegun r.slot).phase .changeCheck = (b.colorPassed r.slot, some .reconcile) :=
    Blocks.changeCheckPhase_run (b := b.colorBegun r.slot) (b.goto_runState .changing none)
      (b.colorBegun_change r.slot) still
  refine .next (b.reconcilePhase_begins hr hk he) (.next check (Blocks.leads_reconcile
    (passed.mayStart hmay) fun slot hslot => ?_))
  rw [passed.needlesDiffer]
  exact hneedles slot (passed.slot.symm.trans hslot)

end Color

end Sys2Proof.Machine

namespace Sys2Proof.Proofs

open Sys2Proof.Machine Sys2Proof.Claims

/-- Settles O55: the resolution is one equation over the causes and the points; the stages after it, of
a COLOR and of the end of the pending records, are counted one by one. -/
theorem stopsAreResolvedInOrder : Obligations.StopsAreResolvedInOrder := by
  unfold Obligations.StopsAreResolvedInOrder
  intro s stop hidle hstop b p
  refine ⟨stopResolution_unresolved hstop, fun hrun hfree => ?_⟩
  have leads {n : Nat} {r : Blocks} := stopResolution_leads (n := n) (r := r) hstop hidle hrun hfree
  refine ⟨fun hfault hpin => ?fault, fun hpin => ?pin, fun hfault hpin => ?_⟩
  case fault =>
    refine leads (.last ?_) (by decide)
    rw [Blocks.resolvePhase_unpinned _ hpin, if_pos hfault]
    rfl
  case pin =>
    exact ⟨_, leads (.last (Blocks.resolvePhase_pinned _ hpin)) (by decide),
      Blocks.pinned_leaves ..⟩
  have resolve := Blocks.resolvePhase_unpinned (b := s.blk) s.blk.rc.causes hpin
  rw [if_neg (by rw [hfault]; nofun)] at resolve
  refine ⟨fun hhost => ?host, fun hhost => ?_⟩
  case host =>
    rw [if_pos hhost] at resolve
    exact leads (.last resolve) (by decide)
  rw [if_neg (by rw [hhost]; nofun)] at resolve
  refine ⟨fun hmark hroom => ?mark, fun hmark hcolor r hr hk => ?color,
    fun hmark hcolor hend hroom => ?ended, fun hmark hcolor hend hpending hlow hopen => ?held,
    fun hmark hcolor hend hpending hresume hmay => ?sewsOn⟩
  case mark =>
    rw [if_pos hmark] at resolve
    exact ⟨_, leads (.last resolve) (by decide), s.blk.marked_leaves hroom⟩
  all_goals rw [if_neg (by rw [hmark]; nofun)] at resolve
  case color =>
    rw [if_pos hcolor] at resolve
    refine ⟨fun he => ?_, fun e h n m he hconf hsews hsel hm hne => ?_,
      fun e he hat hmay hneedles => ?_⟩
    · exact ⟨_, leads (.next resolve (Blocks.leads_noPlan (b := s.blk.stopTaken) hr hk he))
        (by decide), s.blk.stopTaken.noPlan_leaves ..⟩
    · obtain ⟨changes, hmoved, hmoving⟩ := Blocks.leads_changes (b := s.blk.stopTaken) hr hk he hconf
        hsews hsel hm hne
      exact ⟨_, s.blk.stopTaken.colorChange r.slot, leads (.next resolve changes) (by decide),
        s.blk.stopTaken.goto_runState .changing none, rfl, rfl, rfl, hmoved, hmoving,
        s.blk.stopTaken.goto_ds .changing none⟩
    · have passed := Blocks.colorPassed_alike (b := s.blk.stopTaken) he hat
      obtain ⟨hchange, hcolor⟩ := s.blk.stopTaken.colorPassed_leaves r.slot
      obtain ⟨-, runs, rc, ru⟩ := Blocks.startPhase_started (passed.mayStart hmay)
      obtain ⟨-, -, -, -, -, hds⟩ := id runs
      exact ⟨_, leads (.next resolve
          (Blocks.leads_passes (b := s.blk.stopTaken) hr hk he hat hmay hneedles)) (by decide),
        passed.runsOn runs, (congrArg Rc.change rc).trans hchange,
        (congrArg Rc.slotInEffect rc).trans passed.slot,
        fun hroom => (congrArg Ds.sew (hds.trans passed.ds)).trans
          (s.blk.stopTaken.advance_sews hroom).sew,
        ru.grows _ hcolor⟩
  all_goals rw [if_neg (by rw [hcolor]; nofun)] at resolve
  case ended =>
    rw [if_pos hend] at resolve
    exact ⟨_, leads (.last resolve) (by decide), Blocks.passEnd_leaves s.blk.stopTaken hroom⟩
  all_goals rw [if_neg (by rw [hend]; nofun), if_pos hpending] at resolve
  case held =>
    have waits : ¬ (s.blk.stopTaken.goto .held none).resumeCondition = true := by
      rw [s.blk.resumeCondition_held]
      exact not_or.mpr ⟨Nat.not_le.mpr hlow, hopen⟩
    rw [if_neg waits] at resolve
    exact leads (.last resolve) (by decide)
  case sewsOn =>
    have held := s.blk.stopTaken_alike.trans (s.blk.stopTaken.goto_alike .held none)
    rw [if_pos (s.blk.resumeCondition_held.mpr hresume)] at resolve
    exact ⟨_, leads (.next resolve (Blocks.leads_start (held.mayStart hmay))) (by decide),
      held.runsOn (Blocks.startPhase_started (held.mayStart hmay)).2.runs⟩

end Sys2Proof.Proofs
end

section
/-!
SUPPORT. RUN (R69): each test of its table as the claim states it, the row in its order, and what a RUN
that is taken keeps; the statement settled.
-/

namespace Sys2Proof.Machine

open Sys2Proof.Claims

variable {b : Blocks}

/-! ## The tests -/

/-- A test of some run states alone holds in every other. -/
theorem testedIn_iff (b : Blocks) (l : List RunState) (test : Bool) :
    (!b.runIn l || test) = true ↔ (runIsOf b l → test = true) := by
  simp [Blocks.runIn, runIsOf, imp_iff_not_or]

theorem Selector.lost_iff (x : Selector) : x.lost = true ↔ x = .unknown ∨ x = .jammed := by
  cases x <;> simp [Selector.lost]

theorem runHomed_iff (b : Blocks) :
    (!b.runIn [.idle, .paused] || (b.sc.state == .stopped && b.fc.ready)) = true ↔ runHomed b := by
  rw [testedIn_iff, runHomed, Bool.and_eq_true, beq_iff_eq, Fc.ready, Bool.and_eq_true, beq_iff_eq,
    beq_iff_eq]

theorem someSews_iff (b : Blocks) : b.someSewing (fun _ => true) = true ↔ ∃ h, sews b h := by
  simp [Blocks.someSewing_iff]

theorem runUnflagged_iff (b : Blocks) : (!b.someSewing (·.faultFlag)) = true ↔ runUnflagged b := by
  simp [← Bool.not_eq_true, Blocks.someSewing_iff, runUnflagged]

theorem runAtNeedles_iff (b : Blocks) :
    (!b.runIn [.idle, .paused] || !b.someSewing (·.selector.lost)) = true ↔ runAtNeedles b := by
  rw [testedIn_iff, runAtNeedles, Bool.not_eq_true', ← Bool.not_eq_true, Blocks.someSewing_iff]
  simp [Selector.lost_iff]

theorem runBelowPin_iff (b : Blocks) :
    (!b.runIn [.paused, .held] || b.belowPin) = true ↔ runBelowPin b := by
  rw [testedIn_iff, runBelowPin, Blocks.belowPin, Blocks.pinStop]
  cases b.e <;> simp

theorem runLoaded_iff (b : Blocks) :
    (!b.runIn [.paused, .held] || decide (1 ≤ b.ds.pending) || b.ds.endLoaded) = true
      ↔ runLoaded b := by
  rw [Bool.or_assoc, testedIn_iff, runLoaded, Bool.or_eq_true, decide_eq_true_eq, Ds.endLoaded,
    beq_iff_eq, Ds.pending]

/-! ## The row -/

/-- The tests of RUN after those of the run state, the channel and L (R69). -/
def Blocks.runRest (b : Blocks) : List (Bool × Code) :=
  [(!b.runIn [.idle, .paused] || (b.sc.state == .stopped && b.fc.ready), .notHomed),
    (b.someSewing (fun _ => true), .noHeads),
    (!b.someSewing (·.faultFlag), .faultPending),
    (!b.runIn [.idle, .paused] || !b.someSewing (·.selector.lost), .notHomed),
    (!b.runIn [.paused, .held] || b.belowPin, .pinLimit),
    (!b.runIn [.paused, .held] || decide (1 ≤ b.ds.pending) || b.ds.endLoaded, .empty)]

/-- The tests of RUN from IDLE alone: the channel and L (R69). -/
def Blocks.runIdle (b : Blocks) : List (Bool × Code) :=
  [(!b.runIn [.idle] || b.ds.channel != .closed, .closed),
    (!b.runIn [.idle] || b.ds.channel != .stalled, .stalled),
    (!b.runIn [.idle] || decide (1 ≤ b.ds.load), .empty)]

theorem Blocks.runConditions_eq (b : Blocks) :
    b.runConditions [] = [b.isConfigured, lengthIs [] 0, b.notEstopped,
      b.runIs [.idle, .paused, .held]] ++ (b.runIdle ++ b.runRest) := rfl

/-- The row of a configured part, by the run state (R69, R182). -/
theorem cmdRun_configured (tag : Byte) (hlock : b.cf.lock = true) :
    cmdRun tag [] b =
      if (b.rc.runState != .halted || !b.fl.estop) = true then
        if runIsOf b [.idle, .paused, .held] then
          b.judge (b.runIdle ++ b.runRest) (okWith b.runTaken [])
        else refused b 0x04#8
      else refused b 0x0C#8 := by
  have length : lengthIs ([] : List Byte) 0 = (true, .length) := rfl
  rw [cmdRun, Blocks.runConditions_eq, length, Blocks.isConfigured, Blocks.notEstopped,
    Blocks.runIs_eq]
  simp only [List.cons_append, List.nil_append, Blocks.judge_cons, decide_eq_true_eq]
  rw [if_pos hlock, if_pos trivial]
  rfl

theorem cmdRun_inState (tag : Byte) (hlock : b.cf.lock = true)
    (hrun : runIsOf b [.idle, .paused, .held]) :
    cmdRun tag [] b = b.judge (b.runIdle ++ b.runRest) (okWith b.runTaken []) := by
  have awake : b.rc.runState ≠ .halted := fun hh => by simp [runIsOf, hh] at hrun
  rw [cmdRun_configured tag hlock, if_pos (by simp [awake]), if_pos hrun]

/-- The first tests of RUN hold: the others decide (R69). -/
theorem cmdRun_open (tag : Byte) (h : runOpen b) :
    cmdRun tag [] b = b.judge b.runRest (okWith b.runTaken []) := by
  obtain ⟨hlock, hrun, hidle⟩ := h
  have fromIdle {test : Bool} (ht : b.rc.runState = .idle → test = true) :
      (!b.runIn [.idle] || test) = true :=
    (testedIn_iff ..).mpr fun hi => ht (by simpa [runIsOf] using hi)
  rw [cmdRun_inState tag hlock hrun, Blocks.runIdle]
  simp only [List.cons_append, List.nil_append, Blocks.judge_cons]
  rw [if_pos (fromIdle fun hi => ?closed), if_pos (fromIdle fun hi => ?stalled),
    if_pos (fromIdle fun hi => ?loaded)]
  all_goals obtain ⟨hclosed, hstalled, hload⟩ := hidle hi
  case closed => simpa using hclosed
  case stalled => simpa using hstalled
  case loaded => simpa using hload

/-- The refusals by the run state (R69, R182). -/
theorem cmdRun_otherState (tag : Byte) (hlock : b.cf.lock = true) :
    (b.rc.runState = .halted → cmdRun tag [] b = refused b (if b.fl.estop then 0x0C#8 else 0x04#8))
    ∧ (¬ runIsOf b [.idle, .paused, .held, .halted] → cmdRun tag [] b = refused b 0x04#8) := by
  rw [cmdRun_configured tag hlock]
  refine ⟨fun hhalted => ?_, fun hother => ?_⟩
  · have outside : ¬ runIsOf b [.idle, .paused, .held] := by simp [runIsOf, hhalted]
    rw [if_neg outside, hhalted]
    cases b.fl.estop <;> rfl
  · simp only [runIsOf, List.mem_cons, List.not_mem_nil, or_false, not_or] at hother
    obtain ⟨hidle, hpaused, hheld, hhalted⟩ := hother
    rw [if_pos (by simp [hhalted]), if_neg (by simp [runIsOf, hidle, hpaused, hheld])]

/-- The refusals from IDLE by the channel and L (R69). -/
theorem cmdRun_idleRefused (tag : Byte) (hlock : b.cf.lock = true) (hidle : b.rc.runState = .idle) :
    (b.ds.channel = .closed → cmdRun tag [] b = refused b 0x0D#8)
    ∧ (b.ds.channel = .stalled → cmdRun tag [] b = refused b 0x14#8)
    ∧ (b.ds.channel = .opened → b.ds.load = 0 → cmdRun tag [] b = refused b 0x19#8) := by
  have tested (test : Bool) : (!b.runIn [.idle] || test) = test := by simp [Blocks.runIn, hidle]
  rw [cmdRun_inState tag hlock (by simp [runIsOf, hidle]), Blocks.runIdle]
  simp only [List.cons_append, List.nil_append, Blocks.judge_cons, tested]
  refine ⟨fun hclosed => ?_, fun hstalled => ?_, fun hopened hload => ?_⟩
  · rw [hclosed]
    rfl
  · rw [hstalled]
    rfl
  · rw [hopened, hload]
    rfl

/-- The rest of the row, test after test (R69). -/
theorem Blocks.judge_runRest (b : Blocks) (a : Answer) :
    (¬ runHomed b → b.judge b.runRest a = refused b 0x0B#8)
    ∧ (runHomed b → (¬ ∃ h, sews b h) → b.judge b.runRest a = refused b 0x17#8)
    ∧ (runHomed b → (∃ h, sews b h) → ¬ runUnflagged b → b.judge b.runRest a = refused b 0x16#8)
    ∧ (runHomed b → (∃ h, sews b h) → runUnflagged b →
      (¬ runAtNeedles b → b.judge b.runRest a = refused b 0x0B#8)
      ∧ (runAtNeedles b → ¬ runBelowPin b → b.judge b.runRest a = refused b 0x18#8)
      ∧ (runAtNeedles b → runBelowPin b → ¬ runLoaded b → b.judge b.runRest a = refused b 0x19#8)
      ∧ (runAtNeedles b → runBelowPin b → runLoaded b → b.judge b.runRest a = a)) := by
  simp only [Blocks.runRest, Blocks.judge_cons, Blocks.judge_nil]
  refine ⟨fun hhomed => if_neg (mt (runHomed_iff b).mp hhomed), fun hhomed hnone => ?_,
    fun hhomed hsome hflag => ?_, fun hhomed hsome hclear => ?_⟩
  all_goals rw [if_pos ((runHomed_iff b).mpr hhomed)]
  · exact if_neg (mt (someSews_iff b).mp hnone)
  all_goals rw [if_pos ((someSews_iff b).mpr hsome)]
  · exact if_neg (mt (runUnflagged_iff b).mp hflag)
  rw [if_pos ((runUnflagged_iff b).mpr hclear)]
  refine ⟨fun hlost => if_neg (mt (runAtNeedles_iff b).mp hlost), fun hat hpin => ?_,
    fun hat hpin hempty => ?_, fun hat hpin hloaded => ?_⟩
  all_goals rw [if_pos ((runAtNeedles_iff b).mpr hat)]
  · exact if_neg (mt (runBelowPin_iff b).mp hpin)
  all_goals rw [if_pos ((runBelowPin_iff b).mpr hpin)]
  · exact if_neg (mt (runLoaded_iff b).mp hempty)
  · exact if_pos ((runLoaded_iff b).mpr hloaded)

theorem cmdRun_taken (tag : Byte) (h : runTests b) : cmdRun tag [] b = okWith b.runTaken [] := by
  obtain ⟨hopen, hhomed, hsome, hclear, hat, hpin, hloaded⟩ := h
  obtain ⟨-, -, -, rest⟩ := b.judge_runRest (okWith b.runTaken [])
  obtain ⟨-, -, -, taken⟩ := rest hhomed hsome hclear
  exact (cmdRun_open tag hopen).trans (taken hat hpin hloaded)

/-! ## A RUN that is taken -/

/-- The stages after a RUN keep the run and the cycle count they begin with (R69, R70, R73). -/
theorem Blocks.runTaken_keeps (b : Blocks) :
    b.runTaken.cf = b.cf ∧ b.runTaken.tp = b.tp
      ∧ (b.rc.runState = .idle → b.runTaken.rc.runExists = true ∧ b.runTaken.sc.cycleCount = 0#32)
      ∧ (b.rc.runState ≠ .idle → b.runTaken.rc.runExists = b.rc.runExists
          ∧ b.runTaken.sc.cycleCount = b.sc.cycleCount) := by
  unfold Blocks.runTaken
  split
  · next hidle =>
    let begun : Blocks :=
      { b with rc.runExists := true, rc.resume := some .start, sc.cycleCount := 0#32 }
    obtain ⟨tp, runs, count, -⟩ := begun.go_holds .sequence
    exact ⟨begun.go_cf _, tp, fun _ => ⟨runs, count⟩, fun h => absurd hidle h⟩
  · next hpaused =>
    let resumed : Blocks := { b with rc.resume := some .resume }
    obtain ⟨tp, runs, count, -⟩ :=
      (resumed.goto_holds .paused none).trans (Blocks.go_holds _ .sequence)
    exact ⟨(Blocks.go_cf ..).trans (resumed.goto_cf ..), tp,
      fun h => (nomatch hpaused.symm.trans h), fun _ => ⟨runs, count⟩⟩
  · next hother _ =>
    obtain ⟨tp, runs, count, -⟩ := b.go_holds .start
    exact ⟨b.go_cf _, tp, fun h => absurd h hother, fun _ => ⟨runs, count⟩⟩

end Sys2Proof.Machine

namespace Sys2Proof.Proofs

open Sys2Proof.Machine Sys2Proof.Claims

/-- Settles O31: the row is judged test after test; a RUN that is taken follows stages that keep the run
and its cycle count. -/
theorem runIsTakenWhenItsTestsHold : Obligations.RunIsTakenWhenItsTestsHold := by
  unfold Obligations.RunIsTakenWhenItsTestsHold
  refine ⟨fun tag s hfree htests => ?taken, fun tag s hfree hlock => ?refused⟩
  case taken =>
    refine ⟨_, exec_run _ _ _ hfree, ?_⟩
    rw [cmdRun_taken tag htests]
    exact ⟨rfl, s.blk.runTaken_keeps⟩
  case refused =>
    have answers {a : Answer} (h : cmdRun tag [] s.blk = a) :
        exec (.run tag []) s = .next (answered s 0x21#8 tag a) :=
      (exec_run _ _ _ hfree).trans (next_answered h)
    have judged (hopen : runOpen s.blk) {a : Answer}
        (h : s.blk.judge s.blk.runRest (okWith s.blk.runTaken []) = a) :
        exec (.run tag []) s = .next (answered s 0x21#8 tag a) :=
      answers ((cmdRun_open tag hopen).trans h)
    obtain ⟨halted, other⟩ := cmdRun_otherState (b := s.blk) tag hlock
    obtain ⟨unhomed, noHeads, flagged, rest⟩ :=
      s.blk.judge_runRest (okWith s.blk.runTaken [])
    refine ⟨fun h => answers (halted h), fun h => answers (other h),
      fun hidle hchannel => ?closed, fun hidle hchannel => ?stalled,
      fun hidle hchannel hload => ?unloaded, fun hpaused hoff => ?paused, fun hopen => ?_⟩
    case closed =>
      obtain ⟨closed, -, -⟩ := cmdRun_idleRefused (b := s.blk) tag hlock hidle
      exact answers (closed hchannel)
    case stalled =>
      obtain ⟨-, stalled, -⟩ := cmdRun_idleRefused (b := s.blk) tag hlock hidle
      exact answers (stalled hchannel)
    case unloaded =>
      obtain ⟨-, -, unloaded⟩ := cmdRun_idleRefused (b := s.blk) tag hlock hidle
      exact answers (unloaded hchannel hload)
    case paused =>
      have hopen : runOpen s.blk :=
        ⟨hlock, by simp [runIsOf, hpaused], fun hidle => nomatch hpaused.symm.trans hidle⟩
      refine judged hopen (unhomed fun hhomed => ?_)
      obtain ⟨hstopped, haxes⟩ := hhomed (by simp [runIsOf, hpaused])
      exact hoff.elim (· hstopped) (· haxes)
    refine ⟨fun h => judged hopen (unhomed h), fun h hnone => judged hopen (noHeads h hnone),
      fun h hsome hflag => judged hopen (flagged h hsome hflag), fun h hsome hclear => ?_⟩
    obtain ⟨lost, pinned, empty, -⟩ := rest h hsome hclear
    exact ⟨fun hlost => judged hopen (lost hlost), fun hat hpin => judged hopen (pinned hat hpin),
      fun hat hpin hno => judged hopen (empty hat hpin hno)⟩

end Sys2Proof.Proofs
end

section
/-!
SUPPORT. The commands that name one head (R94 to R98, R104, R113, R128, R130, R138): the tests such a
command begins with, in the words of the claims, and the row of each command; the statements settled.
-/

namespace Sys2Proof.Machine

open Sys2Proof.Claims

/-! ## The tests of a command that names a head -/

theorem id8At_cons (n : Byte) (p : List Byte) : id8At (n :: p) 0 = Id8.ofNum n.toNat := rfl

/-- Only the head named decides what such a command does. -/
theorem headNamed_congr {b : Blocks} {n : Byte} {f g : HeadId → Answer}
    (h : f (Id8.ofNum n.toNat) = g (Id8.ofNum n.toNat)) : headNamed b n f = headNamed b n g := by
  rw [headNamed, h, headNamed]

theorem headNamedOn_congr {b : Blocks} {n : Byte} {f g : HeadId → Answer}
    (h : f (Id8.ofNum n.toNat) = g (Id8.ofNum n.toNat)) : headNamedOn b n f = headNamedOn b n g :=
  headNamed_congr (by rw [h])

/-- The three tests every such command begins with (R94). -/
theorem Blocks.judge_headFirst (b : Blocks) (n : Byte) (p : List Byte) (k : Nat)
    (l : List (Bool × Code)) (a : Answer) (hk : p.length + 1 = k) :
    b.judge (b.headFirst (n :: p) k ++ l) a = headNamed b n (fun _ => b.judge l a) := by
  have length : lengthIs (n :: p) k = (true, .length) := by simp [lengthIs, hk]
  have number : within 1 8 n.toNat = true ↔ ¬ (n.toNat < 1 ∨ 8 < n.toNat) := by
    rw [within, decide_eq_true_iff]
    omega
  unfold Blocks.headFirst Blocks.headIsValid headNamed
  rw [length, u8_zero, Blocks.isConfigured]
  simp only [List.cons_append, List.nil_append, Blocks.judge_cons, number, decide_eq_true_eq,
    if_true]
  cases hlock : b.cf.lock
  · rfl
  rw [if_pos rfl, if_neg (show ¬ true = false from nofun)]
  by_cases hvalue : n.toNat < 1 ∨ 8 < n.toNat
  · rw [if_neg (not_not.mpr hvalue), if_pos hvalue]
    rfl
  rw [if_pos hvalue, if_neg hvalue]
  by_cases hno : b.cf.config.headCount < n.toNat
  · rw [if_neg (Nat.not_le.mpr hno), if_pos hno]
    rfl
  · rw [if_pos (Nat.not_lt.mp hno), if_neg hno]

/-- The three tests, and HEAD_OFF after them (R94, R96). -/
theorem Blocks.judge_headOn (b : Blocks) (n : Byte) (p : List Byte) (k : Nat)
    (l : List (Bool × Code)) (a : Answer) (hk : p.length + 1 = k) :
    b.judge (b.headFirst (n :: p) k ++ b.headIsOn (n :: p) :: l) a
      = headNamedOn b n (fun _ => b.judge l a) := by
  refine (b.judge_headFirst n p k _ a hk).trans (headNamed_congr ?_)
  rw [Blocks.headIsOn, Blocks.judge_cons, id8At_cons]
  cases (b.hu.get (Id8.ofNum n.toNat)).state <;> rfl

/-- A configured head is found by its number. -/
theorem headNamed_num {b : Blocks} {h : HeadId} (f : HeadId → Answer) (hlock : b.cf.lock = true)
    (hconf : h.num ≤ b.cf.config.headCount) : headNamed b (numByte h) f = f h := by
  have lo := Id8.num_pos h
  have hi := Id8.num_le h
  rw [headNamed, numByte_toNat, Id8.ofNum_num, if_neg (by rw [hlock]; nofun), if_neg (by omega),
    if_neg (by omega)]

theorem headNamedOn_num {b : Blocks} {h : HeadId} (f : HeadId → Answer) (hlock : b.cf.lock = true)
    (hconf : h.num ≤ b.cf.config.headCount) (hon : (b.hu.get h).state ≠ .off) :
    headNamedOn b (numByte h) f = f h := by
  rw [headNamedOn, headNamed_num _ hlock hconf, if_neg hon]

theorem Blocks.judge_one (b : Blocks) (c : Bool) (code : Code) (a : Answer) :
    b.judge [(c, code)] a = if c = true then a else refused b code.byte := by
  rw [Blocks.judge_cons, Blocks.judge_nil]

/-- Two tests that refuse with STATE are one test of both. -/
theorem Blocks.judge_states (b : Blocks) (c c' : Bool) (a : Answer) :
    b.judge [(c, .state), (c', .state)] a
      = if c = false ∨ c' = false then refused b 0x04#8 else a := by
  rw [Blocks.judge_cons, Blocks.judge_one]
  cases c <;> cases c' <;> rfl

/-! ## One head's record and monitor -/

theorem Blocks.modHead_eq (b : Blocks) (h : HeadId) (f : Head → Head) :
    b.modHead h f = withHead b h (f (b.hu.get h)) := rfl

theorem Blocks.modMonitor_eq (b : Blocks) (h : HeadId) (f : Monitor → Monitor) :
    b.modMonitor h f = withMonitor b h (f (b.tm.get h)) := rfl

/-- With no cycle in progress the monitor of a head that leaves becomes OFF at once (R116). -/
theorem Blocks.monitorLeaves_rest (b : Blocks) (h : HeadId) (hcycle : b.sc.cycle = none) :
    b.monitorLeaves h = withMonitor b h { b.tm.get h with state := .off, k := 0, bigK := 0 } := by
  rw [Blocks.monitorLeaves, hcycle]
  rfl

/-! ## HCLR, BOB and MCLR -/

theorem cmdHclr_row (tag n : Byte) (b : Blocks) :
    cmdHclr tag [n] b = headNamedOn b n (fun h =>
      if ¬ runIsOf b [.idle, .paused, .ended, .halted]
          ∨ (b.hu.get h).selector = .jammed ∨ (b.hu.get h).selector = .unknown then
        refused b 0x04#8
      else (withHead b h { b.hu.get h with faultFlag := false }, [0x00#8])) := by
  refine (b.judge_headOn n [] 1 _ _ rfl).trans (headNamedOn_congr ?_)
  rw [Blocks.runIs_eq, Blocks.judge_states]
  refine if_congr (or_congr decide_eq_false_iff_not ?_) rfl rfl
  rw [Bool.not_eq_false', Selector.lost_iff]
  exact or_comm

/-- BOB tests its form after HEAD_OFF (R113; log 10, log 32). -/
theorem cmdBob_row (tag n form : Byte) (c : Nat) (b : Blocks) (hc : c < 65536) :
    cmdBob tag ([n, form] ++ enc16 c) b = headNamedOn b n (fun h =>
      if 1 < form.toNat ∨ (form = 1#8 ∧ c ≠ 0) then refused b 0x03#8
      else (withHead b h { b.hu.get h with
              bobbin := if form = 1#8 then none else some c, lowLatch := false }, [0x00#8])) := by
  have count : u16 ([n, form] ++ enc16 c) 2 = c := by
    have read := u16_enc16 c [] hc
    rwa [List.append_nil] at read
  have off : (form.toNat == 1) = decide (form = 1#8) := by
    simp only [← BitVec.toNat_inj]
    rfl
  unfold cmdBob
  dsimp only
  rw [count]
  refine (b.judge_headOn n (form :: enc16 c) 4 _ _ rfl).trans (headNamedOn_congr ?_)
  rw [Blocks.judge_one, show u8 ([n, form] ++ enc16 c) 1 = form.toNat from rfl, off]
  have value : (decide (form.toNat ≤ 1) && (!decide (form = 1#8) || c == 0)) = true
      ↔ ¬ (1 < form.toNat ∨ (form = 1#8 ∧ c ≠ 0)) := by
    simp [imp_iff_not_or]
  by_cases hvalue : 1 < form.toNat ∨ (form = 1#8 ∧ c ≠ 0)
  · rw [if_neg (mt value.mp (not_not.mpr hvalue)), if_pos hvalue]
    rfl
  · rw [if_pos (value.mpr hvalue), if_neg hvalue]
    simp only [decide_eq_true_eq]
    rfl

theorem cmdMclr_row (tag n : Byte) (b : Blocks) :
    cmdMclr tag [n] b = headNamedOn b n (fun h =>
      (withMonitor b h { b.tm.get h with soft := 0, warnLatch := false }, [0x00#8])) :=
  (b.judge_headOn n [] 1 [] _ rfl).trans (headNamedOn_congr rfl)

/-! ## HJOIN, HLEAVE, HDIS and HEN -/

theorem cmdHjoin_row (tag n : Byte) (b : Blocks) :
    cmdHjoin tag [n] b = headNamedOn b n (fun h =>
      if ¬ runIsOf b [.idle, .paused, .ended] ∨ (b.hu.get h).state ≠ .standby then refused b 0x04#8
      else (withHead b h { b.hu.get h with state := .sewing }, [0x00#8])) := by
  refine (b.judge_headOn n [] 1 _ _ rfl).trans (headNamedOn_congr ?_)
  rw [Blocks.runIs_eq, Blocks.judge_states]
  exact if_congr (or_congr decide_eq_false_iff_not (beq_eq_false_iff_ne ..)) rfl rfl

/-- HLEAVE of a head that sews or is ISOLATED (R94). -/
theorem cmdHleave_taken (tag : Byte) {b : Blocks} {h : HeadId} (hlock : b.cf.lock = true)
    (hconf : h.num ≤ b.cf.config.headCount) (hrun : runIsOf b [.idle, .paused, .ended])
    (hstate : (b.hu.get h).state = .sewing ∨ (b.hu.get h).state = .isolated) :
    cmdHleave tag [numByte h] b = (b.leave h, [0x00#8]) := by
  have on : (b.hu.get h).state ≠ .off := by rcases hstate with hs | hs <;> rw [hs] <;> nofun
  have leaves : ((b.hu.get h).state == .sewing || (b.hu.get h).state == .isolated) = true := by
    rcases hstate with hs | hs <;> rw [hs] <;> rfl
  refine ((b.judge_headOn (numByte h) [] 1 _ _ rfl).trans (headNamedOn_num _ hlock hconf on)).trans ?_
  rw [Blocks.headOf, id8At_numByte, Blocks.runIs_eq, leaves, Blocks.judge_states, if_neg]
  · rfl
  · rw [decide_eq_true hrun]
    nofun

/-- HDIS of a head that is not OFF (R95). -/
theorem cmdHdis_on (tag : Byte) {b : Blocks} {h : HeadId} (hlock : b.cf.lock = true)
    (hconf : h.num ≤ b.cf.config.headCount) (hrun : runIsOf b [.idle, .paused, .ended, .halted])
    (hon : (b.hu.get h).state ≠ .off) :
    cmdHdis tag [numByte h] b =
      if (b.hu.get h).selector.busy = true then refused b 0x07#8 else (b.disable h, [0x00#8]) := by
  refine ((b.judge_headOn (numByte h) [] 1 _ _ rfl).trans
    (headNamedOn_num _ hlock hconf hon)).trans ?_
  rw [Blocks.headOf, id8At_numByte, restStates, Blocks.runIs_eq, Blocks.judge_cons,
    if_pos (decide_eq_true hrun), Blocks.judge_one]
  cases (b.hu.get h).selector.busy <;> rfl

theorem Blocks.closeIfIsolated_keeps (b : Blocks) (h : HeadId) :
    (b.closeIfIsolated h).sc = b.sc ∧ (b.closeIfIsolated h).hu = b.hu
      ∧ (b.closeIfIsolated h).tm = b.tm := by
  unfold Blocks.closeIfIsolated
  split <;> simp

theorem Blocks.closeIfIsolated_other (b : Blocks) (h : HeadId)
    (hstate : (b.hu.get h).state ≠ .isolated) : b.closeIfIsolated h = b := if_neg hstate

/-- HDIS at rest, with no cycle in progress (R95, R116). -/
theorem Blocks.disable_rest (b : Blocks) (h : HeadId) (hcycle : b.sc.cycle = none) :
    b.disable h = withMonitor (withHead (b.closeIfIsolated h) h
        { b.hu.get h with state := .off, kept := some (keptOf (b.hu.get h).state)
                          footDown := false, engaged := false, trimmer := false }) h
      { b.tm.get h with state := .off, k := 0, bigK := 0 } := by
  obtain ⟨hsc, hhu, htm⟩ := b.closeIfIsolated_keeps h
  rw [Blocks.disable, Blocks.modHead_eq, Blocks.monitorLeaves_rest _ _ (by rw [← hcycle, ← hsc]; rfl),
    hhu, show ∀ u, (withHead (b.closeIfIsolated h) h u).tm = b.tm from fun _ => htm]

/-- HLEAVE at rest, with no cycle in progress (R94, R116). -/
theorem Blocks.leave_rest (b : Blocks) (h : HeadId) (hcycle : b.sc.cycle = none) :
    b.leave h = withMonitor (withHead (b.closeIfIsolated h) h { b.hu.get h with state := .standby }) h
      { b.tm.get h with state := .off, k := 0, bigK := 0 } := by
  obtain ⟨hsc, hhu, htm⟩ := b.closeIfIsolated_keeps h
  rw [Blocks.leave, Blocks.modHead_eq, Blocks.monitorLeaves_rest _ _ (by rw [← hcycle, ← hsc]; rfl),
    hhu, show ∀ u, (withHead (b.closeIfIsolated h) h u).tm = b.tm from fun _ => htm]

/-- HEN, by whether the head is OFF (R96). -/
theorem cmdHen_num (tag : Byte) {b : Blocks} {h : HeadId} (hlock : b.cf.lock = true)
    (hconf : h.num ≤ b.cf.config.headCount) (hrun : runIsOf b [.idle, .paused, .ended, .halted]) :
    cmdHen tag [numByte h] b =
      if (b.hu.get h).state = .off then
        (withHead b h { b.hu.get h with
          state := (b.hu.get h).kept.getD .standby, kept := none }, [0x00#8])
      else refused b 0x04#8 := by
  refine ((b.judge_headFirst (numByte h) [] 1 _ _ rfl).trans (headNamed_num _ hlock hconf)).trans ?_
  rw [Blocks.headOf, id8At_numByte, restStates, Blocks.runIs_eq, Blocks.judge_states,
    decide_eq_true hrun]
  by_cases hoff : (b.hu.get h).state = .off
  · rw [if_neg (by rw [hoff]; nofun), if_pos hoff]
    rfl
  · rw [if_pos (.inl (beq_eq_false_iff_ne.mpr hoff)), if_neg hoff]

end Sys2Proof.Machine

namespace Sys2Proof.Proofs

open Sys2Proof.Machine Sys2Proof.Claims

/-- Settles O38: the rows of HCLR, BOB and MCLR, each by the head it names. -/
theorem hclrBobAndMclrByTheirTables : Obligations.HclrBobAndMclrByTheirTables := by
  unfold Obligations.HclrBobAndMclrByTheirTables
  refine ⟨fun tag n s hfree => ?_, fun tag n form c s hfree hc => ⟨?_, ?_⟩⟩
  · exact (exec_hclr _ _ _ hfree).trans (next_answered (cmdHclr_row tag n s.blk))
  · exact (exec_bob _ _ _ hfree).trans (next_answered (cmdBob_row tag n form c s.blk hc))
  · exact (exec_mclr _ _ _ hfree).trans (next_answered (cmdMclr_row tag n s.blk))

/-- Settles O37: the row of HJOIN, and HLEAVE, HDIS and HEN of a configured head by its state. -/
theorem headsJoinLeaveAndAreGated : Obligations.HeadsJoinLeaveAndAreGated := by
  unfold Obligations.HeadsJoinLeaveAndAreGated
  refine ⟨fun tag n s hfree => ⟨?joins, ?leaves⟩, fun tag h s hfree hlock hconf hrun => ?gated⟩
  case joins => exact (exec_hjoin _ _ _ hfree).trans (next_answered (cmdHjoin_row tag n s.blk))
  case leaves =>
    rintro h rfl hlock hconf hsews hrun hcycle
    refine (exec_hleave _ _ _ hfree).trans (next_answered ?_)
    rw [cmdHleave_taken tag hlock hconf hrun (.inl hsews), s.blk.leave_rest h hcycle,
      s.blk.closeIfIsolated_other h (by rw [hsews]; nofun)]
  have answersHdis {a : Answer} (ha : cmdHdis tag [numByte h] s.blk = a) :
      exec (.hdis tag [numByte h]) s = .next (answered s 0x29#8 tag a) :=
    (exec_hdis _ _ _ hfree).trans (next_answered ha)
  have answersHen {a : Answer} (ha : cmdHen tag [numByte h] s.blk = a) :
      exec (.hen tag [numByte h]) s = .next (answered s 0x28#8 tag a) :=
    (exec_hen _ _ _ hfree).trans (next_answered ha)
  have idle (hbusy : (s.blk.hu.get h).selector.busy = false) :
      ¬ (s.blk.hu.get h).selector.busy = true := by rw [hbusy]; nofun
  refine ⟨fun hstate hbusy hcycle => answersHdis ?fit,
    fun hisolated hbusy hcycle => answersHdis ?isolated,
    fun hon hbusy => answersHdis ?busy, fun k hoff hkept => answersHen ?enabled,
    fun hon => answersHen ?on⟩
  case fit =>
    have kept : keptOf (s.blk.hu.get h).state = (s.blk.hu.get h).state
        ∧ (s.blk.hu.get h).state ≠ .off ∧ (s.blk.hu.get h).state ≠ .isolated := by
      rcases hstate with hs | hs <;> rw [hs] <;> exact ⟨rfl, nofun, nofun⟩
    obtain ⟨hkeeps, hon, hnot⟩ := kept
    rw [cmdHdis_on tag hlock hconf hrun hon, if_neg (idle hbusy), s.blk.disable_rest h hcycle,
      s.blk.closeIfIsolated_other h hnot, hkeeps]
  case isolated =>
    rw [cmdHdis_on tag hlock hconf hrun (by rw [hisolated]; nofun), if_neg (idle hbusy),
      s.blk.disable_rest h hcycle, Blocks.closeIfIsolated, if_pos hisolated, hisolated]
    rfl
  case busy => rw [cmdHdis_on tag hlock hconf hrun hon, if_pos hbusy]
  case enabled => rw [cmdHen_num tag hlock hconf hrun, if_pos hoff, hkept, Option.getD_some]
  case on => rw [cmdHen_num tag hlock hconf hrun, if_neg hon]

end Sys2Proof.Proofs
end

section
/-!
SUPPORT. HRST, HHOME and REJOIN (R97, R101, R104, R130, R138): the reset of one head, the homing of one
selector, and the ways out of ISOLATED; the statements settled.
-/

namespace Sys2Proof.Machine

open Sys2Proof.Claims

variable {b : Blocks} {h : HeadId}

/-! ## HRST -/

theorem cmdHrst_taken (tag : Byte) (hlock : b.cf.lock = true)
    (hconf : h.num ≤ b.cf.config.headCount) (hrun : runIsOf b [.idle, .paused, .ended, .halted])
    (hidle : (b.hu.get h).selector.busy = false) :
    cmdHrst tag [numByte h] b = (b.resetHead h, [0x00#8]) := by
  refine ((b.judge_headFirst (numByte h) [] 1 _ _ rfl).trans (headNamed_num _ hlock hconf)).trans ?_
  rw [Blocks.headOf, id8At_numByte, restStates, Blocks.runIs_eq, Blocks.judge_cons,
    if_pos (decide_eq_true hrun), Blocks.judge_one, hidle]
  rfl

theorem HeadFlags.clear_all (f : HeadFlags) : f.clear 0b1111#4 = ⟨0#4, 0#4⟩ := by
  unfold HeadFlags.clear
  rw [show (~~~0b1111#4 : BitVec 4) = 0#4 from rfl, BitVec.and_zero, BitVec.and_zero]

/-- The head and its monitor reset, before its ranges are dropped (R97, R130). -/
def Blocks.headCleared (b : Blocks) (h : HeadId) : Blocks :=
  withMonitor (withHead b h { b.hu.get h with
      faultFlag := false, bobbin := none, lowLatch := false
      state := if (b.hu.get h).state = .isolated then .standby else (b.hu.get h).state }) h
    { b.tm.get h with low := 0, high := 0, breakStart := none, soft := 0, warnLatch := false }

theorem Blocks.resetHead_eq (b : Blocks) (h : HeadId) :
    b.resetHead h = { (b.headCleared h).setRanges (b.rt.set h []) with
      ru.heads := b.ru.heads.set h ⟨0#4, 0#4⟩ } := by
  have flags : ((b.headCleared h).setRanges (b.rt.set h [])).ru.heads = b.ru.heads :=
    ((b.headCleared h).onlyRaised_setRanges _).heads
  have cleared : b.ru.heads.update h (·.clear 0b1111#4) = b.ru.heads.set h ⟨0#4, 0#4⟩ := by
    rw [Eight.update, HeadFlags.clear_all]
  rw [← cleared, ← flags]
  rfl

/-! ## HHOME -/

/-- HHOME in a run state that takes it, by the shaft (R104). -/
theorem cmdHhome_on (tag : Byte) (hlock : b.cf.lock = true) (hconf : h.num ≤ b.cf.config.headCount)
    (hon : (b.hu.get h).state ≠ .off) (hrun : runIsOf b [.idle, .paused, .ended]) :
    cmdHhome tag [numByte h] b =
      if b.sc.state = .stopped then (b.homeHead tag h, [0x00#8]) else refused b 0x0B#8 := by
  refine ((b.judge_headOn (numByte h) [] 1 _ _ rfl).trans
    (headNamedOn_num _ hlock hconf hon)).trans ?_
  rw [id8At_numByte, Blocks.runIs_eq, Blocks.judge_cons, if_pos (decide_eq_true hrun),
    Blocks.judge_one]
  exact if_congr beq_iff_eq rfl rfl

/-- A long operation begun (R91). -/
theorem Blocks.beginOp_eq (b : Blocks) (tag : Byte) (work : Work) (rs : RunState) :
    b.beginOp tag work rs = inState { b with rc.op := some ⟨tag, b.baseState, work⟩ } rs none := rfl

theorem Blocks.beginOp_op (b : Blocks) (tag : Byte) (work : Work) (rs : RunState) :
    (b.beginOp tag work rs).rc.op = some ⟨tag, b.baseState, work⟩ := by
  rw [Blocks.beginOp, Blocks.goto_rc]

/-- A run state at rest is the target of its own base state (R91). -/
theorem Blocks.baseState_target (hrun : runIsOf b [.idle, .paused, .ended]) :
    b.baseState.target.1 = b.rc.runState := by
  simp only [runIsOf, List.mem_cons, List.not_mem_nil, or_false] at hrun
  rcases hrun with hrun | hrun | hrun <;> rw [Blocks.baseState, hrun] <;> rfl

/-- With its index not asserted the selector is HOMING and its timer runs (R101). -/
theorem Blocks.homeHead_seeks (b : Blocks) (tag : Byte) (h : HeadId)
    (hindex : b.pins.selIndex.get h = false) :
    b.homeHead tag h =
      withHead (inState { b with rc.op := some ⟨tag, b.baseState, .hhome h⟩ } .homing none) h
        { b.hu.get h with selector := .homing, selTimer := some b.cf.settings.selectorTimeout } := by
  unfold Blocks.homeHead
  dsimp only
  rw [Blocks.beginOp_pins, hindex, Blocks.modHead_eq, Blocks.beginOp_hu, Blocks.beginOp_cf,
    Blocks.beginOp_eq]
  rfl

/-- With its index asserted the homing ends at once with OK (R101, R104). -/
theorem Blocks.homeHead_seen (b : Blocks) (tag : Byte) (h : HeadId)
    (hindex : b.pins.selIndex.get h = true) :
    b.homeHead tag h = (withHead (b.beginOp tag (.hhome h) .homing) h
      { b.hu.get h with selector := .atNeedle 1, selTimer := none }).endOpBase .ok
        OpFailures.none := by
  unfold Blocks.homeHead
  dsimp only
  rw [Blocks.beginOp_pins, hindex, Blocks.modHead_eq, Blocks.beginOp_hu, if_pos rfl]
  rfl

/-! ## REJOIN -/

/-- REJOIN of an ISOLATED head in PAUSED, by its selector (R138). -/
theorem cmdRejoin_isolated (tag : Byte) (hlock : b.cf.lock = true)
    (hconf : h.num ≤ b.cf.config.headCount) (hisolated : (b.hu.get h).state = .isolated)
    (hpaused : b.rc.runState = .paused) :
    cmdRejoin tag [numByte h] b =
      if (b.hu.get h).selector.isAt = true then
        let b' := withHead (b.closeRange h b.ds.sew) h
          { b.hu.get h with state := .sewing, faultFlag := false }
        (b', 0x00#8 :: enc8 (b'.rt.get h).length ++ b'.eBytes)
      else refused b 0x04#8 := by
  have run : decide (b.rc.runState ∈ [RunState.paused, .ended]) = true := by simp [hpaused]
  refine ((b.judge_headOn (numByte h) [] 1 _ _ rfl).trans
    (headNamedOn_num _ hlock hconf (by rw [hisolated]; nofun))).trans ?_
  rw [Blocks.headOf, id8At_numByte, Blocks.runIs_eq, Blocks.judge_cons, if_pos run, Blocks.judge_cons,
    if_pos (beq_iff_eq.mpr hisolated), Blocks.judge_one, Blocks.modHead_eq, Blocks.closeRange_hu]
  rfl

end Sys2Proof.Machine

namespace Sys2Proof.Proofs

open Sys2Proof.Machine Sys2Proof.Claims

/-- Settles O39: the reset head, its ranges dropped with the release test after them. -/
theorem hrstResetsOneHead : Obligations.HrstResetsOneHead := by
  unfold Obligations.HrstResetsOneHead
  intro tag h s hfree hlock hconf hrun hidle
  refine ⟨_, exec_hrst _ _ _ hfree, ?_⟩
  rw [cmdHrst_taken tag hlock hconf hrun hidle, s.blk.resetHead_eq h]
  refine ⟨rfl, ?_⟩
  simp [State.replied, Blocks.setRanges_rt, Blocks.headCleared, withMonitor, withHead]

/-- Settles O40: HHOME by the shaft state and the level of the index. -/
theorem hhomeHomesOneSelector : Obligations.HhomeHomesOneSelector := by
  unfold Obligations.HhomeHomesOneSelector
  intro tag h s hfree hlock hconf hon hrun
  have row := cmdHhome_on (b := s.blk) tag hlock hconf hon hrun
  refine ⟨fun hsc => ?elsewhere, fun hsc hindex => ?seeks, fun hsc hindex => ?seen⟩
  case elsewhere =>
    refine (exec_hhome _ _ _ hfree).trans (next_answered ?_)
    rw [row, if_neg hsc]
  case seeks =>
    refine (exec_hhome _ _ _ hfree).trans (next_answered ?_)
    rw [row, if_pos hsc, s.blk.homeHead_seeks tag h hindex]
  case seen =>
    refine ⟨_, exec_hhome _ _ _ hfree, ?_⟩
    rw [row, if_pos hsc, s.blk.homeHead_seen tag h hindex]
    have rc := (withHead (s.blk.beginOp tag (.hhome h) .homing) h
      { s.blk.hu.get h with selector := .atNeedle 1, selTimer := none }).endOpBase_rc
        ⟨tag, s.blk.baseState, .hhome h⟩ (s.blk.beginOp_op ..) .ok OpFailures.none
    refine ⟨rfl, ?_, ?_, ?_⟩
    · show (Blocks.endOpBase _ _ _).hu = _
      rw [Blocks.endOpBase_hu, withHead, Blocks.beginOp_hu]
    · show (Blocks.endOpBase _ _ _).rc.runState = _
      rw [rc]
      exact Blocks.baseState_target hrun
    · show (Blocks.endOpBase _ _ _).rc.opRecord = _
      rw [rc, show (withHead (s.blk.beginOp tag (.hhome h) .homing) h _).rc.opRecord
        = s.blk.rc.opRecord from by rw [withHead, Blocks.beginOp, Blocks.goto_rc]]
      rfl

/-- Settles O43: REJOIN of an ISOLATED head by its selector, and HLEAVE, which closes its range. -/
theorem isolatedHeadsReturnOrLeave : Obligations.IsolatedHeadsReturnOrLeave := by
  unfold Obligations.IsolatedHeadsReturnOrLeave
  intro tag h needle s hfree hlock hconf hisolated hpaused
  have row := cmdRejoin_isolated (b := s.blk) tag hlock hconf hisolated hpaused
  refine ⟨fun hsel => ?rejoins, fun hlost => ?lost, fun hcycle => ?leaves⟩
  case rejoins =>
    refine (exec_rejoin _ _ _ hfree).trans (next_answered ?_)
    rw [row, hsel]
    rfl
  case lost =>
    have away : ¬ (s.blk.hu.get h).selector.isAt = true := by
      rcases (Selector.lost_iff _).mp hlost with hsel | hsel <;> rw [hsel] <;> nofun
    refine (exec_rejoin _ _ _ hfree).trans (next_answered ?_)
    rw [row, if_neg away]
  case leaves =>
    refine (exec_hleave _ _ _ hfree).trans (next_answered ?_)
    rw [cmdHleave_taken tag hlock hconf (by simp [runIsOf, hpaused]) (.inr hisolated),
      s.blk.leave_rest h hcycle, Blocks.closeIfIsolated, if_pos hisolated]

end Sys2Proof.Proofs
end

section
/-!
SUPPORT. The thread plan (R105, R106): what entering and removing an entry leaves of the others, and
PSET, PCLR and PREAD by their slot; the statement settled.
-/

namespace Sys2Proof.Machine

open Sys2Proof.Claims

variable {b : Blocks} {slot : Nat}

/-! ## The entries of the plan -/

theorem planEntry_cons (x : PlanEntry) (tp : List PlanEntry) (slot : Nat) :
    planEntry (x :: tp) slot = if x.slot = slot then some x else planEntry tp slot := by
  split_ifs with hx
  · exact List.find?_cons_of_pos (beq_iff_eq.mpr hx)
  · exact List.find?_cons_of_neg (by rwa [beq_iff_eq])

/-- An entry put into the plan is the entry of its slot, and of no other (R106). -/
theorem planEntry_putEntry (e : PlanEntry) (tp : List PlanEntry) (slot : Nat) :
    planEntry (putEntry e tp) slot = if e.slot = slot then some e else planEntry tp slot := by
  induction tp with
  | nil => exact planEntry_cons e [] slot
  | cons x rest ih =>
    unfold putEntry
    by_cases hsame : x.slot = e.slot
    · rw [if_pos hsame, planEntry_cons, planEntry_cons, hsame]
      split_ifs <;> rfl
    by_cases hbelow : e.slot < x.slot
    · rw [if_neg hsame, if_pos hbelow]
      exact planEntry_cons e (x :: rest) slot
    · rw [if_neg hsame, if_neg hbelow, planEntry_cons, planEntry_cons, ih]
      split_ifs with hx he
      · exact absurd (hx.trans he.symm) hsame
      all_goals rfl

/-- An entry removed from the plan is missing, and no other is (R106). -/
theorem planEntry_filter (tp : List PlanEntry) (gone slot : Nat) :
    planEntry (tp.filter (fun e => e.slot != gone)) slot
      = if slot = gone then none else planEntry tp slot := by
  induction tp with
  | nil => split_ifs <;> rfl
  | cons x rest ih =>
    by_cases hx : x.slot = gone
    · rw [List.filter_cons_of_neg (by simp [hx]), ih, planEntry_cons, hx]
      split_ifs with hslot hother
      · rfl
      · exact absurd hother.symm hslot
      · rfl
    · rw [List.filter_cons_of_pos (by simp [hx]), planEntry_cons, planEntry_cons, ih]
      split_ifs with hslot hgone
      · exact absurd (hslot.trans hgone) hx
      all_goals rfl

/-! ## PSET, PCLR and PREAD -/

/-- A slot from 1 to 32 is read back from its byte (R106). -/
theorem u8_slot (l : List Byte) (hslot : 1 ≤ slot ∧ slot ≤ 32) :
    u8 (enc8 slot ++ l) 0 = slot ∧ within 1 32 slot = true :=
  ⟨u8_enc8 slot l (by omega), decide_eq_true hslot⟩

/-- With no run, no change and no patch every slot is free (R106). -/
theorem Blocks.slotFree_idle (hrun : b.rc.runExists = false)
    (hstate : ¬ runIsOf b [.changing, .patch]) (slot : Nat) (a : Answer) :
    b.judge (b.slotFree slot) a = a := by
  obtain ⟨hchanging, hpatch⟩ : b.rc.runState ≠ .changing ∧ b.rc.runState ≠ .patch := by
    simpa [runIsOf] using hstate
  refine b.judge_taken _ _ ?_
  simp [Blocks.slotFree, Blocks.runIn, hrun, hchanging, hpatch]

theorem cmdPset_taken (tag : Byte) (needles : List Byte) (hlock : b.cf.lock = true)
    (hslot : 1 ≤ slot ∧ slot ≤ 32) (hlen : needles.length = b.cf.config.headCount)
    (hneedles : ∀ n ∈ needles, 1 ≤ n.toNat ∧ n.toNat ≤ b.cf.config.needleCount)
    (hrun : b.rc.runExists = false) (hstate : ¬ runIsOf b [.changing, .patch]) :
    cmdPset tag (enc8 slot ++ needles) b =
      ({ b with tp := putEntry ⟨slot, needles.map BitVec.toNat⟩ b.tp },
        0x00#8 :: enc8 (putEntry ⟨slot, needles.map BitVec.toNat⟩ b.tp).length) := by
  obtain ⟨read, range⟩ := u8_slot needles hslot
  have known : (needles.map BitVec.toNat).all (within 1 b.cf.config.needleCount) = true := by
    simpa [within] using hneedles
  unfold cmdPset
  dsimp only
  rw [read, show (enc8 slot ++ needles).drop 1 = needles from rfl, Blocks.isConfigured]
  simp only [List.cons_append, List.nil_append, Blocks.judge_cons, List.length_map, hlen,
    beq_self_eq_true, hlock, range, known, if_true, Blocks.slotFree_idle hrun hstate]
  rfl

/-- PCLR of a slot in its range: the slot must be free (R106). -/
theorem cmdPclr_slot (tag : Byte) (hlock : b.cf.lock = true) (hslot : 1 ≤ slot ∧ slot ≤ 32) :
    cmdPclr tag (enc8 slot) b = b.judge (b.slotFree slot)
      ({ b with tp := b.tp.filter (fun e => e.slot != slot) },
        0x00#8 :: enc8 (b.tp.filter (fun e => e.slot != slot)).length) := by
  obtain ⟨read, range⟩ := u8_slot [] hslot
  rw [List.append_nil] at read
  unfold cmdPclr
  dsimp only
  rw [read, show lengthIs (enc8 slot) 1 = (true, .length) from rfl, Blocks.isConfigured]
  simp only [List.cons_append, List.nil_append, Blocks.judge_cons, hlock, range, if_true]
  rfl

theorem cmdPread_slot (tag : Byte) (hlock : b.cf.lock = true) (hslot : 1 ≤ slot ∧ slot ≤ 32) :
    cmdPread tag (enc8 slot) b = (b, match planEntry b.tp slot with
      | some e => [0x00#8] ++ enc8 b.tp.length ++ [1#8] ++ e.needles.flatMap enc8
      | none => [0x00#8] ++ enc8 b.tp.length ++ [0#8]) := by
  obtain ⟨read, range⟩ := u8_slot [] hslot
  rw [List.append_nil] at read
  unfold cmdPread
  dsimp only
  rw [read, show lengthIs (enc8 slot) 1 = (true, .length) from rfl, Blocks.isConfigured]
  simp only [Blocks.judge_cons, Blocks.judge_nil, hlock, range, if_true]
  cases planEntry b.tp slot <;> rfl

/-- The slot in effect of a run keeps its entry (R106). -/
theorem Blocks.slotFree_inEffect {e : PlanEntry} (hrun : b.rc.runExists = true)
    (heff : b.rc.slotInEffect = some slot) (he : planEntry b.tp slot = some e) (a : Answer) :
    b.judge (b.slotFree slot) a = refused b 0x04#8 := by
  unfold Blocks.slotFree
  dsimp only
  rw [hrun, heff, he, Blocks.judge_cons]
  exact if_neg (by simp)

end Sys2Proof.Machine

namespace Sys2Proof.Proofs

open Sys2Proof.Machine Sys2Proof.Claims

/-- Settles O41: the plan after PSET and PCLR, slot by slot, and what PREAD shows of it. -/
theorem thePlanIsSetClearedAndRead : Obligations.ThePlanIsSetClearedAndRead := by
  unfold Obligations.ThePlanIsSetClearedAndRead
  intro tag slot needles s hfree hlock hlo hhi
  have clear := cmdPclr_slot (b := s.blk) (slot := slot) tag hlock ⟨hlo, hhi⟩
  refine ⟨fun hlen hneedles hrun hstate => ?sets, fun hrun hstate => ?clears, ?reads,
    fun e hrun heff he => ?inEffect⟩
  case sets =>
    refine ⟨_, exec_pset _ _ _ hfree, ?_⟩
    rw [cmdPset_taken tag needles hlock ⟨hlo, hhi⟩ hlen hneedles hrun hstate]
    exact ⟨rfl, (planEntry_putEntry ..).trans (if_pos rfl),
      fun other hne => (planEntry_putEntry ..).trans (if_neg hne.symm), rfl⟩
  case clears =>
    refine ⟨_, exec_pclr _ _ _ hfree, ?_⟩
    rw [clear, Blocks.slotFree_idle hrun hstate]
    exact ⟨rfl, (planEntry_filter ..).trans (if_pos rfl),
      fun other hne => (planEntry_filter ..).trans (if_neg hne), rfl⟩
  case reads =>
    exact (exec_pread _ _ _ hfree).trans (next_answered (cmdPread_slot tag hlock ⟨hlo, hhi⟩))
  case inEffect =>
    refine (exec_pclr _ _ _ hfree).trans (next_answered ?_)
    rw [clear, Blocks.slotFree_inEffect hrun heff he]

end Sys2Proof.Proofs
end

section
/-!
SUPPORT. PATCH (R111, R141, R142): its tests, the patch run it begins, and the travel to the range; the
statement settled.
-/

namespace Sys2Proof.Machine

open Sys2Proof.Claims

variable {b : Blocks} {h : HeadId}

/-- A position 1 to 8 of a list of ranges is read back from its byte (R133). -/
theorem rangeAt_held {l : List Range} {r : Nat} {x : Range} (hr : 1 ≤ r) (hx : l[r - 1]? = some x) :
    rangeAt l r = some x :=
  (if_neg (by omega)).trans hx

/-- PATCH of a closed range of a fit head, the shaft and the frame at rest (R141). -/
theorem cmdPatch_taken (tag : Byte) {r first last needle : Nat} (hlock : b.cf.lock = true)
    (hconf : h.num ≤ b.cf.config.headCount) (hrun : runIsOf b [.paused, .ended])
    (hr : 1 ≤ r ∧ r ≤ 8) (hrange : (b.rt.get h)[r - 1]? = some ⟨first, some last⟩)
    (hstate : (b.hu.get h).state = .sewing ∨ (b.hu.get h).state = .standby)
    (hflag : (b.hu.get h).faultFlag = false) (hsel : (b.hu.get h).selector = .atNeedle needle)
    (hsc : b.sc.state = .stopped) (hax : axesReady b) :
    cmdPatch tag ([numByte h] ++ enc8 r) b
      = (b.beginPatch tag (b.patchOf h ⟨first, some last⟩), [0x00#8]) := by
  have place : u8 ([numByte h] ++ enc8 r) 1 = r := by
    rw [List.singleton_append, u8_succ]
    have read := u8_enc8 r [] (by omega)
    rwa [List.append_nil] at read
  have length : lengthIs ([numByte h] ++ enc8 r) 2 = (true, .length) := rfl
  have head : id8At ([numByte h] ++ enc8 r) 0 = h := id8At_numByte h _
  have awake : b.rc.runState ≠ .halted := fun hh => by simp [runIsOf, hh] at hrun
  have on : (b.hu.get h).state ≠ .off := by rcases hstate with hs | hs <;> rw [hs] <;> nofun
  have fit : ((b.hu.get h).state == .sewing || (b.hu.get h).state == .standby) = true := by
    simpa using hstate
  unfold cmdPatch
  dsimp only
  rw [head, place, rangeAt_held hr.1 hrange, length]
  refine b.judge_taken _ _ ((firstRefusal_none _).mpr ?_)
  simp [Blocks.isConfigured, Blocks.notEstopped, Blocks.headIsValid, Blocks.headIsOn, Blocks.headOf,
    Blocks.runIs_eq, rangeConditions, within, hlock, awake, hconf, on, hr, hflag,
    hsel, hsc, b.fc.ready_of_axes hax, Selector.isAt, Id8.num_pos h, Id8.num_le h]
  exact ⟨by simpa [runIsOf] using hrun, hstate⟩

/-- The other configured heads rest, and no other record changes (R111, R141). -/
theorem Blocks.restOthers_hu (b : Blocks) (h : HeadId) :
    (b.restOthers h).hu = Eight.tabulate (fun g =>
      if g.num ≤ b.cf.config.headCount ∧ g ≠ h then { b.hu.get g with rest := true }
      else b.hu.get g) := by
  refine Eight.ext_get fun g => ?_
  unfold Blocks.restOthers
  dsimp only
  rw [Eight.get_tabulate, Eight.get_tabulate]
  exact if_congr (by simp [Blocks.configured]) rfl rfl

/-- Off the start of its range the patch run travels there (R142). -/
theorem Blocks.beginPatch_travels (b : Blocks) (tag : Byte) (w : PatchWork) (p : Pos)
    (hax : axesReady b) (hp : b.ds.posBefore w.a = some p)
    (hoff : standsOff b (b.fc.origin.add p)) :
    b.beginPatch tag w =
      { inState { b with rc.op := some ⟨tag, b.baseState, .patch w⟩ } .patch none with
          hu := Eight.tabulate (fun g =>
            if g.num ≤ b.cf.config.headCount ∧ g ≠ w.head then { b.hu.get g with rest := true }
            else b.hu.get g)
          fc := frameSent b.fc .patchTravel (b.fc.origin.add p) } := by
  have fc : ((b.beginOp tag (.patch w) .patch).restOthers w.head).fc = b.fc := b.beginOp_fc ..
  have ds : ((b.beginOp tag (.patch w) .patch).restOthers w.head).ds = b.ds := b.beginOp_ds ..
  have hu := (b.beginOp tag (.patch w) .patch).restOthers_hu w.head
  rw [Blocks.beginOp_hu, Blocks.beginOp_cf] at hu
  have travel := Blocks.travel_some ((b.beginOp tag (.patch w) .patch).restOthers w.head)
    .patchTravel p (by rw [fc]; exact b.fc.ready_of_axes hax)
  rw [fc, Fc.depart_off _ _ _ hoff] at travel
  unfold Blocks.beginPatch
  dsimp only
  rw [ds, hp, travel, ← hu]
  rfl

end Sys2Proof.Machine

namespace Sys2Proof.Proofs

open Sys2Proof.Machine Sys2Proof.Claims

/-- Settles O45: PATCH is taken, and off the start of its range the frame travels there. -/
theorem patchTravelsToTheRange : Obligations.PatchTravelsToTheRange := by
  unfold Obligations.PatchTravelsToTheRange
  intro tag h r a b needle p s hfree hlock hconf hrun hlo hhi hrange hstate hflag hsel hsc hax hp hoff
  refine (exec_patch _ _ _ hfree).trans (next_answered ?_)
  rw [cmdPatch_taken tag hlock hconf hrun ⟨hlo, hhi⟩ hrange hstate hflag hsel hsc hax,
    s.blk.beginPatch_travels tag _ p hax hp hoff]
  rfl

end Sys2Proof.Proofs
end

section
/-!
SUPPORT. The resolution of a stop of a patch run (R143, R145, R146): when it waits, how its causes or
its end finish the patch, and a COLOR at p; the statement settled.
-/

namespace Sys2Proof.Machine

open Sys2Proof.Claims

variable {b : Blocks} {tag : Byte} {base : BaseState} {w : PatchWork} {stop : Stop}

/-! ## When the stop is resolved -/

theorem Blocks.resolvePatchStop_waits (hstop : b.rc.stop = some stop)
    (hop : b.rc.op = some ⟨tag, base, .patch w⟩) (h : b.rc.runState ≠ .patch ∨ b.fc.busy = true) :
    b.resolvePatchStop = b := by
  have waits : ¬ (b.runIn [.patch] && !b.fc.busy) = true := by
    rcases h with hrun | hbusy
    · simp [Blocks.runIn, hrun]
    · simp [hbusy]
  unfold Blocks.resolvePatchStop
  rw [hstop, Blocks.patchWork_of hop]
  exact if_neg waits

theorem Blocks.resolvePatchStop_resolves (hstop : b.rc.stop = some stop)
    (hop : b.rc.op = some ⟨tag, base, .patch w⟩) (hrun : b.rc.runState = .patch)
    (hfree : b.fc.busy = false) :
    b.resolvePatchStop = if (w.causes.fault || w.causes.host) = true then b.patchStopped w
      else ({ b with rc.stop := none } : Blocks).go .patchTest := by
  have resolved : (b.runIn [.patch] && !b.fc.busy) = true := by simp [Blocks.runIn, hrun, hfree]
  unfold Blocks.resolvePatchStop
  rw [hstop, Blocks.patchWork_of hop]
  exact if_pos resolved

/-! ## The end of the patch -/

/-- How a stop of a patch run ends it, by its causes and by p, and the new start of its range
(R143, R145, R146). -/
def PatchWork.endsWith (w : PatchWork) (result : OpResult) (start : Nat) : Prop :=
  (w.causes.fault = true ∧ result = .failed ∧ start = failedStart w)
    ∨ (w.causes = ⟨true, false⟩ ∧ result = .stopped ∧ start = w.p)
    ∨ (w.causes = ⟨false, false⟩ ∧ w.p = w.b ∧ result = .ok ∧ start = w.b)

/-- With p at the range's end the patch has completed (R143, R145). -/
theorem Blocks.patchTestPhase_complete (hop : b.rc.op = some ⟨tag, base, .patch w⟩) (hp : w.p = w.b) :
    b.patchTestPhase = (b.patchEnd w .ok w.b, none) := by
  have stays : b.pastMarks w.b w.p = w.p := by
    obtain ⟨hle, hend, -⟩ := b.pastMarks_spec w.b w.p
    have upper := hend hp.le
    omega
  unfold Blocks.patchTestPhase
  rw [Blocks.patchWork_of hop]
  dsimp only
  rw [stays, Blocks.setWork_same hop, if_pos hp]

/-- A stop that ends the patch run ends it with its result, from its new start on. -/
theorem Blocks.resolvePatchStop_ends {result : OpResult} {start : Nat} (hstop : b.rc.stop = some stop)
    (hop : b.rc.op = some ⟨tag, base, .patch w⟩) (hrun : b.rc.runState = .patch)
    (hfree : b.fc.busy = false) (hends : w.endsWith result start) :
    ∃ o, b.resolvePatchStop = ({ b with rc.stop := o } : Blocks).patchEnd w result start := by
  rw [Blocks.resolvePatchStop_resolves hstop hop hrun hfree]
  rcases hends with ⟨hfault, rfl, rfl⟩ | ⟨hcauses, rfl, rfl⟩ | ⟨hcauses, hp, rfl, rfl⟩
  · refine ⟨b.rc.stop, ?_⟩
    rw [hfault, Bool.true_or, if_pos rfl, Blocks.patchStopped, hfault, if_pos rfl,
      PatchWork.newStart_failed]
  · refine ⟨b.rc.stop, ?_⟩
    rw [hcauses, Bool.or_true, if_pos rfl, Blocks.patchStopped, hcauses, if_neg nofun,
      PatchWork.newStart_stopped]
  · refine ⟨none, ?_⟩
    rw [hcauses, if_neg nofun]
    exact Blocks.go_one (Blocks.patchTestPhase_complete (b := { b with rc.stop := none }) hop hp)

/-- The heads and monitors after the end of a patch (R116, R145, R146). -/
theorem Blocks.patchEnd_heads (b : Blocks) (w : PatchWork) (result : OpResult) (start : Nat) :
    (∀ h : HeadId, (b.patchEnd w result start).hu.get h = { b.hu.get h with rest := false })
    ∧ (b.patchEnd w result start).tm = if (b.hu.get w.head).state = .sewing then b.tm
      else b.tm.set w.head { b.tm.get w.head with state := .off, k := 0, bigK := 0 } := by
  have heads (h : HeadId) : (b.patchSettle w start).hu.get h = { b.hu.get h with rest := false } := by
    simp [Blocks.patchSettle]
  unfold Blocks.patchEnd
  rw [Blocks.endOpBase_hu, Blocks.patchMonitorOff_hu, Blocks.endOpBase_tm, Blocks.patchMonitorOff,
    heads]
  refine ⟨heads, ?_⟩
  split_ifs
  · exact b.patchSettle_tm w start
  · rw [Blocks.modMonitor_eq, withMonitor, Blocks.patchSettle_tm]
    rfl

theorem Blocks.patchEnd_slotInEffect (hop : b.rc.op = some ⟨tag, base, .patch w⟩) (result : OpResult)
    (start : Nat) : (b.patchEnd w result start).rc.slotInEffect = b.rc.slotInEffect := by
  rw [Blocks.patchEnd, Blocks.endOpBase_rc _ ⟨tag, base, .patch w⟩
    (by rw [Blocks.patchMonitorOff_rc, Blocks.patchSettle_rc]; exact hop), Blocks.patchMonitorOff_rc,
    Blocks.patchSettle_rc]

/-! ## A COLOR at p -/

/-- A COLOR at p begins the change of the patch head's needle (R107, R143). -/
theorem Blocks.go_patchTest_changes {r : StoredRecord} {e : PlanEntry} {n m : Nat}
    (hop : b.rc.op = some ⟨tag, base, .patch w⟩) (hp : w.p ≠ w.b) (hr : b.ds.record w.p = some r)
    (hcolor : r.kind = .color) (he : planEntry b.tp r.slot = some e)
    (hconf : w.head.num ≤ b.cf.config.headCount) (hsel : (b.hu.get w.head).selector = .atNeedle n)
    (hm : e.needles[w.head.num - 1]? = some m) (hne : n ≠ m) :
    b.go .patchTest = { b with
      rc.change := some ⟨r.slot, .recordDriven w.p, (Eight.const false).set w.head true, false, false⟩
      hu := b.hu.set w.head { b.hu.get w.head with
        selector := .moving m n (max m n - min m n)
        selTimer := some b.cf.settings.selectorTimeout } } := by
  have begins : b.phase .patchTest =
      (b.changeBegun r.slot (fun g => g == w.head) (.recordDriven w.p), some .changeCheck) := by
    show b.patchTestPhase = _
    rw [Blocks.patchTestPhase_here hop hr (by rw [hcolor]; nofun) hp, if_pos hcolor,
      b.changePhase_begins _ _ _ e he]
  have waits := b.changeBegun_checks (slot := r.slot) (scope := fun g => g == w.head)
    (.recordDriven w.p) hconf (beq_self_eq_true _) hsel (planNeedle_of_entry he hm) hne
  rw [Blocks.go_two begins waits, Blocks.changeBegun_patch _ he hconf hsel hm hne]

/-- Without a plan entry for it the patch ends FAILED (R107, R142, R143). -/
theorem Blocks.go_patchTest_noPlan {r : StoredRecord} (hop : b.rc.op = some ⟨tag, base, .patch w⟩)
    (hrun : b.rc.runState = .patch) (hp : w.p ≠ w.b) (hr : b.ds.record w.p = some r)
    (hcolor : r.kind = .color) (hnone : planEntry b.tp r.slot = none) :
    b.go .patchTest = (b.noPlanWritten r.slot w.p).patchEnd w .failed w.p := by
  have test : b.phase .patchTest = (b.noPlanStop r.slot w.p, none) := by
    show b.patchTestPhase = _
    rw [Blocks.patchTestPhase_here hop hr (by rw [hcolor]; nofun) hp, if_pos hcolor,
      b.changePhase_noPlan _ _ _ hnone]
    rfl
  rw [Blocks.go_one test, Blocks.noPlanStop_patch hop hrun]

end Sys2Proof.Machine

namespace Sys2Proof.Proofs

open Sys2Proof.Machine Sys2Proof.Claims

/-- Settles O56: the stop waits, ends the patch by its causes or at its end, or meets a COLOR. -/
theorem patchStopsAreResolved : Obligations.PatchStopsAreResolved := by
  unfold Obligations.PatchStopsAreResolved
  intro s stop tag base w hstop hop
  refine ⟨fun hwaits => next_blocks (Blocks.resolvePatchStop_waits hstop hop hwaits),
    fun hrun hfree => ⟨fun result start hends => ?ends, fun r hcauses hp hr hcolor => ?color⟩⟩
  case ends =>
    obtain ⟨o, resolved⟩ := Blocks.resolvePatchStop_ends hstop hop hrun hfree hends
    let b : Blocks := { s.blk with rc.stop := o }
    obtain ⟨hstate, hcause, hnoOp, hnoStop, -, hrecord, hfc, -, hothers, hrange⟩ :=
      Blocks.patchEnd_ended (b := b) (x := b) rfl rfl rfl hop result start
    obtain ⟨heads, monitors⟩ := b.patchEnd_heads w result start
    exact ⟨_, next_blocks resolved, hstate, hcause, hnoOp, hnoStop, hrecord, hfc, heads, monitors,
      b.patchEnd_sew .., Blocks.patchEnd_slotInEffect (b := b) hop .., hothers, hrange,
      b.patchEnd_sc .., b.patchEnd_fl ..⟩
  case color =>
    have resolved := Blocks.resolvePatchStop_resolves hstop hop hrun hfree
    rw [hcauses, if_neg nofun] at resolved
    refine ⟨fun e n m he hconf hsel hm hne => ?changes, fun hnone => ?noPlan⟩
    case changes =>
      exact next_blocks (resolved.trans (Blocks.go_patchTest_changes
        (b := { s.blk with rc.stop := none }) hop hp hr hcolor he hconf hsel hm hne))
    case noPlan =>
      let b : Blocks := { s.blk with rc.stop := none }
      have ends := Blocks.go_patchTest_noPlan (b := b) hop hrun hp hr hcolor hnone
      obtain ⟨hstate, -, hnoOp, -, -, hrecord, -, -, -, hrange⟩ := Blocks.patchEnd_ended (b := b)
        (x := b.noPlanWritten r.slot w.p) rfl rfl rfl hop .failed w.p
      exact ⟨_, next_blocks (resolved.trans ends), hstate, hnoOp, hrecord, hrange,
        Blocks.patchEnd_fl ..⟩

end Sys2Proof.Proofs
end

section
/-!
SUPPORT. IDENT, STAT and HSTAT (R96, R165, R170, R177, R181, R182): the fields of replies, entries and
snapshots in the layouts of the claims; the statement settled.
-/

namespace Sys2Proof.Machine

open Sys2Proof.Claims

variable {b : Blocks}

/-! ## Fields -/

theorem encOrZero_eq (o : Option Nat) : encOrZero o = [byteOr o] := by
  cases o <;> rfl

theorem encOpt_eq (width : Nat) (enc : Nat → List Byte) (o : Option Nat) :
    encOpt width enc o = behindPresence width enc o := by
  cases o <;> rfl

theorem enc8_eq (n : Nat) : enc8 n = [byteOf n] := rfl

/-- A set of the heads has a bit for each of its members (12.5). -/
theorem headSet_eq (e : Eight Bool) :
    headSet e = (Id8.all.map (fun h => if e.get h then 2 ^ (h.num - 1) else 0)).sum := by
  have bit (v : Bool) (n : Nat) : (if v = true then n else 0) = n * v.toNat := by
    cases v <;> simp
  simp only [bit]
  simp [headSet, Id8.all, Eight.get, Id8.num, Nat.add_assoc]

/-! ## The pending set -/

theorem Ru.contributes_eq (b : Blocks) (h : HeadId) :
    b.ru.contributes (b.offHeads.get h) h = contributing b h := by
  have flags : (b.ru.heads.get h).flags &&& ~~~(b.ru.heads.get h).marks &&& ~~~b.ru.eventMask
      = carried b h &&& ~~~(b.ru.heads.get h).marks := by
    rw [carried, BitVec.and_assoc, BitVec.and_assoc, BitVec.and_comm (~~~(b.ru.heads.get h).marks)]
  have on : (!((b.hu.get h).state == .off)) = decide ((b.hu.get h).state ≠ .off) := by
    cases (b.hu.get h).state <;> rfl
  have set (f : BitVec 4) : (f != 0#4) = decide (f ≠ 0#4) := by
    rw [bne, beq_eq_decide, decide_not]
  rw [Ru.contributes, Blocks.offHeads, Eight.get_tabulate, on, flags, set]
  rfl

theorem Blocks.pendingSet_eq (b : Blocks) : b.ru.pendingSet b.offHeads = pendingNow b := by
  unfold Ru.pendingSet pendingNow Ru.headPending
  rw [funext (Ru.contributes_eq b)]
  refine if_congr ?_ rfl rfl
  rw [Bool.and_eq_true, beq_iff_eq]
  rfl

/-! ## The layouts -/

theorem Blocks.runBytes_eq (b : Blocks) : b.runBytes = runLayout b := rfl

theorem Blocks.headByte_eq (b : Blocks) (h : HeadId) :
    b.headByte h
      = if h.num ≤ b.cf.config.headCount then byteOf (b.hu.get h).state.code else 0xFF#8 :=
  if_congr (decide_eq_true_iff ..) rfl rfl

/-- The snapshot of the status (12.7). -/
theorem Blocks.statBytes_eq (b : Blocks) (e : LinkFlags) : b.statBytes e = statLayout b e := by
  have pending : enc8 (b.ru.pendingSet b.offHeads).toNat = [(pendingNow b).setWidth 8] := by
    rw [b.pendingSet_eq, enc8_eq, byteOf, BitVec.ofNat_toNat]
  unfold Blocks.statBytes statLayout
  rw [b.runBytes_eq, encOrZero_eq, pending, funext b.headByte_eq]
  simp only [List.append_assoc]
  rfl

theorem statLayout_length (b : Blocks) (e : LinkFlags) : (statLayout b e).length = 50 := by
  simp [statLayout, runLayout, encS16, enc32, enc24, enc16, enc8, Id8.all]

theorem Selector.bytes_eq (x : Selector) : x.bytes = selectorLayout x := by
  cases x <;> rfl

/-- The settle progress of a channel, in its two bytes (R132). -/
theorem Monitor.progress_bytes (m : Monitor) :
    enc8 m.progress.1 ++ enc8 m.progress.2 = match m.state with
      | .off => [0#8, 0#8]
      | .settling => [byteOf m.k, byteOf m.bigK]
      | .armed => [byteOf m.bigK, byteOf m.bigK] := by
  unfold Monitor.progress
  cases m.state <;> rfl

/-- What HSTAT shows of a head that is not OFF (R182). -/
theorem headBytes_eq (b : Blocks) (h : HeadId) :
    headBytes (b.hu.get h) (b.tm.get h) (b.rt.get h).length = headLayout b h := by
  unfold headBytes headLayout
  rw [Selector.bytes_eq, encOpt_eq, encOpt_eq]
  simp only [List.append_assoc]
  rw [← List.append_assoc (enc8 (b.tm.get h).progress.1), Monitor.progress_bytes]
  rfl

/-- The entry (12.6). -/
theorem Entry.bytes_eq (e : Entry) : e.bytes = entryLayout e := by
  unfold Entry.bytes entryLayout
  simp only [List.append_assoc]
  rfl

theorem entryLayout_length (e : Entry) : (entryLayout e).length = 28 := rfl

/-- The snapshots of the reports that carry no head (R177). -/
theorem Blocks.snapshots_eq (b : Blocks) :
    b.snapshot .fault = behindPresence 4 enc32 (b.fl.log.getLast?.map (fun e => e.seq.toNat))
        ++ [byteOf b.fl.log.length, flagByte b.fl.overflow]
    ∧ b.snapshot .state = runLayout b ++ enc32 b.sc.cycleCount.toNat
    ∧ b.snapshot .color = byteOr b.rc.slotInEffect :: enc32 b.ds.sew
    ∧ b.snapshot .load = enc16 b.ds.free ++ enc32 b.ds.load := by
  refine ⟨?_, rfl, ?_, rfl⟩
  · show encOpt 4 enc32 _ ++ _ ++ _ = _
    rw [encOpt_eq, List.append_assoc]
    rfl
  · show encOrZero _ ++ _ = _
    rw [encOrZero_eq]
    rfl

/-! ## IDENT, STAT and HSTAT -/

/-- IDENT of the part (R165). -/
theorem cmdIdent_empty (tag : Byte) (b : Blocks) :
    cmdIdent tag [] b = (b, [0x00#8, 0xE4#8, 0x02#8, 0x01#8, 0x00#8, 0x40#8, 8#8, 15#8, 32#8, 8#8, 8#8,
      32#8, if b.cf.lock then 1#8 else 0#8]) := rfl

theorem cmdStat_empty (tag : Byte) (e : LinkFlags) (b : Blocks) :
    cmdStat e tag [] b = (b, 0x00#8 :: statLayout b e) := by
  rw [← b.statBytes_eq e]
  rfl

theorem cmdHstat_row (tag n : Byte) (b : Blocks) :
    cmdHstat tag [n] b = headNamed b n (fun h => (b, 0x00#8 ::
      (if (b.hu.get h).state = .off then
        [0#8, 0#8, 0#8, 0#8, 0#8, 1#8, 0#8, 0#8, 0#8, 0#8, 0#8, 0#8, 0#8, 0#8, 0#8, 0#8, 0#8, 0#8,
         0#8, 0#8, 0#8, 0#8, 0#8]
       else headLayout b h))) := by
  have row := b.judge_headFirst n [] 1 [] (okWith b
    (if (b.headOf [n]).state = .off then offHeadBytes
      else headBytes (b.hu.get (id8At [n] 0)) (b.tm.get (id8At [n] 0))
        (b.rt.get (id8At [n] 0)).length)) rfl
  rw [List.append_nil] at row
  refine row.trans (headNamed_congr ?_)
  rw [headBytes_eq, Blocks.headOf, id8At_cons]
  rfl

/-- STAT taken clears the link error flags it has read (R170, R181). -/
theorem takeFrame_stat (tag : Byte) (s : State) :
    s.takeFrame ⟨0x08#8, tag, []⟩ = { s with
      pl.errs := ⟨false, false, false, false, false⟩
      pl.replies := s.pl.replies ++
        [⟨⟨0x88#8, tag, 0x00#8 :: statLayout s.blk s.pl.errs⟩, .reply⟩] } := by
  have shown : answer s.pl.errs ⟨0x08#8, tag, []⟩ s.blk
      = (s.blk, 0x00#8 :: statLayout s.blk s.pl.errs) := cmdStat_empty tag s.pl.errs s.blk
  unfold State.takeFrame
  rw [shown]
  simp [isOk, Code.byte, replyFrame, LinkFlags.clear]

end Sys2Proof.Machine

namespace Sys2Proof.Proofs

open Sys2Proof.Machine Sys2Proof.Claims

/-- Settles O19: the reads, the entry and the snapshots by their layouts, the codes by their tables. -/
theorem readsGiveTheStateAsItStands : Obligations.ReadsGiveTheStateAsItStands := by
  unfold Obligations.ReadsGiveTheStateAsItStands
  refine ⟨fun tag s hfree => ?ident, fun tag s hfree => ?stat, fun tag n s hfree => ?hstat,
    fun e => ⟨e.bytes_eq, entryLayout_length e⟩, fun b => ?snapshots, rfl, rfl, rfl, rfl, rfl, rfl,
    rfl, rfl, rfl, rfl, rfl, rfl, headSet_eq⟩
  case ident => exact (exec_ident _ _ _ hfree).trans (next_answered (cmdIdent_empty tag s.blk))
  case stat =>
    rw [exec_stat _ _ _ hfree, takeFrame_stat]
    exact ⟨rfl, statLayout_length _ _⟩
  case hstat => exact (exec_hstat _ _ _ hfree).trans (next_answered (cmdHstat_row tag n s.blk))
  case snapshots =>
    obtain ⟨fault, state, color, load⟩ := b.snapshots_eq
    exact ⟨fault, state, rfl, color, load⟩

end Sys2Proof.Proofs
end

section
/-!
SUPPORT. The writing of an entry (R126, R150, R156, R157, R160): what it leaves in the log, the capture,
the pending reports and the monitors; the statement settled.
-/

namespace Sys2Proof.Machine

/-! ## The log and the capture -/

theorem Fl.write_below {f : Fl} (e : Entry) (h : f.log.length < 32) :
    (f.write e).log = f.log ++ [e] ∧ (f.write e).overflow = f.overflow := by
  have room : decide (Config.maxLog ≤ f.log.length) = false := decide_eq_false (Nat.not_le.mpr h)
  simp [Fl.write, room]

theorem Fl.write_full {f : Fl} (e : Entry) (h : 32 ≤ f.log.length) :
    (f.write e).log = f.log.drop 1 ++ [e] ∧ (f.write e).overflow = true := by
  have full : decide (Config.maxLog ≤ f.log.length) = true := decide_eq_true h
  simp [Fl.write, full]

@[simp] theorem Fl.write_nextSeq (f : Fl) (e : Entry) : (f.write e).nextSeq = f.nextSeq + 1 := rfl

/-- Whether or not the log was full, the entry written is its newest. -/
theorem Fl.write_newest (f : Fl) (e : Entry) : (f.write e).log.getLast? = some e :=
  List.getLast?_concat

theorem Fl.write_capture_free {f : Fl} (e : Entry) (h : f.capture = none) :
    (f.write e).capture = some e := by
  rw [Fl.write, h]

theorem Fl.write_capture_locked {f : Fl} {c : Entry} (e : Entry) (h : f.capture = some c) :
    (f.write e).capture = some c := by
  rw [Fl.write, h]

/-! ## The pending reports and the monitors -/

/-- FAULT is raised whether or not the condition names a head (R150). -/
theorem Blocks.writeEntry_ru (b : Blocks) (c : Condition) :
    (b.writeEntry c).ru = b.ru.raise .fault := by
  unfold Blocks.writeEntry
  cases c.head with
  | none => rfl
  | some h => rfl

/-- A condition that names a head zeroes the counts of that head alone (R126). -/
theorem Blocks.writeEntry_tm (b : Blocks) (c : Condition) (g : HeadId) :
    (b.writeEntry c).tm.get g =
      if c.head = some g then (b.tm.get g).zeroCounts else b.tm.get g := by
  unfold Blocks.writeEntry
  cases c.head with
  | none => rfl
  | some h =>
    refine (Eight.get_update ..).trans (if_congr ?_ rfl rfl)
    rw [Option.some.injEq, eq_comm]

end Sys2Proof.Machine

namespace Sys2Proof.Proofs

open Sys2Proof.Machine

/-- Settles O47: the entry of a condition, then the writing of any entry. -/
theorem anEntryIsWritten : Obligations.AnEntryIsWritten := by
  unfold Obligations.AnEntryIsWritten
  refine ⟨fun b c => ?condition, fun f e => ?entry⟩
  case condition =>
    have fl := b.writeEntry_fl c
    refine ⟨rfl, rfl, rfl, rfl, rfl, rfl, fl, ?newest, ?counter, b.writeEntry_ru c,
      b.writeEntry_tm c⟩
    case newest => rw [fl, Fl.write_newest]
    case counter => rw [fl, Fl.write_nextSeq]; rfl
  case entry =>
    exact ⟨Fl.write_below e, Fl.write_full e, f.write_nextSeq e, Fl.write_capture_free e,
      fun _ => Fl.write_capture_locked e⟩

end Sys2Proof.Proofs
end

section
/-!
SUPPORT. RREAD and RDROP (R139, R140): the tests of the position r, one after another, and the row
of each command for a configured head that is not OFF; the statement settled.
-/

namespace Sys2Proof.Machine

open Sys2Proof.Claims

variable {b : Blocks} {h : HeadId} {r : Nat}

/-! ## The position of a range -/

theorem rangeAt_beyond {l : List Range} (hbeyond : l.length < r) : rangeAt l r = none := by
  rw [rangeAt, if_neg (Nat.ne_zero_of_lt hbeyond), List.getElem?_eq_none_iff]
  exact Nat.le_sub_one_of_lt hbeyond

/-- At a position from 1 to 8: NO_RANGE, then STATE of an open range, then the tests that follow
(R140, R141). -/
theorem Blocks.judge_rangeConditions (b : Blocks) (hr : 1 ≤ r ∧ r ≤ 8) (o : Option Range)
    (l : List (Bool × Code)) (a : Answer) :
    b.judge (rangeConditions r o ++ l) a = match o with
      | none => refused b 0x1B#8
      | some ⟨_, none⟩ => refused b 0x04#8
      | some ⟨_, some _⟩ => b.judge l a := by
  rw [rangeConditions, List.cons_append, Blocks.judge_cons,
    if_pos (show within 1 8 r = true from decide_eq_true hr)]
  match o with
  | none => rfl
  | some ⟨_, none⟩ => rfl
  | some ⟨_, some _⟩ => rfl

/-! ## RREAD and RDROP -/

/-- RREAD is taken in every run state, and changes nothing (R139). -/
theorem cmdRread_on (tag : Byte) (hlock : b.cf.lock = true)
    (hconf : h.num ≤ b.cf.config.headCount) (hon : (b.hu.get h).state ≠ .off) :
    cmdRread tag [numByte h] b = (b, 0x00#8 :: enc8 (b.rt.get h).length
      ++ (b.rt.get h).zipIdx.flatMap rangeEntry ++ b.eBytes) := by
  refine ((b.judge_headOn (numByte h) [] 1 [] _ rfl).trans
    (headNamedOn_num _ hlock hconf hon)).trans ?_
  rw [Blocks.judge_nil, id8At_numByte]
  rfl

/-- RDROP turns on the range at r: none, open, the one being patched, or closed and free (R140). -/
theorem cmdRdrop_on (tag : Byte) (hlock : b.cf.lock = true)
    (hconf : h.num ≤ b.cf.config.headCount) (hon : (b.hu.get h).state ≠ .off)
    (hr : 1 ≤ r ∧ r ≤ 8) :
    cmdRdrop tag ([numByte h] ++ enc8 r) b = match rangeAt (b.rt.get h) r with
      | none => refused b 0x1B#8
      | some ⟨_, none⟩ => refused b 0x04#8
      | some ⟨a, some e⟩ =>
        let b' := b.setRanges (b.rt.set h ((b.rt.get h).eraseIdx (r - 1)))
        if b.isPatched h ⟨a, some e⟩ then refused b 0x07#8
        else (b', 0x00#8 :: enc8 (b'.rt.get h).length ++ b'.eBytes) := by
  have place : u8 ([numByte h] ++ enc8 r) 1 = r := u8_enc8 r [] (by omega)
  unfold cmdRdrop
  dsimp only
  rw [place, show id8At ([numByte h] ++ enc8 r) 0 = h from id8At_numByte h _]
  refine ((b.judge_headOn (numByte h) (enc8 r) 2 (rangeConditions r _ ++ [_]) _ rfl).trans
    (headNamedOn_num _ hlock hconf hon)).trans ?_
  rw [b.judge_rangeConditions hr]
  match rangeAt (b.rt.get h) r with
  | none => rfl
  | some ⟨_, none⟩ => rfl
  | some ⟨a, some e⟩ =>
    show b.judge [(!b.isPatched h ⟨a, some e⟩, .busy)] _ = ite _ _ _
    rw [Blocks.judge_one]
    cases b.isPatched h ⟨a, some e⟩ <;> rfl

/-- With no patch run no range is being patched (R140). -/
theorem Blocks.isPatched_none (hwork : b.patchWork = none) (h : HeadId) (x : Range) :
    b.isPatched h x = false := by
  rw [Blocks.isPatched, hwork]
  rfl

end Sys2Proof.Machine

namespace Sys2Proof.Proofs

open Sys2Proof.Machine Sys2Proof.Claims

/-- Settles O44: RREAD, then RDROP by what the list holds at the position. -/
theorem rangesAreReadAndDropped : Obligations.RangesAreReadAndDropped := by
  unfold Obligations.RangesAreReadAndDropped
  intro tag h r s hfree hlock hconf hon hlo hhi
  have drop := cmdRdrop_on (b := s.blk) tag hlock hconf hon ⟨hlo, hhi⟩
  refine ⟨?read, fun hbeyond => ?missing, fun a hopen => ?stillOpen,
    fun a e hclosed hwork => ?closed⟩
  case read =>
    exact (exec_rread _ _ _ hfree).trans (next_answered (cmdRread_on tag hlock hconf hon))
  case missing =>
    refine (exec_rdrop _ _ _ hfree).trans (next_answered ?_)
    rw [drop, rangeAt_beyond hbeyond]
  case stillOpen =>
    refine (exec_rdrop _ _ _ hfree).trans (next_answered ?_)
    rw [drop, rangeAt_held hlo hopen]
  case closed =>
    refine (exec_rdrop _ _ _ hfree).trans (next_answered ?_)
    rw [drop, rangeAt_held hlo hclosed]
    exact if_neg (ne_true_of_eq_false (Blocks.isPatched_none hwork h _))

end Sys2Proof.Proofs
end

section
/-!
SUPPORT. What the part notes of its work in the Fault Log and the Report Unit, and of the E-STOP input
(R154, R157, R159, R176, R179): entries are written in turn, kinds are raised unless masked, and a filter
times only what its state waits for.
-/

namespace Sys2Proof.Machine

/-! ## Sequence numbers in a row -/

theorem seqFrom_length (n : Nat) (q : BitVec 32) : (seqFrom n q).length = n := by
  induction n generalizing q with
  | zero => rfl
  | succ n ih => rw [seqFrom, List.length_cons, ih]

theorem seqFrom_add (m n : Nat) (q : BitVec 32) :
    seqFrom (m + n) q = seqFrom m q ++ seqFrom n (q + BitVec.ofNat 32 m) := by
  induction m generalizing q with
  | zero => rw [Nat.zero_add, BitVec.add_zero]; rfl
  | succ m ih =>
    have shift : q + 1 + BitVec.ofNat 32 m = q + BitVec.ofNat 32 (m + 1) := by
      rw [Nat.add_comm m 1, BitVec.ofNat_add, BitVec.add_assoc]; rfl
    rw [Nat.succ_add, seqFrom, ih, shift]
    rfl

theorem seqFrom_drop (k n : Nat) (q : BitVec 32) :
    (seqFrom (k + n) q).drop k = seqFrom n (q + BitVec.ofNat 32 k) := by
  rw [seqFrom_add, List.drop_left' (seqFrom_length k q)]

/-! ## The log -/

/-- The oldest entries leave the log (R157, R159). -/
theorem Fl.lawful_drop {f : Fl} (h : f.lawful) (k : Nat) (o : Bool) :
    ({ f with log := f.log.drop k, overflow := o } : Fl).lawful := by
  obtain ⟨room, seqs⟩ := h
  refine ⟨(f.log.drop_sublist k).length_le.trans room, ?_⟩
  show (f.log.drop k).map _ = _
  rw [List.map_drop, seqs, List.length_drop]
  obtain hk | hk := Nat.le_total k f.log.length
  · obtain ⟨n, hn⟩ := Nat.exists_eq_add_of_le hk
    rw [hn, seqFrom_drop, Nat.add_sub_cancel_left, BitVec.ofNat_add]
    congr 1
    abel
  · rw [Nat.sub_eq_zero_of_le hk, List.drop_of_length_le ((seqFrom_length _ _).le.trans hk)]
    rfl

/-- An entry that carries the counter's value joins a log that has a place (R157). -/
theorem Fl.lawful_append {f : Fl} (h : f.lawful) {e : Entry} (he : e.seq = f.nextSeq)
    (room : f.log.length < 32) {g : Fl} (hlog : g.log = f.log ++ [e])
    (hseq : g.nextSeq = f.nextSeq + 1) : g.lawful := by
  obtain ⟨-, seqs⟩ := h
  unfold Fl.lawful
  rw [hlog, hseq, List.map_append, seqs, List.length_append, List.length_singleton, seqFrom_add,
    BitVec.ofNat_add]
  have first : f.nextSeq + 1 - (BitVec.ofNat 32 f.log.length + 1#32)
      = f.nextSeq - BitVec.ofNat 32 f.log.length := add_sub_add_right_eq_sub ..
  refine ⟨room, ?_⟩
  rw [first, sub_add_cancel, ← he]
  rfl

theorem Fl.lawful_write {f : Fl} (h : f.lawful) {e : Entry} (he : e.seq = f.nextSeq) :
    (f.write e).lawful := by
  obtain ⟨most, -⟩ := id h
  obtain below | full := Nat.lt_or_ge f.log.length 32
  · exact Fl.lawful_append h he below (Fl.write_below e below).1 rfl
  · have room : (f.log.drop 1).length < 32 := by
      rw [List.length_drop]
      omega
    exact Fl.lawful_append (Fl.lawful_drop h 1 f.overflow) he room (Fl.write_full e full).1 rfl

/-! ## The report set -/

theorem cleared_and (p m : BitVec 6) : p &&& ~~~m &&& m = 0#6 := by
  rw [BitVec.and_assoc, BitVec.and_comm (~~~m), BitVec.and_not_self]
  exact BitVec.and_zero

theorem and_between {p m : BitVec 6} (h : p &&& m = 0#6) (c : BitVec 6) : p &&& c &&& m = 0#6 := by
  rw [BitVec.and_assoc, BitVec.and_comm c, ← BitVec.and_assoc, h, BitVec.zero_and]

/-- Bits that are neither masked nor HEAD's join the pending set. -/
theorem Ru.lawful_join {r : Ru} (h : r.lawful) {c : BitVec 6} (masked : c &&& r.kindMask = 0#6)
    (head : c &&& ReportKind.head.bit = 0#6) : ({ r with pend := r.pend ||| c } : Ru).lawful := by
  obtain ⟨hmasked, hhead⟩ := h
  unfold Ru.lawful
  rw [BitVec.and_or_distrib_right, BitVec.and_or_distrib_right, hmasked, hhead, masked, head]
  exact ⟨rfl, rfl⟩

/-- Kinds leave the pending set. -/
theorem Ru.lawful_leave {r : Ru} (h : r.lawful) (c : BitVec 6) :
    ({ r with pend := r.pend &&& c } : Ru).lawful :=
  ⟨and_between h.1 c, and_between h.2 c⟩

theorem ReportKind.bit_and_head {k : ReportKind} (hk : k ≠ .head) :
    k.bit &&& ReportKind.head.bit = 0#6 := by
  cases k
  case head => exact absurd rfl hk
  all_goals rfl

theorem Ru.lawful_raise {r : Ru} (h : r.lawful) {k : ReportKind} (hk : k ≠ .head) :
    (r.raise k).lawful :=
  Ru.lawful_join h (cleared_and ..) (and_between (ReportKind.bit_and_head hk) _)

/-- An abandoned report is pending again unless its kind is masked (R173, R176). -/
theorem Ru.lawful_pendAgain {r : Ru} (h : r.lawful) {k : ReportKind} (hk : k ≠ .head) :
    (r.pendAgain k).lawful := by
  refine Ru.lawful_join h ?_ (and_between (ReportKind.bit_and_head hk) _)
  rw [BitVec.not_or, ← BitVec.and_assoc]
  exact and_between (cleared_and ..) _

/-- Every kind that a MASK masks leaves the set (R179). -/
theorem Ru.lawful_setMasks {r : Ru} (h : r.lawful) (kinds : BitVec 6) (heads : BitVec 8)
    (events : BitVec 4) : (r.setMasks kinds heads events).lawful :=
  ⟨cleared_and .., (Ru.lawful_leave h (~~~kinds)).2⟩

theorem Ru.lawful_reset : Ru.reset.lawful := ⟨by decide, by decide⟩

theorem Ru.lawful_abandon {r : Ru} (h : r.lawful) (o : Option Outbound) : (r.abandon o).lawful := by
  unfold Ru.abandon
  split
  · exact h
  · next k hk => exact Ru.lawful_pendAgain h hk
  · exact h

/-! ## What the operations note -/

/-- Blocks whose log, report set and filters meet their laws where those of `a` do. -/
def Blocks.Noted (a b : Blocks) : Prop :=
  (a.fl.lawful → b.fl.lawful) ∧ (a.ru.lawful → b.ru.lawful)
    ∧ (a.filtersLawful → b.filtersLawful)

variable {a b : Blocks}

theorem Blocks.Noted.refl (b : Blocks) : b.Noted b := ⟨id, id, id⟩

theorem Blocks.Noted.log (h : a.Noted b) : a.fl.lawful → b.fl.lawful := h.1

theorem Blocks.Noted.reports (h : a.Noted b) : a.ru.lawful → b.ru.lawful := h.2.1

theorem Blocks.Noted.filters (h : a.Noted b) : a.filtersLawful → b.filtersLawful := h.2.2

/-- The laws ask nothing of the other blocks. -/
@[simp] theorem Blocks.noted_mk {cf : Cf} {ds : Ds} {fc : Fc} {sc : Sc} {rc : Rc} {hu : Eight Head}
    {tp : List PlanEntry} {tm : Eight Monitor} {rt : Eight (List Range)} {draws : Nat} :
    a.Noted ⟨cf, ds, fc, sc, rc, hu, tp, tm, rt, b.fl, b.ru, b.pins, draws⟩ ↔ a.Noted b := Iff.rfl

theorem Blocks.Noted.withFc (h : a.Noted b) (fc : Fc) : a.Noted { b with fc := fc } := h

theorem Blocks.Noted.withRc (h : a.Noted b) (rc : Rc) : a.Noted { b with rc := rc } := h

/-- The report unit is replaced by one that meets its law where the old one does. -/
theorem Blocks.noted_ru (h : a.Noted b) {r : Ru} (hr : b.ru.lawful → r.lawful) :
    a.Noted { b with ru := r } :=
  ⟨h.log, hr ∘ h.reports, h.filters⟩

/-- The log is replaced by one that meets its law where the old one does, and the recognition stays. -/
theorem Blocks.noted_fl (h : a.Noted b) {f : Fl} (hf : b.fl.lawful → f.lawful)
    (hfilters : (f.estop, f.assertTiming, f.releaseTiming)
      = (b.fl.estop, b.fl.assertTiming, b.fl.releaseTiming)) :
    a.Noted { b with fl := f } := by
  simp only [Prod.mk.injEq] at hfilters
  obtain ⟨he, ha, hr⟩ := hfilters
  refine ⟨hf ∘ h.log, h.reports, fun hl => ?_⟩
  have := h.filters hl
  unfold Blocks.filtersLawful at this ⊢
  simpa only [he, ha, hr] using this

@[simp] theorem Blocks.Noted.raise (h : a.Noted b) {k : ReportKind} (hk : k ≠ .head) :
    a.Noted (b.raise k) :=
  Blocks.noted_ru h fun hl => Ru.lawful_raise hl hk

@[simp] theorem Blocks.Noted.headEvent (h : a.Noted b) (g : HeadId) (e : HeadEvent) :
    a.Noted (b.headEvent g e) :=
  Blocks.noted_ru h id

@[simp] theorem Blocks.Noted.goto (h : a.Noted b) (rs : RunState) (c : Option PauseCause) :
    a.Noted (b.goto rs c) := by
  unfold Blocks.goto
  split
  · exact h
  · exact h.raise (k := .state) nofun

@[simp] theorem Blocks.Noted.modHead (h : a.Noted b) (g : HeadId) (f : Head → Head) :
    a.Noted (b.modHead g f) := h

@[simp] theorem Blocks.Noted.modMonitor (h : a.Noted b) (g : HeadId) (f : Monitor → Monitor) :
    a.Noted (b.modMonitor g f) := h

@[simp] theorem Blocks.Noted.setWork (h : a.Noted b) (w : Work) : a.Noted (b.setWork w) := h

@[simp] theorem Blocks.Noted.monitorLeaves (h : a.Noted b) (g : HeadId) :
    a.Noted (b.monitorLeaves g) := by
  unfold Blocks.monitorLeaves; split <;> exact h

@[simp] theorem Blocks.Noted.releaseTest (h : a.Noted b) : a.Noted b.releaseTest := by
  unfold Blocks.releaseTest; dsimp only; split
  · exact Blocks.Noted.raise (b := { b with ds := _ }) h nofun
  · exact h

@[simp] theorem Blocks.Noted.advance (h : a.Noted b) : a.Noted b.advance := by
  unfold Blocks.advance; split
  · exact Blocks.Noted.releaseTest (b := { b with ds := b.ds.advance }) h
  · exact h

theorem Blocks.Noted.moveSew {b' : Blocks} {forward : Bool} (h : a.Noted b)
    (hb : b.moveSew forward = some b') : a.Noted b' := by
  unfold Blocks.moveSew at hb
  split_ifs at hb <;> cases hb
  · exact h.advance
  · exact h

@[simp] theorem Blocks.Noted.emptyStore (h : a.Noted b) : a.Noted b.emptyStore := by
  unfold Blocks.emptyStore; dsimp only; split
  · exact Blocks.Noted.raise (b := { b with ds := Ds.empty }) h nofun
  · exact h

@[simp] theorem Blocks.Noted.setRanges (h : a.Noted b) (rt : Eight (List Range)) :
    a.Noted (b.setRanges rt) := by
  unfold Blocks.setRanges; dsimp only; split
  · exact Blocks.Noted.releaseTest (b := { b with rt := rt }) h
  · exact h

@[simp] theorem Blocks.Noted.closeRange (h : a.Noted b) (g : HeadId) (s : Nat) :
    a.Noted (b.closeRange g s) := h.setRanges _

@[simp] theorem Blocks.Noted.beginOp (h : a.Noted b) (tag : Byte) (w : Work) (rs : RunState) :
    a.Noted (b.beginOp tag w rs) := by
  simp [Blocks.beginOp, h]

@[simp] theorem Blocks.Noted.endOp (h : a.Noted b) (r : OpResult) (f : OpFailures) (rs : RunState)
    (c : Option PauseCause) : a.Noted (b.endOp r f rs c) := by
  unfold Blocks.endOp; split
  · exact h
  · exact Blocks.Noted.raise (b := { b.goto rs c with rc.op := none })
      (h.goto rs c) nofun

@[simp] theorem Blocks.Noted.endOpBase (h : a.Noted b) (r : OpResult) (f : OpFailures) :
    a.Noted (b.endOpBase r f) := by
  unfold Blocks.endOpBase; split
  · exact h
  · exact h.endOp ..

@[simp] theorem Blocks.Noted.patchSettle (h : a.Noted b) (w : PatchWork) (start : Nat) :
    a.Noted (b.patchSettle w start) := h.setRanges _

@[simp] theorem Blocks.Noted.patchMonitorOff (h : a.Noted b) (w : PatchWork) :
    a.Noted (b.patchMonitorOff w) := by
  unfold Blocks.patchMonitorOff; split <;> exact h

@[simp] theorem Blocks.Noted.patchEnd (h : a.Noted b) (w : PatchWork) (r : OpResult)
    (start : Nat) : a.Noted (b.patchEnd w r start) :=
  ((h.patchSettle w start).patchMonitorOff w).endOpBase r _

@[simp] theorem Blocks.Noted.patchStopped (h : a.Noted b) (w : PatchWork) :
    a.Noted (b.patchStopped w) := h.patchEnd ..

/-! ## The halt and the outcomes of faults -/

@[simp] theorem Blocks.Noted.haltRun (h : a.Noted b) : a.Noted b.haltRun := by
  unfold Blocks.haltRun; dsimp only; split <;> simp [h]

@[simp] theorem Blocks.Noted.halt (h : a.Noted b) : a.Noted b.halt := by
  simp [Blocks.halt, h]

@[simp] theorem Blocks.Noted.patchInterrupt (h : a.Noted b) (w : PatchWork) (fault : Bool) :
    a.Noted (b.patchInterrupt w fault) := by
  unfold Blocks.patchInterrupt; dsimp only; repeat' split
  case h_3.isFalse.isFalse => exact (h.setWork _).patchStopped _
  all_goals simp [h]

@[simp] theorem Blocks.Noted.stopTravel (h : a.Noted b) (c : PauseCause) :
    a.Noted (b.stopTravel c) := by
  unfold Blocks.stopTravel; split <;> simp [h]

@[simp] theorem Blocks.Noted.stopAll (h : a.Noted b) : a.Noted b.stopAll := by
  unfold Blocks.stopAll; repeat' split
  all_goals simp [h]

/-- The entry carries the counter's value, so the numbers go on (R156, R157). -/
@[simp] theorem Blocks.Noted.writeEntry (h : a.Noted b) (c : Condition) :
    a.Noted (b.writeEntry c) := by
  have written : a.Noted { b with fl := b.fl.write (b.entry c) } :=
    Blocks.noted_fl h (fun hl => Fl.lawful_write hl rfl) rfl
  have raised := written.raise (k := .fault) nofun
  unfold Blocks.writeEntry; dsimp only; split <;> exact raised

@[simp] theorem Blocks.Noted.isolate (h : a.Noted b) (g : HeadId) (c : Condition) :
    a.Noted (b.isolate g c) := by
  unfold Blocks.isolate
  extract_lets _ _ isolated
  have noted : a.Noted isolated :=
    (((h.setRanges _).modHead g _).headEvent g .isolated).monitorLeaves g
  split
  · exact (noted.closeRange g _).modHead g _
  · exact noted

@[simp] theorem Blocks.Noted.countFailure (h : a.Noted b) (c : Condition) :
    a.Noted (b.countFailure c) := by
  unfold Blocks.countFailure; repeat' split
  all_goals exact h

@[simp] theorem Blocks.Noted.notePatchBreak (h : a.Noted b) (c : Condition) :
    a.Noted (b.notePatchBreak c) := by
  unfold Blocks.notePatchBreak; repeat' split
  all_goals exact h

@[simp] theorem Blocks.Noted.handIsolate (h : a.Noted b) (c : Condition) :
    a.Noted (b.handIsolate c) := by
  unfold Blocks.handIsolate; split <;> simp [h]

@[simp] theorem Blocks.Noted.handStopAll (h : a.Noted b) (c : Condition) :
    a.Noted (b.handStopAll c) := by
  unfold Blocks.handStopAll; repeat' split
  · exact h
  · exact ((h.modHead _ _).headEvent _ _).notePatchBreak c |>.stopAll
  · exact h.stopAll

@[simp] theorem Blocks.Noted.take (h : a.Noted b) (c : Condition) : a.Noted (b.take c) := by
  unfold Blocks.take; dsimp only; repeat' split
  all_goals simp [h]

@[simp] theorem Blocks.Noted.takeAll (h : a.Noted b) (cs : List Condition) :
    a.Noted (b.takeAll cs) :=
  Blocks.takeAll_keeps (P := a.Noted) (fun _ c hx => hx.take c) cs b h

@[simp] theorem Blocks.Noted.report (h : a.Noted b) (cs : List Condition) :
    a.Noted (b.report cs) := by
  have emptied : a.Noted { b with fl.waiting := [] } := h
  unfold Blocks.report; split
  · exact emptied.takeAll _
  · exact Blocks.Noted.takeAll (b := { b with fl.waiting := [], draws := _ }) h _

@[simp] theorem Blocks.Noted.raiseAll (h : a.Noted b) (cs : List Condition) :
    a.Noted (b.raiseAll cs) := by
  unfold Blocks.raiseAll; split <;> simp [h]

end Sys2Proof.Machine
end

section
/-!
SUPPORT. What the stitch cycle and the stages of RC's work note in the log and the report set
(R52, R70 to R83, R142, R143).
-/

namespace Sys2Proof.Machine

variable {a b : Blocks}

/-! ## The stitch cycle -/

@[simp] theorem Blocks.Noted.giveEntry (h : a.Noted b) (c : Cycle) : a.Noted (b.giveEntry c) := by
  simp [Blocks.giveEntry, Blocks.needleEntry, h]

@[simp] theorem Blocks.Noted.trimPoint (h : a.Noted b) (c : Cycle) : a.Noted (b.trimPoint c) := h

@[simp] theorem Blocks.Noted.eventsAtIndex (h : a.Noted b) (c : Cycle) :
    a.Noted (b.eventsAtIndex c) := by
  unfold Blocks.eventsAtIndex; dsimp only; repeat' split
  all_goals simp [h]

theorem Blocks.Noted.lowerBobbinOf (i : Nat) {acc : Blocks × List Condition} (h : a.Noted acc.1)
    (g : HeadId) : a.Noted (Blocks.lowerBobbinOf i acc g).1 := by
  have lowered (u : Head) : a.Noted { acc.1 with hu := acc.1.hu.set g u } := h
  unfold Blocks.lowerBobbinOf; dsimp only; split
  · show a.Noted (ite _ _ _)
    split
    · exact (lowered _).headEvent g _
    · exact lowered _
  · exact h

theorem Blocks.Noted.closeWindowOf (plan : PlanMode) (c : Cycle) {acc : Blocks × List Condition}
    (h : a.Noted acc.1) (g : HeadId) : a.Noted (Blocks.closeWindowOf plan c acc g).1 := by
  have closed (m : Monitor) : a.Noted { acc.1 with tm := acc.1.tm.set g m } := h
  unfold Blocks.closeWindowOf
  extract_lets _ u m leaves done
  split
  · split
    · exact closed _
    · split
      · split
        · extract_lets v judged warned
          show a.Noted warned
          unfold warned
          split
          · exact (closed _).headEvent g _
          · exact closed _
        · exact closed _
      · exact closed _
  · exact h

/-- A fold of operations keeps what each of them keeps. -/
theorem Blocks.Noted.foldl {α β : Type} {f : Blocks × β → α → Blocks × β}
    (hf : ∀ {acc : Blocks × β}, a.Noted acc.1 → ∀ x, a.Noted (f acc x).1) (l : List α)
    {acc : Blocks × β} (h : a.Noted acc.1) : a.Noted (l.foldl f acc).1 := by
  induction l generalizing acc with
  | nil => exact h
  | cons x l ih => exact ih (hf h x)

@[simp] theorem Blocks.Noted.countSewn (h : a.Noted b) (plan : PlanMode) (c : Cycle) :
    a.Noted (b.countSewn plan c) := by
  unfold Blocks.countSewn; repeat' split
  all_goals simp [h]

@[simp] theorem Blocks.Noted.decideNext (h : a.Noted b) (plan : PlanMode) (c : Cycle) :
    a.Noted (b.decideNext plan c) := by
  unfold Blocks.decideNext; dsimp only; repeat' split
  all_goals exact h

@[simp] theorem Blocks.Noted.endCycle (h : a.Noted b) (choice : Nat → Nat) (ns : Nat)
    (plan : PlanMode) (c : Cycle) : a.Noted (Blocks.endCycle choice ns plan c b) := by
  unfold Blocks.endCycle
  extract_lets given counted lowered empties firstOnes taken closed judged late rest moment _ done
    sewn decided ended _
  have hcounted : a.Noted counted := h.eventsAtIndex c
  have hlowered : a.Noted lowered.1 := by
    unfold lowered
    split
    · exact Blocks.Noted.foldl (Blocks.Noted.lowerBobbinOf _) _ hcounted
    · exact hcounted
  have hclosed : a.Noted closed.1 :=
    Blocks.Noted.foldl (Blocks.Noted.closeWindowOf plan c) _ (hlowered.report _)
  have hsewn : a.Noted sewn := Blocks.Noted.countSewn (b := done) hclosed plan c
  have hended : a.Noted ended := ((hsewn.report _).decideNext plan c).report _
  split
  · exact hended
  · exact hended.report _

@[simp] theorem Blocks.Noted.startRequest (h : a.Noted b) (plan : PlanMode) (i : Nat) :
    a.Noted (b.startRequest plan i).1 := by
  unfold Blocks.startRequest; dsimp only; repeat' split
  all_goals exact h

/-! ## The stages of RC's work -/

theorem Blocks.Noted.beginChange {b' : Blocks} {slot : Nat} {scope : HeadId → Bool}
    {kind : ChangeKind} (h : a.Noted b) (hb : b.beginChange slot scope kind = some b') :
    a.Noted b' := by
  unfold Blocks.beginChange at hb
  split at hb <;> cases hb
  exact h

theorem Blocks.Noted.travel {b' : Blocks} {o : MoveOwner} {rel : Option Pos} (h : a.Noted b)
    (hb : b.travel o rel = some b') : a.Noted b' := by
  unfold Blocks.travel at hb
  split at hb
  · split_ifs at hb; cases hb; exact h
  · cases hb

@[simp] theorem Blocks.Noted.pauseFor (h : a.Noted b) (c : PauseCause) :
    a.Noted (b.pauseFor c) := by
  simp [Blocks.pauseFor, h]

@[simp] theorem Blocks.Noted.passEnd (h : a.Noted b) : a.Noted b.passEnd := by
  have closed (rt : Eight (List Range)) (hu : Eight Head) :
      a.Noted { b.setRanges rt with hu := hu, rc.resume := none } := h.setRanges rt
  exact (closed _ _).advance.goto _ _

@[simp] theorem Blocks.Noted.sequencePhase (h : a.Noted b) : a.Noted b.sequencePhase.1 := by
  unfold Blocks.sequencePhase
  extract_lets _ start travelling
  have hstart : a.Noted start := by
    unfold start
    split <;> exact h
  have htravelling : a.Noted travelling := hstart.goto _ _
  split
  · exact h.passEnd
  · split
    · exact h.advance
    · split
      · split
        · exact htravelling.pauseFor _
        · next ht =>
          have hbegun := htravelling.travel ht
          split <;> exact hbegun
      · exact hstart

@[simp] theorem Blocks.Noted.noPlanStop (h : a.Noted b) (slot i : Nat) :
    a.Noted (b.noPlanStop slot i) := by
  unfold Blocks.noPlanStop; dsimp only; split <;> simp [h]

@[simp] theorem Blocks.Noted.changePhase (h : a.Noted b) (slot : Nat) (scope : HeadId → Bool)
    (kind : ChangeKind) : a.Noted (b.changePhase slot scope kind).1 := by
  unfold Blocks.changePhase
  split
  · exact h.noPlanStop _ _
  · next hb => exact h.beginChange hb

@[simp] theorem Blocks.Noted.reconcilePhase (h : a.Noted b) : a.Noted b.reconcilePhase.1 := by
  unfold Blocks.reconcilePhase; repeat' split
  all_goals simp [h]

@[simp] theorem Blocks.Noted.startPhase (h : a.Noted b) : a.Noted b.startPhase.1 := by
  unfold Blocks.startPhase
  extract_lets _ _ owed asked
  have howed : a.Noted owed := by
    unfold owed
    split <;> exact h
  have hasked : a.Noted asked.1 := howed.startRequest _ _
  split <;> simp [hasked]

@[simp] theorem Blocks.Noted.resolvePhase (h : a.Noted b) (causes : StopCauses) (p : StopPoints) :
    a.Noted (b.resolvePhase causes p).1 := by
  unfold Blocks.resolvePhase
  extract_lets _ cleared taken held
  have htaken : a.Noted taken := by
    unfold taken
    split
    · exact Blocks.Noted.take (b := cleared) h _
    · exact h
  have hheld : a.Noted held := htaken.goto _ _
  repeat' split
  all_goals simp [htaken, hheld]

@[simp] theorem Blocks.Noted.patchChangeDone (h : a.Noted b) (w : PatchWork) (c : Change) :
    a.Noted (b.patchChangeDone w c) := by
  unfold Blocks.patchChangeDone; dsimp only; split <;> simp [h]

@[simp] theorem Blocks.Noted.changeCheckPhase (h : a.Noted b) : a.Noted b.changeCheckPhase.1 := by
  unfold Blocks.changeCheckPhase; dsimp only; repeat' split
  all_goals simp [h, Blocks.oweMoved]

@[simp] theorem Blocks.Noted.stepPhase (h : a.Noted b) : a.Noted b.stepPhase.1 := by
  unfold Blocks.stepPhase
  split
  · split
    · exact h.endOpBase _ _
    · split
      · exact h.endOpBase _ _
      · split
        · exact h.endOpBase _ _
        · next hm =>
          have hmoved := h.moveSew hm
          split
          · exact hmoved.endOpBase _ _
          · next ht => exact (hmoved.travel ht).setWork _
  · exact h

@[simp] theorem Blocks.Noted.patchTestPhase (h : a.Noted b) : a.Noted b.patchTestPhase.1 := by
  unfold Blocks.patchTestPhase
  split
  · exact h
  · extract_lets w set asked
    have hset : a.Noted set := h
    have hasked : a.Noted asked.1 := hset.startRequest _ _
    split
    · exact hset.patchEnd _ _ _
    · split
      · exact hset.changePhase _ _ _
      · split
        · exact hasked
        · exact hasked.patchEnd _ _ _

theorem Blocks.Noted.phase (h : a.Noted b) (p : Phase) : a.Noted (b.phase p).1 := by
  cases p <;> simp [Blocks.phase, h]

theorem Blocks.Noted.follow (n : Nat) (p : Phase) {b : Blocks} (h : a.Noted b) :
    a.Noted (Blocks.follow n p b) := by
  induction n generalizing p b with
  | zero => exact h
  | succ n ih =>
    unfold Blocks.follow
    dsimp only
    split
    · exact h.phase p
    · exact ih _ (h.phase p)

@[simp] theorem Blocks.Noted.go (h : a.Noted b) (p : Phase) : a.Noted (b.go p) :=
  Blocks.Noted.follow _ p h

@[simp] theorem Blocks.Noted.heldTest (h : a.Noted b) : a.Noted b.heldTest := by
  unfold Blocks.heldTest; split <;> simp [h]

end Sys2Proof.Machine
end

section
/-!
SUPPORT. What homing, the events and the owners' answers note, and the E-STOP filters (R154); a step
keeps the laws of the log, of the pending set and of the filters.
-/

namespace Sys2Proof.Machine

variable {a b : Blocks}

/-! ## Homing -/

@[simp] theorem Blocks.Noted.modHome (h : a.Noted b) (f : HomeWork → HomeWork) :
    a.Noted (b.modHome f) := by
  unfold Blocks.modHome; split <;> exact h

@[simp] theorem Blocks.Noted.beginAxisHoming (h : a.Noted b) (ax : Axis) :
    a.Noted (b.beginAxisHoming ax) := by
  unfold Blocks.beginAxisHoming
  split
  · exact h.modHome _
  · extract_lets _ marked
    have hmarked : a.Noted marked := by
      unfold marked
      split <;> exact h
    split
    · exact (hmarked.withFc _).modHome _
    · exact hmarked

@[simp] theorem Blocks.Noted.endHome (h : a.Noted b) (r : OpResult) (f : OpFailures) :
    a.Noted (b.endHome r f) := by
  unfold Blocks.endHome; repeat' split
  all_goals simp [h]

@[simp] theorem Blocks.Noted.homeCheck (h : a.Noted b) : a.Noted b.homeCheck := by
  unfold Blocks.homeCheck; repeat' split
  all_goals simp [h]

@[simp] theorem Blocks.Noted.homeSecond (h : a.Noted b) : a.Noted b.homeSecond := by
  have begun (f : HomeWork → HomeWork) (hu : Eight Head) :
      a.Noted { b.modHome f with hu := hu } := h.modHome f
  exact (((begun _ _).beginAxisHoming .x).beginAxisHoming .y).homeCheck

@[simp] theorem Blocks.Noted.homeFirst (h : a.Noted b) : a.Noted b.homeFirst := by
  unfold Blocks.homeFirst; split <;> simp [h]

@[simp] theorem Blocks.Noted.findFailed (h : a.Noted b) : a.Noted b.findFailed := by
  have off : a.Noted { b with sc := b.sc.turnOff } := h
  exact (off.report _).endHome _ _

@[simp] theorem Blocks.Noted.selectorHomed (h : a.Noted b) (g : HeadId) :
    a.Noted (b.selectorHomed g) := by
  have homed (f : Head → Head) : a.Noted (b.modHead g f) := h
  unfold Blocks.selectorHomed; dsimp only; split
  · split
    · exact (homed _).endOpBase _ _
    · exact homed _
  · exact ((homed _).modHome _).homeCheck

@[simp] theorem Blocks.Noted.selectorHomingFailed (h : a.Noted b) (g : HeadId) :
    a.Noted (b.selectorHomingFailed g) := by
  have reported (f : Head → Head) (cs : List Condition) : a.Noted ((b.modHead g f).report cs) :=
    (h.modHead g f).report cs
  unfold Blocks.selectorHomingFailed; dsimp only; split
  · split
    · exact (reported _ _).endOpBase _ _
    · exact reported _ _
  · exact (reported _ _).homeCheck

/-! ## The events of the shaft -/

@[simp] theorem Blocks.Noted.stall (h : a.Noted b) : a.Noted b.stall := h.report _

@[simp] theorem Blocks.Noted.angleEvents (h : a.Noted b) : a.Noted b.angleEvents := by
  unfold Blocks.angleEvents; repeat' split
  all_goals simp [h]

@[simp] theorem Blocks.Noted.encoderCount (h : a.Noted b) : a.Noted b.encoderCount := by
  unfold Blocks.encoderCount; repeat' split
  all_goals simp [h]

@[simp] theorem Blocks.Noted.countOverflow (h : a.Noted b) : a.Noted b.countOverflow := by
  unfold Blocks.countOverflow; split <;> simp [h]

@[simp] theorem Blocks.Noted.findExhausted (h : a.Noted b) : a.Noted b.findExhausted := by
  unfold Blocks.findExhausted; split <;> simp [h]

@[simp] theorem Blocks.Noted.stallExpiry (h : a.Noted b) : a.Noted b.stallExpiry := by
  unfold Blocks.stallExpiry; split <;> simp [h]

@[simp] theorem Blocks.Noted.indexPulse (h : a.Noted b) (ns : Nat) : a.Noted (b.indexPulse ns) := by
  unfold Blocks.indexPulse; repeat' split
  all_goals simp [h]

@[simp] theorem Blocks.Noted.feedPulse (h : a.Noted b) (g : HeadId) : a.Noted (b.feedPulse g) := by
  unfold Blocks.feedPulse; split <;> simp [h]

@[simp] theorem Blocks.Noted.resolveStop (h : a.Noted b) : a.Noted b.resolveStop := by
  unfold Blocks.resolveStop; repeat' split
  all_goals simp [h]

@[simp] theorem Blocks.Noted.resolvePatchStop (h : a.Noted b) : a.Noted b.resolvePatchStop := by
  unfold Blocks.resolvePatchStop; repeat' split
  all_goals simp [h]

/-! ## The E-STOP input -/

/-- The filter of the present state times the new level, and the other rests (R154). -/
@[simp] theorem Blocks.Noted.estopLevel (h : a.Noted b) (level : Bool) :
    a.Noted (b.estopLevel level) := by
  refine ⟨h.log, h.reports, fun _ => ?_⟩
  simp [Blocks.filtersLawful, Blocks.estopLevel]

/-- An assertion that was timed is no release (R154). -/
@[simp] theorem Blocks.Noted.estopRecognised (h : a.Noted b) : a.Noted b.estopRecognised := by
  unfold Blocks.estopRecognised
  split
  · next htimed =>
    have recognised : a.Noted { b with fl.estop := true, fl.assertTiming := false } := by
      refine ⟨h.log, h.reports, fun hl => ⟨nofun, fun hrelease => ?_⟩⟩
      obtain ⟨assertion, release⟩ := h.filters hl
      exact absurd (release hrelease).1 (by simp [(assertion htimed).1])
    dsimp only
    split
    · exact recognised.report _
    · exact recognised
  · exact h

/-- A release that was timed is no assertion (R154). -/
@[simp] theorem Blocks.Noted.estopReleased (h : a.Noted b) : a.Noted b.estopReleased := by
  unfold Blocks.estopReleased
  split
  · next htimed =>
    refine ⟨h.log, h.reports, fun hl => ⟨fun hassert => ?_, nofun⟩⟩
    obtain ⟨assertion, release⟩ := h.filters hl
    exact absurd (assertion hassert).1 (by simp [(release htimed).1])
  · exact h

/-! ## The events of the selectors and of the frame -/

/-- The laws ask of the inputs for the E-STOP level alone. -/
theorem Blocks.noted_pins (h : a.Noted b) {p : Pins} (hp : p.estop = b.pins.estop) :
    a.Noted { b with pins := p } := by
  refine ⟨h.log, h.reports, fun hl => ?_⟩
  unfold Blocks.filtersLawful
  rw [hp]
  exact h.filters hl

@[simp] theorem Blocks.Noted.selectorPulse (h : a.Noted b) (g : HeadId) :
    a.Noted (b.selectorPulse g) := by
  unfold Blocks.selectorPulse; repeat' split
  · exact (h.modHead g _).go _
  all_goals exact h

@[simp] theorem Blocks.Noted.selectorIndex (h : a.Noted b) (g : HeadId) (v : Bool) :
    a.Noted (b.selectorIndex g v) := by
  have level (i : Eight Bool) : a.Noted { b with pins.selIndex := i } := Blocks.noted_pins h rfl
  unfold Blocks.selectorIndex; dsimp only; split
  · exact (level _).selectorHomed g
  · exact level _

@[simp] theorem Blocks.Noted.selectorExpiry (h : a.Noted b) (g : HeadId) :
    a.Noted (b.selectorExpiry g) := by
  have timedOut (n : Nat) : a.Noted (b.moveTimedOut g n) := by
    unfold Blocks.moveTimedOut; dsimp only; split
    · exact ((h.modHead g _).report _).go _
    · exact h
  unfold Blocks.selectorExpiry; split
  · exact timedOut _
  · exact h.selectorHomingFailed g
  · exact h

@[simp] theorem Blocks.Noted.homeSeen (h : a.Noted b) (ax : Axis) : a.Noted (b.homeSeen ax) := by
  unfold Blocks.homeSeen; repeat' split
  case h_1 => exact ((h.withFc _).modHome _).homeCheck
  all_goals simp [h]

@[simp] theorem Blocks.Noted.homeSwitch (h : a.Noted b) (ax : Axis) (v : Bool) :
    a.Noted (b.homeSwitch ax v) := by
  have level : a.Noted { b with pins := b.pins.setHomeSwitch ax v } :=
    Blocks.noted_pins h (by cases ax <;> rfl)
  unfold Blocks.homeSwitch; dsimp only; split
  · exact level.homeSeen ax
  · exact level

@[simp] theorem Blocks.Noted.homingExhausted (h : a.Noted b) (ax : Axis) :
    a.Noted (b.homingExhausted ax) := by
  unfold Blocks.homingExhausted; split
  · exact ((h.withFc _).report _).homeCheck
  · exact h

@[simp] theorem Blocks.Noted.homingFaulted (h : a.Noted b) (ax : Axis) :
    a.Noted (b.homingFaulted ax) := by
  unfold Blocks.homingFaulted; split <;> simp [h]

theorem Pins.setDriveFault_estop (p : Pins) (ax : Axis) (v : Bool) :
    (p.setDriveFault ax v).estop = p.estop := by
  cases ax <;> rfl

@[simp] theorem Blocks.Noted.driveFaultOn (h : a.Noted b) (ax : Axis) :
    a.Noted (b.driveFaultOn ax) := by
  have level : a.Noted { b with pins := b.pins.setDriveFault ax true } :=
    Blocks.noted_pins h (Pins.setDriveFault_estop ..)
  have faulted := level.homingFaulted ax
  unfold Blocks.driveFaultOn; dsimp only; split
  · exact (faulted.withFc _).report _
  · exact level

@[simp] theorem Blocks.Noted.driveFaultOff (h : a.Noted b) (ax : Axis) :
    a.Noted (b.driveFaultOff ax) := by
  have level : a.Noted { b with pins := b.pins.setDriveFault ax false } :=
    Blocks.noted_pins h (Pins.setDriveFault_estop ..)
  unfold Blocks.driveFaultOff; dsimp only; split <;> exact level

@[simp] theorem Blocks.Noted.returned (h : a.Noted b) : a.Noted b.returned := by
  unfold Blocks.returned; dsimp only; split <;> simp [h]

theorem Blocks.Noted.followOn {r : Blocks × Option Phase} (h : a.Noted r.1) :
    a.Noted (Machine.followOn r) := by
  unfold Machine.followOn; split
  · exact h
  · exact h.go _

@[simp] theorem Blocks.Noted.patchArrived (h : a.Noted b) (w : PatchWork) :
    a.Noted (b.patchArrived w) := by
  unfold Blocks.patchArrived; split
  · exact (h.changePhase _ _ _).followOn
  · exact h.go _

@[simp] theorem Blocks.Noted.patchTravelled (h : a.Noted b) : a.Noted b.patchTravelled := by
  unfold Blocks.patchTravelled; split <;> simp [h]

@[simp] theorem Blocks.Noted.moveComplete (h : a.Noted b) : a.Noted b.moveComplete := by
  unfold Blocks.moveComplete
  split
  · dsimp only
    split <;> simp [h]
  · exact h

@[simp] theorem Blocks.Noted.returnStopped (h : a.Noted b) : a.Noted b.returnStopped := by
  unfold Blocks.returnStopped; split <;> simp [h]

@[simp] theorem Blocks.Noted.patchTravelStopped (h : a.Noted b) :
    a.Noted b.patchTravelStopped := by
  unfold Blocks.patchTravelStopped; split <;> simp [h]

@[simp] theorem Blocks.Noted.moveStopped (h : a.Noted b) : a.Noted b.moveStopped := by
  unfold Blocks.moveStopped
  split
  · dsimp only
    split <;> simp [h]
  · exact h

@[simp] theorem Blocks.Noted.tick (h : a.Noted b) : a.Noted b.tick := by
  unfold Blocks.tick; split <;> exact h

/-! ## The owners' answers -/

/-- A refused command notes nothing, and one that is taken what its owner does. -/
theorem Blocks.Noted.judgeWith (h : a.Noted b) (l : List (Bool × Code)) (f : Code → List Byte)
    {x : Answer} (hx : a.Noted x.1) : a.Noted (b.judgeWith l f x).1 := by
  unfold Blocks.judgeWith; split
  · exact h
  · exact hx

@[simp] theorem Blocks.Noted.runTaken (h : a.Noted b) : a.Noted b.runTaken := by
  unfold Blocks.runTaken; split <;> simp [h]

@[simp] theorem Blocks.Noted.pauseMove (h : a.Noted b) : a.Noted b.pauseMove := by
  unfold Blocks.pauseMove; split <;> simp [h]

@[simp] theorem Blocks.Noted.pauseReposition (h : a.Noted b) (w : RepoWork) :
    a.Noted (b.pauseReposition w) := by
  unfold Blocks.pauseReposition; repeat' split
  all_goals simp [h]

@[simp] theorem Blocks.Noted.pauseTaken (h : a.Noted b) : a.Noted b.pauseTaken := by
  unfold Blocks.pauseTaken; repeat' split
  all_goals simp [h]

@[simp] theorem Blocks.Noted.beginStepping (h : a.Noted b) (tag : Byte) (forward : Bool)
    (n : Nat) : a.Noted (b.beginStepping tag forward n) := by
  unfold Blocks.beginStepping
  extract_lets begun
  have hbegun : a.Noted begun := h.beginOp _ _ _
  split
  · split
    · exact hbegun.endOpBase _ _
    · next ht =>
      have htravel := hbegun.travel ht
      split
      · exact Blocks.Noted.go (htravel.withFc _) _
      · exact htravel
  · exact hbegun.go _

@[simp] theorem Blocks.Noted.watchDrives (h : a.Noted b) : a.Noted b.watchDrives := by
  unfold Blocks.watchDrives; dsimp only; split <;> simp [h]

@[simp] theorem Blocks.Noted.configure (h : a.Noted b) (c : MachineConfig) :
    a.Noted (b.configure c) := by
  refine Blocks.Noted.watchDrives (Blocks.Noted.goto ?_ _ _)
  exact Blocks.noted_ru (r := b.ru.clearFlags) h id

@[simp] theorem Blocks.Noted.writeSettings (h : a.Noted b) (x : Settings) :
    a.Noted (b.writeSettings x) :=
  (Blocks.Noted.releaseTest (b := { b with cf.settings := x }) h).heldTest

@[simp] theorem Blocks.Noted.closeIfIsolated (h : a.Noted b) (g : HeadId) :
    a.Noted (b.closeIfIsolated g) := by
  unfold Blocks.closeIfIsolated; split <;> simp [h]

@[simp] theorem Blocks.Noted.disable (h : a.Noted b) (g : HeadId) : a.Noted (b.disable g) :=
  ((h.closeIfIsolated g).modHead g _).monitorLeaves g

@[simp] theorem Blocks.Noted.leave (h : a.Noted b) (g : HeadId) : a.Noted (b.leave g) :=
  ((h.closeIfIsolated g).modHead g _).monitorLeaves g

@[simp] theorem Blocks.Noted.resetHead (h : a.Noted b) (g : HeadId) : a.Noted (b.resetHead g) :=
  Blocks.noted_ru (((h.modHead g _).modMonitor g _).setRanges _) id

@[simp] theorem Blocks.Noted.homeHead (h : a.Noted b) (tag : Byte) (g : HeadId) :
    a.Noted (b.homeHead tag g) := by
  have begun (f : Head → Head) : a.Noted ((b.beginOp tag (.hhome g) .homing).modHead g f) :=
    h.beginOp _ _ _
  unfold Blocks.homeHead; dsimp only; split
  · exact (begun _).endOpBase _ _
  · exact begun _

@[simp] theorem Blocks.Noted.beginPatch (h : a.Noted b) (tag : Byte) (w : PatchWork) :
    a.Noted (b.beginPatch tag w) := by
  unfold Blocks.beginPatch
  extract_lets begun
  have hbegun : a.Noted begun := h.beginOp _ _ _
  split
  · exact hbegun.patchEnd _ _ _
  · next ht =>
    have htravel := hbegun.travel ht
    split
    · exact htravel.patchArrived _
    · exact htravel

@[simp] theorem Blocks.Noted.beginManual (h : a.Noted b) (tag : Byte) (p : Pos) :
    a.Noted (b.beginManual tag p) := by
  have begun (fc : Fc) : a.Noted { b.beginOp tag .move .moving with fc := fc } :=
    h.beginOp _ _ _
  unfold Blocks.beginManual; dsimp only; split
  · exact (begun _).endOpBase _ _
  · exact begun _

@[simp] theorem Blocks.Noted.closeTaken (h : a.Noted b) : a.Noted b.closeTaken := by
  have emptied : a.Noted (b.setRanges (Eight.const [])).standDown.emptyStore :=
    Blocks.Noted.emptyStore (h.setRanges _)
  exact (emptied.withRc _).goto _ _

theorem Blocks.Noted.offer (rs : List RawRecord) (n : Nat) {b : Blocks} (h : a.Noted b) :
    a.Noted (b.offer rs n).1 := by
  induction rs generalizing n b with
  | nil => exact h
  | cons r rest ih =>
    have taken (r : StoredRecord) : a.Noted (b.takeRecord r) :=
      Blocks.Noted.heldTest (b := { b with ds := b.ds.take r }) h
    unfold Blocks.offer
    split
    · exact h
    · split
      · exact h
      · split
        · exact taken _
        · exact ih _ (taken _)

@[simp] theorem Blocks.Noted.designData (h : a.Noted b) (p : List Byte) :
    a.Noted (b.designData p).1 := by
  unfold Blocks.designData; dsimp only; split
  · exact h
  · split
    · exact h
    · exact h.offer _ _

/-- MASK, EVCLR, FDROP and CREL act on the report set and the log themselves (R159, R160, R179, R180);
the other owners by the operations above. -/
theorem Blocks.Noted.answer (errs : LinkFlags) (f : Frame) (h : a.Noted b) :
    a.Noted (Machine.answer errs f b).1 := by
  have judged : ∀ (l : List (Bool × Code)) (g : Code → List Byte) (x : Answer), a.Noted x.1 →
      a.Noted (b.judgeWith l g x).1 := fun l g _ => h.judgeWith l g
  unfold Machine.answer
  split
  -- a TYPE that names no command
  case h_46 => exact h
  all_goals refine judged _ _ _ ?_
  case h_8 => exact Blocks.noted_ru h fun hl => Ru.lawful_setMasks hl _ _ _
  case h_9 => exact Blocks.noted_ru h id
  case h_41 =>
    split
    · exact h.beginPatch _ _
    · exact h
  case h_43 => exact Blocks.noted_fl h (fun hl => Fl.lawful_drop hl _ _) rfl
  case h_45 => exact h
  all_goals simp [okWith, h]

/-! ## Every row -/

theorem Ru.lawful_beginSending {r : Ru} (h : r.lawful) (k : ReportKind) :
    (r.beginSending k).lawful := Ru.lawful_leave h _

theorem State.noted_beginReport {s : State} (h : a.Noted s.blk) (k : ReportKind) :
    a.Noted (s.beginReport k).blk := by
  refine Blocks.noted_ru h fun hl => ?_
  have sending : (s.blk.ru.beginSending k).lawful := Ru.lawful_beginSending hl k
  split
  · exact sending
  · exact sending

/-- Waiting conditions enter the log, which a controller reset keeps with the recognition, and the
report set is that of power-on (R166). -/
theorem Blocks.Noted.controllerReset (h : a.Noted b) : a.Noted b.controllerReset := by
  have reset : a.Noted { b.report [] with ru := Ru.reset } :=
    Blocks.noted_ru (h.report []) fun _ => Ru.lawful_reset
  unfold Blocks.controllerReset; dsimp only; split
  · exact Blocks.Noted.watchDrives reset
  · exact reset

/-- An asserted input is timed at once (R154, R167). -/
theorem State.noted_powerUp (a : Blocks) (s : State) (rate : LineRate) :
    a.Noted (s.powerUp rate).blk :=
  ⟨fun _ => ⟨Nat.zero_le 32, rfl⟩, fun _ => Ru.lawful_reset, fun _ => ⟨fun h => ⟨rfl, h⟩, nofun⟩⟩

/-- Every row of the table keeps the three laws. -/
theorem Blocks.noted_kept (a : Blocks) : Blocks.Kept a.Noted where
  answer errs f _ h := h.answer errs f
  beginReport _ k h := State.noted_beginReport h k
  headSent _ h := Blocks.noted_ru h id
  abandon _ o h := Blocks.noted_ru h fun hl => Ru.lawful_abandon hl o
  controllerReset _ h := h.controllerReset
  powerUp s rate _ := State.noted_powerUp a s rate
  tick _ h := h.tick
  estopLevel _ v h := h.estopLevel v
  estopRecognised _ h := h.estopRecognised
  estopReleased _ h := h.estopReleased
  encoderCount _ h := h.encoderCount
  countOverflow _ h := h.countOverflow
  findExhausted _ h := h.findExhausted
  stallExpiry _ h := h.stallExpiry
  indexPulse _ ns h := h.indexPulse ns
  feedPulse _ g h := h.feedPulse g
  resolveStop _ h := h.resolveStop
  resolvePatchStop _ h := h.resolvePatchStop
  selectorPulse _ g h := h.selectorPulse g
  selectorIndex _ g v h := h.selectorIndex g v
  selectorExpiry _ g h := h.selectorExpiry g
  homeSwitch _ ax v h := h.homeSwitch ax v
  homingExhausted _ ax h := h.homingExhausted ax
  driveFaultOn _ ax h := h.driveFaultOn ax
  driveFaultOff _ ax h := h.driveFaultOff ax
  moveComplete _ h := h.moveComplete
  moveStopped _ h := h.moveStopped
  lastStep _ _ h := h

end Sys2Proof.Machine

namespace Sys2Proof.Proofs

open Sys2Proof.Machine

/-- Settles O7: what a step leaves of the log, the report set and the filters meets the laws that the
state before it met. -/
theorem everyStepKeepsTheLogReportAndFilterLaws :
    Obligations.EveryStepKeepsTheLogReportAndFilterLaws := by
  have noted (s t : State) (ht : step s = .next t) : s.blk.Noted t.blk :=
    (Blocks.noted_kept s.blk).step s t (.refl _) ht
  refine ⟨fun s t h ht => ?log, fun s t h ht => ?reports, fun s t h ht => ?filters⟩
  case log => exact (noted s t ht).log h
  case reports => exact (noted s t ht).reports h
  case filters => exact (noted s t ht).filters h

end Sys2Proof.Proofs
end

section
/-!
SUPPORT. FREAD, FDROP, CREAD and CREL (R158, R159, R160): the row of each, test after test, and the
values after a power-on (R154, R167); the statements settled.
-/

namespace Sys2Proof.Machine

open Sys2Proof.Claims

/-! ## Tests that refuse -/

/-- A condition that fails exactly in a case refuses the command in that case. -/
theorem Blocks.judge_unless (b : Blocks) {c : Bool} {p : Prop} [Decidable p] (h : c = true ↔ ¬ p)
    (code : Code) (l : List (Bool × Code)) (x : Answer) :
    b.judge ((c, code) :: l) x = if p then refused b code.byte else b.judge l x := by
  rw [Blocks.judge_cons]
  exact (if_congr h rfl rfl).trans (ite_not ..)

theorem Blocks.judge_configured (b : Blocks) (l : List (Bool × Code)) (x : Answer) :
    b.judge (b.isConfigured :: l) x
      = if b.cf.lock = false then refused b 0x05#8 else b.judge l x :=
  b.judge_unless (iff_of_eq (Bool.not_eq_false _).symm) .unconfigured l x

theorem Blocks.judge_length (b : Blocks) (p : List Byte) {n : Nat} (h : p.length = n)
    (l : List (Bool × Code)) (x : Answer) : b.judge (lengthIs p n :: l) x = b.judge l x := by
  rw [lengthIs, Blocks.judge_cons, if_pos (beq_iff_eq.mpr h)]

theorem within_iff (lo hi n : Nat) : within lo hi n = true ↔ ¬ (n < lo ∨ hi < n) := by
  rw [within, decide_eq_true_iff]
  omega

/-! ## FREAD, FDROP, CREAD and CREL -/

variable (b : Blocks) (tag : Byte)

/-- FREAD tests the number of entries it asks for (R158). -/
theorem cmdFread_row (m : Byte) :
    cmdFread tag [m] b = if m.toNat < 1 ∨ 4 < m.toNat then refused b 0x03#8
      else (b, 0x00#8 :: enc8 b.fl.log.length ++ [if b.fl.overflow then 1#8 else 0#8]
        ++ enc32 b.fl.nextSeq.toNat ++ (b.fl.log.take m.toNat).flatMap Entry.bytes) := by
  unfold cmdFread
  rw [u8_zero, b.judge_length [m] (n := 1) rfl, b.judge_unless (within_iff ..), Blocks.judge_nil]
  simp only [okWith, encFlag, Code.byte, List.cons_append]

/-- The capture is shown as it stands (R160). -/
theorem cmdCread_row :
    cmdCread tag [] b = (b, match b.fl.capture with
      | some e => 0x00#8 :: 1#8 :: e.bytes
      | none => [0x00#8, 0#8]) := by
  unfold cmdCread
  rw [b.judge_length [] (n := 0) rfl, Blocks.judge_nil]
  cases b.fl.capture with
  | none => rfl
  | some e => simp [okWith, encFlag, Code.byte]

/-- The capture is emptied and so unlocked (R160). -/
theorem cmdCrel_row :
    cmdCrel tag [] b = if b.cf.lock = false then refused b 0x05#8
      else ({ b with fl.capture := none }, [0x00#8]) := by
  unfold cmdCrel
  rw [b.judge_configured, b.judge_length [] (n := 0) rfl, Blocks.judge_nil]
  rfl

theorem u32_skip8 (n : Byte) (l : List Byte) : u32 (n :: l) 1 = u32 l 0 := rfl

theorem Fl.oldest_drop (f : Fl) (n : Nat) (o : Bool) :
    encOpt 4 enc32 ({ f with log := f.log.drop n, overflow := o } : Fl).oldest
      = match f.log.drop n with
        | e :: _ => 1#8 :: enc32 e.seq.toNat
        | [] => [0#8, 0#8, 0#8, 0#8, 0#8] := by
  show encOpt 4 enc32 ((f.log.drop n).head?.map _) = _
  cases f.log.drop n <;> rfl

/-- The tests of FDROP in their order: the number, EMPTY, the number held, the sequence number of the
oldest (R159). -/
theorem cmdFdrop_row (n : Byte) {q : Nat} (hq : q < 4294967296) :
    cmdFdrop tag (n :: enc32 q) b = if b.cf.lock = false then refused b 0x05#8
      else if n.toNat < 1 ∨ 32 < n.toNat then refused b 0x03#8
      else if b.fl.log = [] then refused b 0x19#8
      else if b.fl.log.length < n.toNat then refused b 0x03#8
      else if b.fl.log.head?.map (fun e => e.seq.toNat) ≠ some q then refused b 0x04#8
      else ({ b with fl.log := b.fl.log.drop n.toNat, fl.overflow := false },
        0x00#8 :: enc8 (b.fl.log.drop n.toNat).length
          ++ (match b.fl.log.drop n.toNat with
              | e :: _ => 1#8 :: enc32 e.seq.toNat
              | [] => [0#8, 0#8, 0#8, 0#8, 0#8])) := by
  have nonempty : (!b.fl.log.isEmpty) = true ↔ ¬ b.fl.log = [] := by simp
  have held : decide (n.toNat ≤ b.fl.log.length) = true ↔ ¬ b.fl.log.length < n.toNat := by simp
  have oldest : (b.fl.oldest == some q) = true
      ↔ ¬ b.fl.log.head?.map (fun e => e.seq.toNat) ≠ some q := by simp [Fl.oldest]
  unfold cmdFdrop
  dsimp only
  rw [u8_zero, u32_skip8, u32_enc32_alone q hq, b.judge_configured,
    b.judge_length (n :: enc32 q) (n := 5) rfl, b.judge_unless (within_iff ..),
    b.judge_unless nonempty, b.judge_unless held, b.judge_unless oldest, Blocks.judge_nil,
    Fl.oldest_drop]
  rfl

end Sys2Proof.Machine

namespace Sys2Proof.Proofs

open Sys2Proof.Machine

/-- Settles O46: the rows of FREAD, CREAD, CREL and FDROP. -/
theorem theLogAndTheCaptureAreRead : Obligations.TheLogAndTheCaptureAreRead := by
  unfold Obligations.TheLogAndTheCaptureAreRead
  refine ⟨fun tag m s hfree => ⟨?fread, ?cread, ?crel⟩, fun tag n q s hfree hq => ?fdrop⟩
  case fread => exact (exec_fread _ _ _ hfree).trans (next_answered (cmdFread_row s.blk tag m))
  case cread => exact (exec_cread _ _ _ hfree).trans (next_answered (cmdCread_row s.blk tag))
  case crel => exact (exec_crel _ _ _ hfree).trans (next_answered (cmdCrel_row s.blk tag))
  case fdrop => exact (exec_fdrop _ _ _ hfree).trans (next_answered (cmdFdrop_row s.blk tag n hq))

/-- Settles O8: the blocks that a power-on writes, and READY before and after the part is ready. -/
theorem powerOnReturnsEveryBlock : Obligations.PowerOnReturnsEveryBlock := by
  unfold Obligations.PowerOnReturnsEveryBlock
  intro rate s
  have ready : exec (.powerOn rate) s = .next (s.powerUp rate).becomeReady := rfl
  exact ⟨ready, ready, rfl, rfl⟩

end Sys2Proof.Proofs
end

section
/-!
SUPPORT. What every step keeps of the Panel Link (R167, R169, R171, R172), row by row: the bounds of the
slots, the reply queue and the receiver, and that the decoder goes on until it may take no more; the
statement settled.
-/

namespace Sys2Proof.Machine

/-! ## The law and its bounds -/

/-- The bounds of the link, which hold between the frames of one decoding too (R167, R169, R171, R172). -/
structure Pl.Bounded (p : Pl) : Prop where
  awake : p.makingReady = false
  slots : p.slots.length ≤ 4
  replies : p.replies.length ≤ 4
  receiver : p.rx.wf = true

theorem Pl.ready_of_awake {p : Pl} (h : p.makingReady = false) :
    p.ready = decide (p.slots.length < 4) := by
  rw [Pl.ready, h]
  rfl

theorem Pl.mayTake_iff (p : Pl) :
    p.mayTake = true ↔ p.replies.length < 4 ∧ p.rstTaken = false := by
  rw [Pl.mayTake, Bool.and_eq_true, decide_eq_true_iff, Bool.not_eq_true', Config.linkPlaces]

theorem Pl.Bounded.waits_iff {p : Pl} (h : p.Bounded) :
    p.mayTake = false ↔ p.replies.length = 4 ∨ p.rstTaken = true := by
  have full : ¬ p.replies.length < 4 ↔ p.replies.length = 4 := by
    have := h.replies
    omega
  rw [← Bool.not_eq_true, Pl.mayTake_iff, not_and_or, full, Bool.not_eq_false]

/-- The law of the link is its bounds, and that the decoder may not take what is held. -/
theorem Pl.lawful_iff (p : Pl) :
    p.lawful ↔ p.Bounded ∧ (p.slots ≠ [] → p.mayTake = false) := by
  constructor
  · rintro ⟨awake, slots, -, replies, waits, receiver⟩
    have bounded : p.Bounded := ⟨awake, slots, replies, receiver⟩
    exact ⟨bounded, fun held => bounded.waits_iff.mpr (waits held)⟩
  · rintro ⟨bounded, waits⟩
    exact ⟨bounded.awake, bounded.slots, Pl.ready_of_awake bounded.awake, bounded.replies,
      fun held => bounded.waits_iff.mp (waits held), bounded.receiver⟩

theorem Pl.lawful.bounded {p : Pl} (h : p.lawful) : p.Bounded := (p.lawful_iff.mp h).1

/-- With no frame held, the bounds are the law. -/
theorem Pl.Bounded.lawful_empty {p : Pl} (h : p.Bounded) (hs : p.slots = []) : p.lawful :=
  p.lawful_iff.mpr ⟨h, fun held => absurd hs held⟩

/-- The law speaks of the receiver only by `Receiver.wf` (R169). -/
theorem Pl.lawful.setRx {p : Pl} (h : p.lawful) {r : Receiver} (hr : r.wf = true) :
    ({ p with rx := r } : Pl).lawful := by
  obtain ⟨awake, slots, ready, replies, waits, -⟩ := h
  exact ⟨awake, slots, ready, replies, waits, hr⟩

/-! ## The decoder -/

/-- A frame taken adds one reply and no frame (R172). -/
theorem State.takeFrame_bounded (f : Frame) {s : State} (h : s.pl.Bounded)
    (room : s.pl.mayTake = true) : (s.takeFrame f).pl.Bounded := by
  obtain ⟨awake, slots, -, receiver⟩ := h
  have free := (s.pl.mayTake_iff.mp room).1
  refine ⟨awake, slots, ?_, receiver⟩
  simp only [State.takeFrame, List.length_append, List.length_singleton]
  omega

/-- With a turn for each frame held, the decoder ends with none that it may take (R172). -/
theorem State.drain_lawful (n : Nat) (s : State) (h : s.pl.Bounded) (turns : s.pl.slots.length ≤ n) :
    (s.drain n).pl.lawful := by
  induction n generalizing s with
  | zero => exact h.lawful_empty (List.eq_nil_of_length_eq_zero (Nat.le_zero.mp turns))
  | succ n ih =>
    unfold State.drain
    split
    · next empty => exact h.lawful_empty empty
    · next f rest held =>
      have shorter : rest.length ≤ n := by
        rw [held, List.length_cons] at turns
        omega
      have bounded : ({ s.pl with slots := rest } : Pl).Bounded := by
        refine ⟨h.awake, ?_, h.replies, h.receiver⟩
        have slots := h.slots
        rw [held, List.length_cons] at slots
        exact Nat.le_of_succ_le slots
      split
      · next room => exact ih _ (State.takeFrame_bounded f bounded room) shorter
      · next full => exact s.pl.lawful_iff.mpr ⟨h, fun _ => Bool.eq_false_iff.mpr full⟩

theorem State.decode_lawful {s : State} (h : s.pl.Bounded) : s.decode.pl.lawful :=
  State.drain_lawful _ s h le_rfl

/-! ## Arrival and receive errors -/

/-- An error frame takes a place of the reply queue only where there is one (R170, R172). -/
theorem Pl.linkError_replies (p : Pl) (e : LinkError) (tag : Byte) :
    p.replies.length ≤ (p.linkError e tag).replies.length
      ∧ (p.replies.length ≤ 4 → (p.linkError e tag).replies.length ≤ 4) := by
  unfold Pl.linkError
  dsimp only
  split
  · next room =>
    rw [Config.linkPlaces] at room
    rw [List.length_append, List.length_singleton]
    omega
  · exact ⟨le_rfl, id⟩

theorem Pl.lawful.linkError {p : Pl} (h : p.lawful) (e : LinkError) (tag : Byte) :
    (p.linkError e tag).lawful := by
  obtain ⟨⟨awake, slots, replies, receiver⟩, waits⟩ := p.lawful_iff.mp h
  obtain ⟨grows, bound⟩ := p.linkError_replies e tag
  refine (Pl.lawful_iff _).mpr ⟨⟨awake, slots, bound replies, receiver⟩, fun held => ?_⟩
  have before : ¬ (p.replies.length < 4 ∧ p.rstTaken = false) := by
    rw [← Pl.mayTake_iff, waits held]
    exact Bool.false_ne_true
  rw [← Bool.not_eq_true, Pl.mayTake_iff]
  exact fun ⟨room, noRst⟩ => before ⟨lt_of_le_of_lt grows room, noRst⟩

theorem State.receiveError_lawful {s : State} (h : s.pl.lawful) (e : LinkError) (tag : Byte) :
    (s.receiveError e tag).pl.lawful :=
  (h.setRx (r := .hunt) rfl).linkError e tag

/-- A frame takes a slot that is free and is decoded, or is lost to OVERRUN (R171). -/
theorem arrive_lawful (f : Frame) {s : State} (h : s.pl.lawful) : (arrive f s).pl.lawful := by
  unfold arrive
  split
  · next free =>
    refine State.decode_lawful ⟨h.bounded.awake, ?_, h.bounded.replies, h.bounded.receiver⟩
    rw [List.length_append, List.length_singleton]
    exact Nat.succ_le_of_lt free
  · exact h.linkError _ _

theorem State.judgeFrame_lawful {s : State} (h : s.pl.lawful) (len type tag : Byte)
    (payload : List Byte) (low high : Byte) :
    (s.judgeFrame len type tag payload low high).pl.lawful := by
  unfold State.judgeFrame
  split
  · exact arrive_lawful _ (h.setRx rfl)
  · exact State.receiveError_lawful h _ _

/-! ## The receiver -/

/-- A payload byte that is not the last leaves room for another (R169). -/
theorem Receiver.wf_payload_snoc {len type tag b : Byte} {got : List Byte}
    (h : (Receiver.payload len type tag got).wf = true) (more : got.length + 1 ≠ len.toNat) :
    (Receiver.payload len type tag (got ++ [b])).wf = true := by
  simp only [Receiver.wf, Bool.and_eq_true, decide_eq_true_eq, List.length_append,
    List.length_singleton] at h ⊢
  omega

/-- The last payload byte leads to the CRC bytes (R169). -/
theorem Receiver.wf_payload_last {len type tag b : Byte} {got : List Byte}
    (h : (Receiver.payload len type tag got).wf = true) (last : got.length + 1 = len.toNat) :
    (Receiver.crc len type tag (got ++ [b]) none).wf = true := by
  simp only [Receiver.wf, Bool.and_eq_true, decide_eq_true_eq, beq_iff_eq, List.length_append,
    List.length_singleton] at h ⊢
  exact ⟨h.1, last⟩

/-- The TAG byte leads to the payload, or to the CRC bytes where there is none (R169). -/
theorem Receiver.wf_tag {len type tag : Byte} {more : List Byte}
    (h : (Receiver.header (len :: type :: more)).wf = true) :
    (if len = 0#8 then Receiver.crc len type tag [] none
      else .payload len type tag []).wf = true := by
  cases more with
  | cons _ _ => exact absurd h Bool.false_ne_true
  | nil =>
    have short : len.toNat ≤ 248 := of_decide_eq_true h
    split
    · next zero =>
      subst zero
      rfl
    · next nonzero =>
      have positive : 0 < len.toNat := by
        rw [Nat.pos_iff_ne_zero]
        exact fun h0 => nonzero (BitVec.eq_of_toNat_eq h0)
      simp [Receiver.wf, short, positive]

/-- A good byte, by what the receiver holds (R169). -/
theorem State.goodByte_lawful {s : State} (h : s.pl.lawful) (b : Byte) :
    (s.goodByte b).pl.lawful := by
  have wf := h.bounded.receiver
  unfold State.goodByte
  split <;> rename_i held <;> rw [held] at wf
  case h_1 =>
    split
    · exact h.setRx rfl
    · exact h
  case h_2 =>
    split
    · exact State.receiveError_lawful h _ _
    · next short => exact h.setRx (decide_eq_true (Nat.le_of_not_lt short))
  case h_3 => exact h.setRx wf
  case h_4 => exact h.setRx (Receiver.wf_tag wf)
  case h_5 =>
    refine h.setRx ?_
    split
    · next last => exact Receiver.wf_payload_last wf last
    · next more => exact Receiver.wf_payload_snoc wf more
  case h_6 => exact h.setRx wf
  case h_7 => exact State.judgeFrame_lawful h _ _ _ _ _ _

theorem State.receive_lawful {s : State} (h : s.pl.lawful) (b : Byte) (framingError : Bool) :
    (s.receive b framingError).pl.lawful := by
  unfold State.receive
  split
  · exact h
  · split
    · split
      · exact h
      · exact State.receiveError_lawful h _ _
    · exact State.goodByte_lawful h b

theorem State.gap_lawful {s : State} (h : s.pl.lawful) : s.gap.pl.lawful := by
  unfold State.gap
  split
  · exact h
  · exact State.receiveError_lawful h _ _

/-! ## The transmitter and the resets -/

/-- A queued frame that leaves frees its place, and the decoder goes on (R172, R173). -/
theorem State.sendStart_lawful {s : State} (h : s.pl.lawful) : s.sendStart.pl.lawful := by
  unfold State.sendStart
  split
  · exact h
  · split
    · next o rest queue =>
      refine State.decode_lawful ⟨h.bounded.awake, h.bounded.slots, ?_, h.bounded.receiver⟩
      have replies := h.bounded.replies
      rw [queue, List.length_cons] at replies
      exact Nat.le_of_succ_le replies
    · split
      · exact h
      · exact h

/-- A controller reset leaves a link with nothing held (R175). -/
theorem Pl.controllerReset_lawful (p : Pl) : p.controllerReset.lawful :=
  Pl.Bounded.lawful_empty ⟨rfl, Nat.zero_le 4, Nat.zero_le 4, rfl⟩ rfl

theorem State.sent_lawful {s : State} (h : s.pl.lawful) : s.sent.pl.lawful := by
  unfold State.sent
  split
  · exact h
  · dsimp only
    split
    · exact Pl.controllerReset_lawful _
    · exact h
    · exact h

/-- A link reset leaves nothing held (R174). -/
theorem State.linkReset_lawful {s : State} (h : s.pl.lawful) : s.linkReset.pl.lawful := by
  unfold State.linkReset
  dsimp only
  split
  · exact Pl.controllerReset_lawful _
  · exact Pl.Bounded.lawful_empty ⟨h.bounded.awake, Nat.zero_le 4, Nat.zero_le 4, rfl⟩ rfl

theorem State.powerOn_lawful (s : State) (rate : LineRate) : (s.powerOn rate).pl.lawful :=
  Pl.Bounded.lawful_empty ⟨rfl, Nat.zero_le 4, Nat.zero_le 4, rfl⟩ rfl

/-! ## Every row -/

/-- Every row keeps the law of the link: a command frame by its arrival, the rows of the line by what
they do to the link, and every other event since it leaves the link as it is. -/
theorem exec_keeps_linkLaw (i : Instr) (s t : State) (h : s.pl.lawful)
    (ht : exec i s = .next t) : t.pl.lawful := by
  cases i <;> cases ht
  case powerOn rate => exact s.powerOn_lawful rate
  case lrxByte => exact State.receive_lawful h _ _
  case gapTimeout => exact State.gap_lawful h
  case linkBreak => exact State.linkReset_lawful h
  case sendStart => exact State.sendStart_lawful h
  case transmitComplete => exact State.sent_lawful h
  case lrxReturnedHigh => exact h
  case estopInputChange | estopRecognised | estopReleaseRecognised | encoderCount
    | angleCountOverflow | findCountsExhausted | stallTimerExpiry | indexPulse | threadFeedPulse
    | stopResolution | patchStopResolution | selectorPulse | selectorIndex | selectorTimeout
    | homeSwitch | homingDistanceExhausted | driveFaultAssert | driveFaultRelease
    | frameMoveComplete | frameMoveStopped | axisLastStepIssued => exact h
  all_goals exact arrive_lawful _ h

end Sys2Proof.Machine

namespace Sys2Proof.Proofs

open Sys2Proof.Machine

/-- Settles O5: the row of the command at the front keeps the law, and the passing of time leaves the
link as it is. -/
theorem everyStepKeepsTheLinkLaw : Obligations.EveryStepKeepsTheLinkLaw := by
  intro s t h ht
  unfold step at ht
  split at ht
  · cases ht
    exact h
  · next c rest _ => exact exec_keeps_linkLaw c { s with pending := rest } t h ht

end Sys2Proof.Proofs
end

section
/-!
SUPPORT. The answers UNCONFIGURED and UNKNOWN (R167, R172, R183): a command frame is one arrival at the
link, the owners that test the lock first, and a TYPE of no command; the statement settled.
-/

namespace Sys2Proof.Machine

open Sys2Proof.Claims

/-! ## The row of a frame -/

/-- The row of a command is the arrival of its frame (R171; log 6). -/
theorem exec_eq_hostFrame {i : Instr} {f : Frame} (hf : frameOf i = some f) (s : State) :
    exec i s = hostFrame f.type f.tag f.payload s := by
  cases i <;> cases hf <;> rfl

/-! ## Before configuration -/

/-- The commands that the part answers before it is configured (R167). -/
def unlockedTypes : List Byte :=
  [0x01#8, 0x08#8, 0x14#8, 0x02#8, 0x40#8, 0x42#8, 0x0A#8, 0x05#8]

/-- A command whose first test is the lock is refused with UNCONFIGURED (R167, R183). -/
theorem Blocks.judgeWith_unconfigured {b : Blocks} (hlock : b.cf.lock = false)
    (l : List (Bool × Code)) (g : Code → List Byte) (a : Answer) :
    b.judgeWith (b.isConfigured :: l) g a = (b, 0x05#8 :: g .unconfigured) := by
  rw [Blocks.isConfigured, Blocks.judgeWith_cons, if_neg (by simp [hlock])]
  rfl

/-- Every owner but those of `unlockedTypes` tests the lock first (R167). -/
theorem answer_unconfigured (errs : LinkFlags) {f : Frame} {b : Blocks}
    (hcommand : f.type ∈ commandTypes) (hlocked : f.type ∉ unlockedTypes)
    (hlock : b.cf.lock = false) : ∃ rest, answer errs f b = (b, 0x05#8 :: rest) := by
  obtain ⟨type, tag, p⟩ := f
  have htype : type ∈ commandTypes.filter (· ∉ unlockedTypes) :=
    List.mem_filter.mpr ⟨hcommand, decide_eq_true hlocked⟩
  clear hcommand hlocked
  fin_cases htype
  all_goals exact ⟨_, Blocks.judgeWith_unconfigured hlock _ _ _⟩

/-! ## No command -/

theorem ne_of_typeUnknown {type c : Byte} (h : typeUnknown type = true) (hc : c ∈ commandTypes) :
    type ≠ c := by
  rintro rfl
  simp [typeUnknown, hc] at h

/-- A TYPE that names no command is the decoder's own to answer (R172). -/
theorem answer_unknown (errs : LinkFlags) {f : Frame} (b : Blocks)
    (h : typeUnknown f.type = true) : answer errs f b = (b, [0x01#8]) := by
  have other (n : Nat) (hn : BitVec.ofNat 8 n ∈ commandTypes) : f.type.toNat ≠ n := by
    rintro rfl
    exact ne_of_typeUnknown h hn (by simp)
  have own : commandOf f = .unknownType f.type f.tag f.payload := by
    unfold commandOf
    split
    case h_46 => rfl
    all_goals next named => exact absurd named (other _ (by decide))
  rw [answer, own]
  rfl

end Sys2Proof.Machine

namespace Sys2Proof.Proofs

open Sys2Proof.Machine Sys2Proof.Claims

/-- Settles O15: the owner's test of the lock comes first, and a TYPE without an owner is answered by the
decoder. -/
theorem unconfiguredAndUnknownAreAnswered : Obligations.UnconfiguredAndUnknownAreAnswered := by
  unfold Obligations.UnconfiguredAndUnknownAreAnswered
  refine ⟨fun i f s hf hcommand hlocked hfree hlock => ?unconfigured,
    fun type tag p s hfree hunknown => ?unknown⟩
  case unconfigured =>
    obtain ⟨rest, refusal⟩ := answer_unconfigured s.pl.errs hcommand hlocked hlock
    have noRst : f.type ≠ 0x05#8 := fun h => hlocked (by simp [h])
    have noStat : f.type ≠ 0x08#8 := fun h => hlocked (by simp [h])
    exact ⟨rest, (exec_eq_hostFrame hf s).trans
      ((hostFrame_free _ _ _ s hfree noRst noStat).trans (next_answered refusal))⟩
  case unknown =>
    have noRst := ne_of_typeUnknown hunknown (c := 0x05#8) (by decide)
    have noStat := ne_of_typeUnknown hunknown (c := 0x08#8) (by decide)
    exact (hostFrame_free type tag p s hfree noRst noStat).trans
      (next_answered (answer_unknown s.pl.errs s.blk hunknown))

end Sys2Proof.Proofs
end

section
/-!
SUPPORT. The link reset that a break makes (R174), with what becomes of the frame in sending (R173, R178)
and the controller reset of an RST taken (R166); the statement settled.
-/

namespace Sys2Proof.Machine

open Sys2Proof.Claims

/-- The link after a break: nothing is held, and LRX is low (R174). -/
def Pl.broken (p : Pl) : Pl :=
  { p with rx := .hunt, lineLow := true, slots := [], replies := [], tx := none }

/-! ## The frame in sending -/

theorem Ru.abandon_head (r : Ru) (f : Frame) :
    r.abandon (some ⟨f, .report .head⟩) = r.unmarkAll := rfl

theorem Ru.abandon_report (r : Ru) (f : Frame) {k : ReportKind} (hk : k ≠ .head) :
    r.abandon (some ⟨f, .report k⟩) = r.pendAgain k := by
  cases k with
  | head => exact absurd rfl hk
  | fault | state | opdone | color | load => rfl

/-- A reply or a LINK_ERROR frame that is abandoned leaves nothing behind (R173). -/
theorem Ru.abandon_other (r : Ru) {o : Option Outbound} (h : ∀ f k, o ≠ some ⟨f, .report k⟩) :
    r.abandon o = r := by
  unfold Ru.abandon
  split
  · next f => exact absurd rfl (h f .head)
  · next f k _ => exact absurd rfl (h f k)
  · rfl

/-! ## The link reset -/

theorem State.linkReset_alone {s : State} (hrst : s.pl.rstTaken = false) :
    s.linkReset = { s with pl := s.pl.broken, blk.ru := s.blk.ru.abandon s.pl.tx } := by
  unfold State.linkReset
  rw [hrst]
  rfl

/-- An RST taken takes effect with the link reset; the report set that the abandoned frame leaves is
replaced with every other block (R166). -/
theorem State.linkReset_rst {s : State} (hrst : s.pl.rstTaken = true)
    (hidle : s.blk.fl.waiting = []) (hquiet : drivesQuiet s.blk) :
    s.linkReset = { s with pl := resetLink s.pl true, blk := resetBlocks s.blk } := by
  have blocks : ({ s.blk with ru := s.blk.ru.abandon s.pl.tx } : Blocks).controllerReset
      = resetBlocks s.blk := Blocks.controllerReset_quiet hidle hquiet
  rw [← blocks]
  unfold State.linkReset
  rw [hrst]
  rfl

/-- While the line is low after a break no byte is assembled (R174). -/
theorem State.receive_low {s : State} (hlow : s.pl.lineLow = true) (b : Byte) (e : Bool) :
    s.receive b e = s := by
  rw [State.receive, if_pos hlow]

end Sys2Proof.Machine

namespace Sys2Proof.Proofs

open Sys2Proof.Machine

/-- Settles O18: the link reset by the frame it abandons, with the controller reset of an RST taken, and
the bytes of a low line. -/
theorem aBreakMakesALinkReset : Obligations.ABreakMakesALinkReset := by
  unfold Obligations.ABreakMakesALinkReset
  refine ⟨fun s hrst => ⟨fun k f hk htx => ?report, fun f htx => ?head, fun hother => ?other,
    fun awake => ?ready⟩, fun s hrst hidle hquiet => ?rst, fun s b e => ⟨fun hlow => ?low, rfl⟩⟩
  case report =>
    refine congrArg Host.Outcome.next ((State.linkReset_alone hrst).trans ?_)
    rw [htx, Ru.abandon_report _ f hk]
    rfl
  case head =>
    refine congrArg Host.Outcome.next ((State.linkReset_alone hrst).trans ?_)
    rw [htx, Ru.abandon_head]
    rfl
  case other =>
    refine congrArg Host.Outcome.next ((State.linkReset_alone hrst).trans ?_)
    rw [Ru.abandon_other _ hother]
    rfl
  case ready => exact Pl.ready_of_awake (p := s.pl.broken) awake
  case rst => exact congrArg Host.Outcome.next (State.linkReset_rst hrst hidle hquiet)
  case low => exact congrArg Host.Outcome.next (State.receive_low hlow b e)

end Sys2Proof.Proofs
end

section
/-!
SUPPORT. The receiver of the Panel Link (R169, R170): what each byte does by what the receiver holds, the
receive errors with their flags and frames, and the bytes of a command's frame from start byte to CRC;
the statements settled.
-/

namespace Sys2Proof.Machine

open Sys2Proof.Claims

variable {s : State} {b len type tag : Byte} {got : List Byte}

/-! ## A byte without a framing error -/

theorem exec_goodByte (hlow : s.pl.lineLow = false) (b : Byte) :
    exec (.lrxByte b false) s = .next (s.goodByte b) := by
  show Host.Outcome.next (s.receive b false) = _
  rw [State.receive, hlow]
  rfl

theorem State.goodByte_hunt (h : s.pl.rx = .hunt) :
    s.goodByte b = if b = 0xA5#8 then { s with pl.rx := .header [] } else s := by
  rw [State.goodByte, h]

theorem State.goodByte_long (h : s.pl.rx = .header []) (hb : 248 < b.toNat) :
    s.goodByte b = s.receiveError .length 0#8 := by
  rw [State.goodByte, h]
  exact if_pos hb

theorem State.goodByte_len (h : s.pl.rx = .header []) (hb : b.toNat ≤ 248) :
    s.goodByte b = { s with pl.rx := .header [b] } := by
  rw [State.goodByte, h]
  exact if_neg (Nat.not_lt.mpr hb)

theorem State.goodByte_type (h : s.pl.rx = .header [len]) :
    s.goodByte b = { s with pl.rx := .header [len, b] } := by
  rw [State.goodByte, h]

theorem State.goodByte_tag (h : s.pl.rx = .header [len, type]) :
    s.goodByte b = { s with
      pl.rx := if len = 0#8 then .crc len type b [] none else .payload len type b [] } := by
  rw [State.goodByte, h]

theorem State.goodByte_payload (h : s.pl.rx = .payload len type tag got) :
    s.goodByte b = { s with
      pl.rx := if got.length + 1 = len.toNat then .crc len type tag (got ++ [b]) none
        else .payload len type tag (got ++ [b]) } := by
  rw [State.goodByte, h]

theorem State.goodByte_crcLow (h : s.pl.rx = .crc len type tag got none) :
    s.goodByte b = { s with pl.rx := .crc len type tag got (some b) } := by
  rw [State.goodByte, h]

theorem State.goodByte_crcHigh {low : Byte} (h : s.pl.rx = .crc len type tag got (some low)) :
    s.goodByte b = s.judgeFrame len type tag got low b := by
  rw [State.goodByte, h]

/-! ## Receive errors -/

/-- An error sets its flag, and its frame joins the queue where there is a place (R170, R172). -/
theorem Pl.linkError_eq (p : Pl) (e : LinkError) (tag : Byte) :
    p.linkError e tag
      = { p with errs := p.errs.set e, replies := queued p.replies e.byte tag } := rfl

/-- A framing error inside a frame ends it (R170). -/
theorem exec_framingError (hlow : s.pl.lineLow = false) (htag : s.pl.rx.tagSoFar = some tag)
    (b : Byte) : exec (.lrxByte b true) s = .next (s.receiveError .framing tag) := by
  show Host.Outcome.next (s.receive b true) = _
  rw [State.receive, hlow, htag]
  rfl

/-- A gap inside a frame ends it (R170). -/
theorem exec_gapTimeout (htag : s.pl.rx.tagSoFar = some tag) :
    exec .gapTimeout s = .next (s.receiveError .gap tag) := by
  show Host.Outcome.next s.gap = _
  rw [State.gap, htag]

/-- In HUNT there is no frame to end (R170). -/
theorem exec_errors_hunt (hlow : s.pl.lineLow = false) (h : s.pl.rx = .hunt) (b : Byte) :
    exec (.lrxByte b true) s = .next s ∧ exec .gapTimeout s = .next s := by
  have none : s.pl.rx.tagSoFar = none := by rw [h]; rfl
  constructor
  · show Host.Outcome.next (s.receive b true) = _
    rw [State.receive, hlow, none]
    rfl
  · show Host.Outcome.next s.gap = _
    rw [State.gap, none]

/-- A frame whose CRC is not that of its bytes is dropped (R169, R170). -/
theorem State.judgeFrame_bad {low high : Byte}
    (h : crc16 (len :: type :: tag :: got) ≠ high ++ low) :
    s.judgeFrame len type tag got low high = s.receiveError .crc tag :=
  if_neg h

/-- A frame with the right CRC arrives (R169, R171). -/
theorem State.judgeFrame_good {low high : Byte}
    (h : crc16 (len :: type :: tag :: got) = high ++ low) :
    s.judgeFrame len type tag got low high
      = arrive ⟨type, tag, got⟩ { s with pl.rx := .hunt } :=
  if_pos h

/-! ## The bytes of a frame -/

theorem bytesIn_cons {t : State} (rest : List Byte) (hlow : s.pl.lineLow = false)
    (h : s.goodByte b = t) : bytesIn (b :: rest) s = bytesIn rest t := by
  rw [bytesIn, exec_goodByte hlow, h]

/-- The payload that a frame still lacks, byte by byte, leads to the CRC bytes (R169). -/
theorem bytesIn_payload (rest : List Byte) (more : List Byte) (hmore : more ≠ [])
    (hlow : s.pl.lineLow = false) (h : s.pl.rx = .payload len type tag got)
    (hlen : got.length + more.length = len.toNat) :
    bytesIn (more ++ rest) s
      = bytesIn rest { s with pl.rx := .crc len type tag (got ++ more) none } := by
  induction more generalizing s got with
  | nil => exact absurd rfl hmore
  | cons b more ih =>
    rw [List.length_cons] at hlen
    refine Eq.trans (bytesIn_cons _ hlow (State.goodByte_payload h)) ?_
    cases more with
    | nil =>
      rw [if_pos (by simpa using hlen)]
      rfl
    | cons c more =>
      rw [List.length_cons] at hlen
      rw [if_neg (by omega), List.append_cons got b (c :: more)]
      refine ih (List.cons_ne_nil c more) hlow rfl ?_
      simp only [List.length_append, List.length_cons, List.length_nil]
      omega

/-- TAG and payload lead to the CRC bytes, also where the payload is empty (R169). -/
theorem bytesIn_tag (rest payload : List Byte) (hlow : s.pl.lineLow = false)
    (h : s.pl.rx = .header [len, type]) (hlen : payload.length = len.toNat) :
    bytesIn (tag :: payload ++ rest) s
      = bytesIn rest { s with pl.rx := .crc len type tag payload none } := by
  refine Eq.trans (bytesIn_cons _ hlow (State.goodByte_tag h)) ?_
  cases payload with
  | nil =>
    have zero : len = 0#8 := BitVec.eq_of_toNat_eq hlen.symm
    rw [if_pos zero]
    rfl
  | cons b payload =>
    have nonzero : len ≠ 0#8 := by
      rintro rfl
      simp at hlen
    rw [if_neg nonzero]
    refine Eq.trans (bytesIn_payload (got := []) rest (b :: payload) (List.cons_ne_nil _ _) ?_ rfl
      ((Nat.zero_add _).trans hlen)) rfl
    exact hlow

/-- The two bytes of a CRC on the line, put together again (R169, R183). -/
theorem crc_bytes (c : BitVec 16) :
    BitVec.ofNat 8 (c.toNat / 256) ++ BitVec.ofNat 8 c.toNat = c := by
  apply BitVec.eq_of_toNat_eq
  rw [BitVec.toNat_append, BitVec.toNat_ofNat, BitVec.toNat_ofNat,
    ← Nat.shiftLeft_add_eq_or_of_lt (by omega), Nat.shiftLeft_eq]
  omega

/-- The CRC bytes of a frame make it arrive (R169, R171). -/
theorem bytesIn_crc (hlow : s.pl.lineLow = false)
    (h : s.pl.rx = .crc len type tag got none) :
    bytesIn (enc16 (crc16 (len :: type :: tag :: got)).toNat) s
      = .next (arrive ⟨type, tag, got⟩ { s with pl.rx := .hunt }) := by
  refine Eq.trans (bytesIn_cons _ hlow (State.goodByte_crcLow h)) ?_
  refine Eq.trans (bytesIn_cons _ hlow (State.goodByte_crcHigh rfl)) ?_
  rw [State.judgeFrame_good (crc_bytes _).symm]
  rfl

/-- The bytes of a frame that a receiver in HUNT takes are its arrival (R169, R171). -/
theorem bytesIn_frameWire (f : Frame) (hlen : f.payload.length ≤ 248)
    (hlow : s.pl.lineLow = false) (h : s.pl.rx = .hunt) :
    bytesIn (frameWire f) s = .next (arrive f s) := by
  obtain ⟨type, tag, payload⟩ := f
  have len : (BitVec.ofNat 8 payload.length : Byte).toNat = payload.length :=
    BitVec.toNat_ofNat .. |>.trans (Nat.mod_eq_of_lt (Nat.lt_of_le_of_lt hlen (by decide)))
  have hunting : { s with pl.rx := .hunt } = s := by rw [← h]
  refine Eq.trans (bytesIn_cons _ hlow ((State.goodByte_hunt h).trans (if_pos rfl))) ?_
  refine Eq.trans (bytesIn_cons _ hlow (State.goodByte_len rfl (len.trans_le hlen))) ?_
  refine Eq.trans (bytesIn_cons _ hlow (State.goodByte_type rfl)) ?_
  refine Eq.trans (bytesIn_tag _ _ hlow rfl len.symm) ?_
  refine Eq.trans (bytesIn_crc hlow rfl) ?_
  rw [hunting]

/-- A command that the part can be given has a payload that the receiver takes (R169). -/
theorem payload_of_wellFormed {i : Instr} {f : Frame} (hi : i.WellFormed = true)
    (hf : frameOf i = some f) : f.payload.length ≤ 248 := by
  cases i <;> cases hf
  case unknownType => exact of_decide_eq_true (Bool.and_eq_true_iff.mp hi).2
  all_goals exact of_decide_eq_true hi

end Sys2Proof.Machine

namespace Sys2Proof.Proofs

open Sys2Proof.Machine Sys2Proof.Claims

/-- Settles O11: each byte by what the receiver holds when it comes. -/
theorem receiverTakesBytesByItsState : Obligations.ReceiverTakesBytesByItsState := by
  intro s b hlow
  rw [exec_goodByte hlow]
  refine ⟨fun h => ?hunt, fun h hb => ?len, fun len h => ?type, fun type h => ?tagEmpty,
    fun len type h hlen => ?tag, fun len type tag got h hmore => ?payload,
    fun len type tag got h hlast => ?last, fun len type tag got h => ?crc⟩
  case hunt => rw [State.goodByte_hunt h]
  case len => rw [State.goodByte_len h hb]
  case type => rw [State.goodByte_type h]
  case tagEmpty => rw [State.goodByte_tag h, if_pos rfl]
  case tag => rw [State.goodByte_tag h, if_neg hlen]
  case payload => rw [State.goodByte_payload h, if_neg (Nat.ne_of_lt hmore)]
  case last => rw [State.goodByte_payload h, if_pos hlast]
  case crc => rw [State.goodByte_crcLow h]

/-- Settles O12: a LEN that is too long and a wrong CRC by the byte that shows them, a framing error and
a gap by the TAG received so far. -/
theorem receiveErrorsAreFlaggedAndQueued : Obligations.ReceiveErrorsAreFlaggedAndQueued := by
  intro s b hlow
  have inFrame (tag : Byte) (htag : s.pl.rx.tagSoFar = some tag) :
      exec (.lrxByte b true) s = .next (s.receiveError .framing tag)
        ∧ exec .gapTimeout s = .next (s.receiveError .gap tag) :=
    ⟨exec_framingError hlow htag b, exec_gapTimeout htag⟩
  refine ⟨fun h hb => ?length, fun got h => inFrame 0#8 (by rw [h]; rfl),
    fun len type tag got h => inFrame tag (by rw [h]; rfl),
    fun len type tag got low h => inFrame tag (by rw [h]; rfl),
    fun len type tag got low h hcrc => ?crc, fun h => exec_errors_hunt hlow h b⟩
  case length =>
    rw [exec_goodByte hlow, State.goodByte_long h hb]
    rfl
  case crc =>
    rw [exec_goodByte hlow, State.goodByte_crcHigh h, State.judgeFrame_bad hcrc]
    rfl

/-- Settles O9: the bytes make the frame arrive, and so does the command's row. -/
theorem bytesOfACommandDoItsRow : Obligations.BytesOfACommandDoItsRow := by
  intro i f s hi hf hrx hlow
  rw [exec_eq_hostFrame hf]
  exact bytesIn_frameWire f (payload_of_wellFormed hi hf) hlow hrx

end Sys2Proof.Proofs
end

section
/-!
SUPPORT. Frames and the decoder (R171, R172, R183): the command a frame names and the frame of a command,
a frame that waits or is lost, and a command that is refused; the statements settled.
-/

namespace Sys2Proof.Machine

open Sys2Proof.Claims

/-! ## The command of a frame -/

/-- The TYPE of a command's frame names the command, and a TYPE without an owner is UNKNOWN_TYPE's
(12.2, R172). -/
theorem commandOf_frameOf {i : Instr} {f : Frame} (hi : i.WellFormed = true)
    (hf : frameOf i = some f) : commandOf f = i := by
  cases i <;> cases hf
  case unknownType type tag payload =>
    exact Laws.FrameCode.unknownType type tag payload hi _ rfl
  all_goals rfl

/-- Every frame is that of the command it names (12.2). -/
theorem frameOf_commandOf (f : Frame) : frameOf (commandOf f) = some f := by
  obtain ⟨type, tag, payload⟩ := f
  have named {c : Byte} (h : type.toNat = c.toNat) :
      some (Frame.mk c tag payload) = some ⟨type, tag, payload⟩ := by
    rw [BitVec.eq_of_toNat_eq h]
  unfold commandOf
  split
  case h_46 => rfl
  all_goals next h => exact named h

/-! ## Frames that wait -/

/-- The decoder takes nothing while it may not (R172). -/
theorem State.decode_waiting {s : State} (h : s.pl.mayTake = false) : s.decode = s := by
  unfold State.decode State.drain
  split
  · rfl
  · split
    · rfl
    · rw [if_neg (by simp [h])]

/-- A frame that may not be taken yet keeps its slot (R171). -/
theorem arrive_waiting (f : Frame) {s : State} (free : s.pl.slots.length < 4)
    (h : s.pl.mayTake = false) : arrive f s = { s with pl.slots := s.pl.slots ++ [f] } :=
  (if_pos free).trans
    (State.decode_waiting (s := { s with pl.slots := s.pl.slots ++ [f] }) h)

/-- A frame that finds every slot full is lost (R171). -/
theorem arrive_overrun (f : Frame) {s : State} (full : s.pl.slots.length = 4) :
    arrive f s = { s with pl.errs.overrun := true
                          pl.replies := queued s.pl.replies 5#8 f.tag } :=
  (if_neg (Nat.not_lt.mpr full.ge)).trans rfl

theorem Pl.mayTake_false {p : Pl} (h : p.replies.length = 4 ∨ p.rstTaken = true) :
    p.mayTake = false := by
  rw [← Bool.not_eq_true, Pl.mayTake_iff]
  rintro ⟨room, noRst⟩
  rcases h with full | rst
  · exact absurd full (Nat.ne_of_lt room)
  · exact absurd (rst.symm.trans noRst) (by decide)

/-! ## Commands that are refused -/

/-- An answer that does not take its command leaves the blocks alone (R183). -/
def Blocks.SameUnlessOk (b : Blocks) (a : Answer) : Prop := a.2.head? ≠ some 0x00#8 → a.1 = b

theorem Blocks.sameUnlessOk_okWith (b b' : Blocks) (l : List Byte) :
    b.SameUnlessOk (okWith b' l) := fun h => absurd rfl h

/-- A command that fails a test is refused before its owner acts (R183). -/
theorem Blocks.sameUnlessOk_judgeWith {b : Blocks} {a : Answer} (h : b.SameUnlessOk a)
    (l : List (Bool × Code)) (g : Code → List Byte) : b.SameUnlessOk (b.judgeWith l g a) := by
  unfold Blocks.judgeWith
  split
  · exact fun _ => rfl
  · exact h

/-- Every owner but that of DDATA refuses a command as a whole (R12, R183). -/
theorem answer_sameUnlessOk (errs : LinkFlags) {f : Frame} (b : Blocks) (h : f.type ≠ 0x11#8) :
    b.SameUnlessOk (answer errs f b) := by
  have framed := frameOf_commandOf f
  unfold answer
  split
  case h_11 named =>
    rw [named] at framed
    cases framed
    exact absurd rfl h
  case h_41 =>
    refine Blocks.sameUnlessOk_judgeWith ?_ _ _
    split
    · exact b.sameUnlessOk_okWith _ _
    · exact fun _ => rfl
  case h_46 => exact fun _ => rfl
  all_goals exact Blocks.sameUnlessOk_judgeWith (b.sameUnlessOk_okWith _ _) _ _

/-- A refusal of STAT or RST is one reply too: only where it is taken does STAT clear flags and RST
begin its wait (R166, R170). -/
theorem takeFrame_refused (f : Frame) (s : State)
    (h : (answer s.pl.errs f s.blk).2.head? ≠ some 0x00#8) :
    s.takeFrame f
      = s.replied f.type f.tag (answer s.pl.errs f s.blk).2 (answer s.pl.errs f s.blk).1 := by
  have notOk : isOk (answer s.pl.errs f s.blk).2 = false := beq_eq_false_iff_ne.mpr h
  simp [State.takeFrame, State.replied, replyFrame, notOk]

end Sys2Proof.Machine

namespace Sys2Proof.Proofs

open Sys2Proof.Machine Sys2Proof.Claims

/-- Settles O10: the command read back from the frame it makes, and the words of the table. -/
theorem framesNameTheirCommands : Obligations.FramesNameTheirCommands :=
  ⟨fun _ _ hi hf => commandOf_frameOf hi hf, rfl, rfl, rfl, rfl, rfl, rfl, rfl, rfl, rfl⟩

/-- Settles O13: a frame that arrives while the decoder may take none is held, or lost where no slot is
free. -/
theorem framesAreHeldOrOverrun : Obligations.FramesAreHeldOrOverrun := by
  have held (i : Instr) (f : Frame) (s : State) (hf : frameOf i = some f)
      (free : s.pl.slots.length < 4) (waits : s.pl.replies.length = 4 ∨ s.pl.rstTaken = true) :
      exec i s = .next { s with pl.slots := s.pl.slots ++ [f] } := by
    rw [exec_eq_hostFrame hf, hostFrame, arrive_waiting f free (Pl.mayTake_false waits)]
  refine ⟨fun s awake => ?ready, fun i f s hf three waits => ?last,
    fun i f s hf => ⟨held i f s hf, fun full => ?lost⟩⟩
  case ready => rw [Pl.ready_of_awake awake, decide_eq_true_iff]
  case last =>
    have four : (s.pl.slots ++ [f]).length = 4 := by
      rw [List.length_append, three, List.length_singleton]
    refine ⟨_, held i f s hf (three.trans_lt (by decide)) waits, four, ?_⟩
    show (!s.pl.makingReady && decide ((s.pl.slots ++ [f]).length < 4)) = false
    rw [four, Bool.and_eq_false_iff]
    exact Or.inr rfl
  case lost => rw [exec_eq_hostFrame hf, hostFrame, arrive_overrun f full]

/-- Settles O14: a refusal is one reply, with the blocks as they were. -/
theorem refusedCommandsChangeNothing : Obligations.RefusedCommandsChangeNothing := by
  intro i f s hf htype hfree hrefused
  have same : (answer s.pl.errs f s.blk).1 = s.blk :=
    answer_sameUnlessOk s.pl.errs s.blk htype hrefused
  rw [exec_eq_hostFrame hf, hostFrame, arrive_free _ _ hfree, takeFrame_refused _ _ hrefused, same]
  rfl

end Sys2Proof.Proofs
end

section
/-!
SUPPORT. The transmitter (R172, R173, R178): a queued frame that leaves, a report whose sending begins,
the HEAD report with its marks, and the frame that a freed place lets in; the statement settled.
-/

namespace Sys2Proof.Machine

open Sys2Proof.Claims

variable {s : State}

/-! ## What an idle transmitter sends -/

/-- The oldest queued frame leaves, and the decoder goes on (R172, R173). -/
theorem State.sendStart_queued {o : Outbound} {rest : List Outbound} (htx : s.pl.tx = none)
    (hqueue : s.pl.replies = o :: rest) :
    s.sendStart = ({ s with pl.tx := some o, pl.replies := rest } : State).decode := by
  rw [State.sendStart, htx, hqueue]

/-- With nothing queued a pending report is sent (R173, R176). -/
theorem State.sendStart_report {k : ReportKind} (htx : s.pl.tx = none) (hqueue : s.pl.replies = [])
    (hk : firstPending (s.blk.ru.pendingSet s.blk.offHeads) = some k) :
    s.sendStart = s.beginReport k := by
  rw [State.sendStart, htx, hqueue]
  dsimp only
  rw [hk]

theorem State.sendStart_nothing (htx : s.pl.tx = none) (hqueue : s.pl.replies = [])
    (hk : firstPending (s.blk.ru.pendingSet s.blk.offHeads) = none) : s.sendStart = s := by
  rw [State.sendStart, htx, hqueue]
  dsimp only
  rw [hk]

/-! ## The decoder after it -/

theorem State.decode_empty (h : s.pl.slots = []) : s.decode = s := by
  rw [State.decode, h]
  rfl

/-- One frame held, and a place for its reply: it is taken (R172). -/
theorem State.decode_one {f : Frame} (h : s.pl.slots = [f]) (hmay : s.pl.mayTake = true) :
    s.decode = State.takeFrame f { s with pl.slots := [] } := by
  rw [State.decode, h]
  show State.drain 1 s = _
  rw [State.drain, h]
  exact if_pos hmay

/-- A frame held behind a full reply queue is taken when the oldest queued frame leaves (R172). -/
theorem State.sendStart_freed {o : Outbound} {rest : List Outbound} {f : Frame}
    (htx : s.pl.tx = none) (hqueue : s.pl.replies = o :: rest) (hroom : rest.length < 4)
    (hrst : s.pl.rstTaken = false) (hslots : s.pl.slots = [f]) :
    s.sendStart = State.takeFrame f
      { s with pl.tx := some o, pl.replies := rest, pl.slots := [] } := by
  refine Eq.trans (State.sendStart_queued htx hqueue) ?_
  exact State.decode_one hslots ((Pl.mayTake_iff _).mpr ⟨hroom, hrst⟩)

/-! ## Reports -/

/-- A report without heads marks none (R173). -/
theorem State.beginReport_other {k : ReportKind} (hk : k ≠ .head) :
    s.beginReport k = { s with
      pl.tx := some ⟨⟨k.type, 0#8, s.blk.snapshot k⟩, .report k⟩
      blk.ru := s.blk.ru.beginSending k } := by
  rw [State.beginReport, if_neg hk]

/-- The snapshot of a HEAD report (R178). -/
theorem Blocks.snapshot_head (b : Blocks) :
    b.snapshot .head = Id8.all.flatMap (fun h =>
      if contributing b h then [byteOf h.num, (carried b h).setWidth 8] else []) := by
  refine congrArg (fun f => Id8.all.flatMap f) (funext fun h => ?_)
  rw [Ru.contributes_eq, ← carried, enc8, enc8, BitVec.ofNat_toNat]
  rfl

/-- The flags that a HEAD report carries are marked (R178). -/
theorem Ru.markCarried_eq (b : Blocks) :
    b.ru.markCarried b.offHeads = { b.ru with
      heads := Eight.tabulate (fun h =>
        if contributing b h then { b.ru.heads.get h with marks := carried b h }
        else b.ru.heads.get h) } := by
  refine congrArg (fun f => { b.ru with heads := Eight.tabulate f }) (funext fun h => ?_)
  rw [Ru.contributes_eq]
  rfl

/-- The marks of a HEAD report do not depend on the pending set its kind has left (R173, R178). -/
theorem State.beginReport_head (s : State) :
    s.beginReport .head = { s with
      pl.tx := some ⟨⟨0xE3#8, 0#8, s.blk.snapshot .head⟩, .report .head⟩
      blk.ru := (s.blk.ru.markCarried s.blk.offHeads).beginSending .head } := rfl

end Sys2Proof.Machine

namespace Sys2Proof.Proofs

open Sys2Proof.Machine Sys2Proof.Claims

/-- Settles O16: the frame an idle transmitter chooses, and the decoding that a place freed by it
allows. -/
theorem transmitterSendsRepliesFirst : Obligations.TransmitterSendsRepliesFirst := by
  refine ⟨fun s => ⟨fun o rest htx hqueue hslots => ?queued, fun k htx hqueue hk hpending => ?report,
    fun htx hqueue hpending => ?head, fun htx hqueue hpending => ?nothing⟩,
    fun s o rest tag htx hqueue hroom hrst hslots => ?freed⟩
  case queued =>
    exact congrArg Host.Outcome.next ((State.sendStart_queued htx hqueue).trans
      (State.decode_empty hslots))
  case report =>
    exact congrArg Host.Outcome.next ((State.sendStart_report htx hqueue hpending).trans
      (State.beginReport_other hk))
  case head =>
    refine congrArg Host.Outcome.next ((State.sendStart_report htx hqueue hpending).trans ?_)
    rw [State.beginReport_head, Blocks.snapshot_head, Ru.markCarried_eq]
    rfl
  case nothing => exact congrArg Host.Outcome.next (State.sendStart_nothing htx hqueue hpending)
  case freed =>
    have sent : exec .sendStart s = .next
        { s with pl.tx := some o
                 pl.slots := []
                 pl.errs := ⟨false, false, false, false, false⟩
                 pl.replies := rest ++
                   [⟨⟨0x88#8, tag, 0x00#8 :: s.blk.statBytes s.pl.errs⟩, .reply⟩] } := by
      refine congrArg Host.Outcome.next
        ((State.sendStart_freed htx hqueue hroom hrst hslots).trans ?_)
      rw [takeFrame_stat, Blocks.statBytes_eq]
    exact ⟨fun awake => ⟨_, sent, Pl.ready_of_awake awake⟩, sent⟩

end Sys2Proof.Proofs
end

section
/-!
SUPPORT. MASK and EVCLR (R179, R180): the row of each, with its masks and flags read as bits; the
statement settled.
-/

namespace Sys2Proof.Machine

open Sys2Proof.Claims

/-! ## Bits that a byte names -/

theorem enc8_toNat (m : Byte) : enc8 m.toNat = [m] := by
  rw [enc8, BitVec.ofNat_toNat, BitVec.setWidth_eq]

/-- A byte that names no bit beyond the width is shown again whole. -/
theorem enc8_setWidth {w : Nat} {m : Byte} (h : m.toNat < 2 ^ w) :
    enc8 (m.setWidth w).toNat = [m] := by
  rw [BitVec.toNat_setWidth, Nat.mod_eq_of_lt h, enc8_toNat]

/-- The masks that a MASK frame names (R179). -/
theorem Ru.setMasks_bytes (r : Ru) (a b c : Byte) :
    r.setMasks (BitVec.ofNat 6 a.toNat) (BitVec.ofNat 8 b.toNat) (BitVec.ofNat 4 c.toNat)
      = { r with
          kindMask := a.setWidth 6, headMask := b, eventMask := c.setWidth 4
          maskedSince := r.maskedSince ||| a.setWidth 6
          pend := r.pend &&& ~~~(a.setWidth 6) } := by
  rw [BitVec.ofNat_toNat, BitVec.ofNat_toNat, BitVec.ofNat_toNat, BitVec.setWidth_eq, Ru.setMasks]

/-! ## MASK and EVCLR -/

/-- The VALUE test of MASK: undefined bits and the reserved byte are 0 (R179). -/
theorem maskValue_iff (a c d : Byte) :
    (decide (a.toNat < 64) && decide (c.toNat < 16) && d.toNat == 0) = true
      ↔ ¬ (64 ≤ a.toNat ∨ 16 ≤ c.toNat ∨ d ≠ 0#8) := by
  have reserved : d.toNat = 0 ↔ d = 0#8 := BitVec.toNat_inj (y := 0#8)
  simp only [Bool.and_eq_true, decide_eq_true_eq, beq_iff_eq, reserved, not_or, Nat.not_le, not_not,
    and_assoc]

theorem cmdMask_row (tag a b c d : Byte) (k : Blocks) :
    cmdMask tag [a, b, c, d] k =
      if 64 ≤ a.toNat ∨ 16 ≤ c.toNat ∨ d ≠ 0#8 then refused k 0x03#8
      else ({ k with ru := { k.ru with
                kindMask := a.setWidth 6, headMask := b, eventMask := c.setWidth 4
                maskedSince := k.ru.maskedSince ||| a.setWidth 6
                pend := k.ru.pend &&& ~~~(a.setWidth 6) } },
             [0x00#8, a, b, c]) := by
  refine (k.judge_length [a, b, c, d] rfl _ _).trans
    ((k.judge_unless (maskValue_iff a c d) .value [] _).trans
      (ite_congr rfl (fun _ => rfl) fun taken => ?_))
  obtain ⟨kinds, events, -⟩ : a.toNat < 64 ∧ c.toNat < 16 ∧ ¬ d ≠ 0#8 := by
    simpa only [not_or, Nat.not_le] using taken
  simp only [u8_zero, u8_succ]
  rw [Blocks.judge_nil, Ru.setMasks_bytes]
  dsimp only
  rw [enc8_setWidth kinds, enc8_toNat, enc8_setWidth events]
  rfl

theorem cmdEvclr_row (tag n m : Byte) (b : Blocks) :
    cmdEvclr tag [n, m] b = headNamedOn b n (fun h =>
      if 16 ≤ m.toNat then refused b 0x03#8
      else
        let f := b.ru.heads.get h
        let f' : HeadFlags := ⟨f.flags &&& ~~~(m.setWidth 4), f.marks &&& ~~~(m.setWidth 4)⟩
        ({ b with ru.heads := b.ru.heads.set h f' }, [0x00#8, BitVec.setWidth 8 f'.flags])) := by
  refine (b.judge_headOn n [m] 2 _ _ rfl).trans (headNamedOn_congr ?_)
  have value : decide (m.toNat < 16) = true ↔ ¬ 16 ≤ m.toNat :=
    decide_eq_true_iff.trans Nat.not_le.symm
  rw [u8_succ, u8_zero, b.judge_unless value, Blocks.judge_nil, id8At_cons, BitVec.ofNat_toNat,
    Eight.update_eq_set]
  dsimp only
  rw [Eight.get_set_same, enc8, BitVec.ofNat_toNat]
  rfl

end Sys2Proof.Machine

namespace Sys2Proof.Proofs

open Sys2Proof.Machine Sys2Proof.Claims

/-- Settles O22: the rows of MASK and EVCLR. -/
theorem maskAndEvclrByTheirTables : Obligations.MaskAndEvclrByTheirTables :=
  ⟨fun tag a b c d s hfree =>
      (exec_mask _ _ _ hfree).trans (next_answered (cmdMask_row tag a b c d s.blk)),
    fun tag n m s hfree =>
      (exec_evclr _ _ _ hfree).trans (next_answered (cmdEvclr_row tag n m s.blk))⟩

end Sys2Proof.Proofs
end

section
/-!
SUPPORT. A step with a command waiting: the queue alone decides what a step does (log 29); the statement
settled.
-/

namespace Sys2Proof.Proofs

open Sys2Proof.Machine

/-- Settles O1: of the two forms of the queue that a step tells apart, the one with a command at the
front is the command's meaning. -/
theorem stepTakesTheFrontCommand : Obligations.StepTakesTheFrontCommand := by
  intro c rest s hfront
  rw [step, hfront]

end Sys2Proof.Proofs
end
